-- ==== Sys2Proof/Word.lean ====
section
/-! DEFINITION. The byte of the port frames and table images. Every other quantity of the manual
is an integer in a unit of its own (00_scope.md, section 5.2) and is held as `Int` or `Nat`. -/

namespace Sys2Proof

/-- One byte of a frame, a record or a table image. -/
abbrev Byte := BitVec 8

end Sys2Proof
end

