-- ==== Sys2Proof/Syntax.lean ====
section
/-! DEFINITION. The commands of the WT62: one constructor of `Instr` for each row of
spec/opcode_table.json, with the names of ports, axes, fans and channels that their operands use. -/

namespace Sys2Proof

/-- The three ports (R151, R152). -/
inductive Port
  | m | s | v
deriving DecidableEq, Repr

/-- The four lens axes, in the order HS, VS, ZM, FC (R159). -/
inductive Axis
  | hs | vs | zm | fc
deriving DecidableEq, Repr

/-- The three fans (R19). -/
inductive Fan
  | f0 | f1 | f2
deriving DecidableEq, Repr

/-- The ten analog channels, in sweep order (section 1.1, R2). -/
inductive Channel
  | lsh | phw | img | int | exh | lns | psu | brd | acy | acz
deriving DecidableEq, Repr

/-- The debounced COVER input (R42). -/
inductive Cover
  | closed | opened
deriving DecidableEq, Repr

/-- One value for each port. -/
structure PerPort (α : Type) where
  m : α
  s : α
  v : α
deriving DecidableEq, Repr

/-- One value for each axis. -/
structure PerAxis (α : Type) where
  hs : α
  vs : α
  zm : α
  fc : α
deriving DecidableEq, Repr

/-- One value for each fan. -/
structure PerFan (α : Type) where
  f0 : α
  f1 : α
  f2 : α
deriving DecidableEq, Repr

/-- One value for each channel. -/
structure PerChannel (α : Type) where
  lsh : α
  phw : α
  img : α
  int : α
  exh : α
  lns : α
  psu : α
  brd : α
  acy : α
  acz : α
deriving DecidableEq, Repr

def PerPort.get {α : Type} (x : PerPort α) : Port → α
  | .m => x.m
  | .s => x.s
  | .v => x.v

def PerPort.set {α : Type} (x : PerPort α) (p : Port) (y : α) : PerPort α :=
  match p with
  | .m => { x with m := y }
  | .s => { x with s := y }
  | .v => { x with v := y }

def PerPort.same {α : Type} (y : α) : PerPort α := ⟨y, y, y⟩

def PerAxis.get {α : Type} (x : PerAxis α) : Axis → α
  | .hs => x.hs
  | .vs => x.vs
  | .zm => x.zm
  | .fc => x.fc

def PerAxis.set {α : Type} (x : PerAxis α) (a : Axis) (y : α) : PerAxis α :=
  match a with
  | .hs => { x with hs := y }
  | .vs => { x with vs := y }
  | .zm => { x with zm := y }
  | .fc => { x with fc := y }

def PerAxis.map {α β : Type} (f : α → β) (x : PerAxis α) : PerAxis β :=
  ⟨f x.hs, f x.vs, f x.zm, f x.fc⟩

def PerAxis.same {α : Type} (y : α) : PerAxis α := ⟨y, y, y, y⟩

def PerFan.get {α : Type} (x : PerFan α) : Fan → α
  | .f0 => x.f0
  | .f1 => x.f1
  | .f2 => x.f2

def PerFan.set {α : Type} (x : PerFan α) (f : Fan) (y : α) : PerFan α :=
  match f with
  | .f0 => { x with f0 := y }
  | .f1 => { x with f1 := y }
  | .f2 => { x with f2 := y }

def PerFan.map {α β : Type} (f : α → β) (x : PerFan α) : PerFan β := ⟨f x.f0, f x.f1, f x.f2⟩

def PerFan.same {α : Type} (y : α) : PerFan α := ⟨y, y, y⟩

def PerChannel.get {α : Type} (x : PerChannel α) : Channel → α
  | .lsh => x.lsh
  | .phw => x.phw
  | .img => x.img
  | .int => x.int
  | .exh => x.exh
  | .lns => x.lns
  | .psu => x.psu
  | .brd => x.brd
  | .acy => x.acy
  | .acz => x.acz

def PerChannel.set {α : Type} (x : PerChannel α) (c : Channel) (y : α) : PerChannel α :=
  match c with
  | .lsh => { x with lsh := y }
  | .phw => { x with phw := y }
  | .img => { x with img := y }
  | .int => { x with int := y }
  | .exh => { x with exh := y }
  | .lns => { x with lns := y }
  | .psu => { x with psu := y }
  | .brd => { x with brd := y }
  | .acy => { x with acy := y }
  | .acz => { x with acz := y }

def PerChannel.map {α β : Type} (f : α → β) (x : PerChannel α) : PerChannel β :=
  ⟨f x.lsh, f x.phw, f x.img, f x.int, f x.exh, f x.lns, f x.psu, f x.brd, f x.acy, f x.acz⟩

/-- The input levels that a part reset end reads (R36, R78, R174): MAIN_GOOD high, the COVER
input, and each HOME_x input high. -/
structure InputLevels where
  mainGood : Bool
  cover : Cover
  homes : PerAxis Bool
deriving DecidableEq, Repr

/-- The two sources of the row PART_RESET (R173): standby-rail power-up and the RESET pin. -/
inductive ResetSource
  | powerUp | resetPin
deriving DecidableEq, Repr

/-- The commands and events of the part, one constructor for each row of the table, in its order.
A port command carries the port its frame arrived on and the payload bytes of the frame (R153). -/
inductive Instr
  | status (port : Port) (payload : List Byte)
  | events (port : Port) (payload : List Byte)
  | mask (port : Port) (payload : List Byte)
  | sensor (port : Port) (payload : List Byte)
  | axis (port : Port) (payload : List Byte)
  | presetRead (port : Port) (payload : List Byte)
  | lightOn (port : Port) (payload : List Byte)
  | lightOff (port : Port) (payload : List Byte)
  | acoustic (port : Port) (payload : List Byte)
  | powerDown (port : Port) (payload : List Byte)
  | powerUp (port : Port) (payload : List Byte)
  | clearTrip (port : Port) (payload : List Byte)
  | move (port : Port) (payload : List Byte)
  | home (port : Port) (payload : List Byte)
  | stop (port : Port) (payload : List Byte)
  | presetSave (port : Port) (payload : List Byte)
  | presetErase (port : Port) (payload : List Byte)
  | presetRecall (port : Port) (payload : List Byte)
  | trims (port : Port) (payload : List Byte)
  | keystone (port : Port) (payload : List Byte)
  | orientation (port : Port) (payload : List Byte)
  | rebuild (port : Port) (payload : List Byte)
  | drift (port : Port) (payload : List Byte)
  | profileWrite (port : Port) (payload : List Byte)
  | profileRead (port : Port) (payload : List Byte)
  | resetPart (port : Port) (payload : List Byte)
  | openTable (port : Port) (payload : List Byte)
  | readTable (port : Port) (payload : List Byte)
  | takeTable (port : Port) (payload : List Byte)
  | dropTable (port : Port) (payload : List Byte)
  | bankStatus (port : Port) (payload : List Byte)
  /-- A complete frame with a code that is in no row of R160. -/
  | unknownCommand (port : Port) (code : Byte) (payload : List Byte)
  /-- An exchange: the whole bytes received, and the clocks of a last unfinished byte (SPI). -/
  | brokenFrame (port : Port) (bytes : List Byte) (bits : Nat)
  /-- A response read that clocks out `count` bytes after the 0xFF byte (SPI) or after the
  address (I2C). -/
  | responseRead (port : Port) (count : Nat)
  | partReset (source : ResetSource)
  | resetEnd (levels : InputLevels)
  | mainRailRise
  | mainRailLoss
  | coverChange (cover : Cover)
  | homeSwitchChange (axis : Axis) (asserted : Bool)
  /-- A high phase of TACHx that lasted `width` microseconds and ends now. -/
  | tachPulse (fan : Fan) (width : Nat)
  | sweepStart
  | standbyBrdConversion
  | conversionComplete (channel : Channel) (code : BitVec 12)
  | gateEnd
  | provingDeadlineExpiry
  | step (axis : Axis)
  | dwellExpiry (axis : Axis)
  | buildEnd
  | loanExpiry
  | nvWriteEnd
deriving DecidableEq, Repr

end Sys2Proof
end

