-- ==== Sys2Proof/Machine/Frames.lean ====
section
/-! DEFINITION. The frames of the ports: the command list of R160 with its codes, ports and payload
lengths, and the classes of an exchange (R151 to R154). -/

namespace Sys2Proof.Machine

/-- The commands of R160, in its order. -/
inductive Cmd
  | status | events | mask | sensor | axis | presetRead | lightOn | lightOff | acoustic | powerDown
  | powerUp | clearTrip | move | home | stop | presetSave | presetErase | presetRecall | trims
  | keystone | orientation | rebuild | drift | profileWrite | profileRead | resetPart | openTable
  | readTable | takeTable | dropTable | bankStatus
deriving DecidableEq, Repr

/-- The command codes of R160. -/
def cmdCode : Cmd → Byte
  | .status => 0x01
  | .events => 0x02
  | .mask => 0x03
  | .sensor => 0x04
  | .axis => 0x05
  | .presetRead => 0x06
  | .lightOn => 0x10
  | .lightOff => 0x11
  | .acoustic => 0x12
  | .powerDown => 0x18
  | .powerUp => 0x19
  | .clearTrip => 0x1A
  | .move => 0x20
  | .home => 0x21
  | .stop => 0x22
  | .presetSave => 0x28
  | .presetErase => 0x29
  | .presetRecall => 0x2A
  | .trims => 0x30
  | .keystone => 0x31
  | .orientation => 0x32
  | .rebuild => 0x33
  | .drift => 0x34
  | .profileWrite => 0x38
  | .profileRead => 0x39
  | .resetPart => 0x3F
  | .openTable => 0x40
  | .readTable => 0x41
  | .takeTable => 0x42
  | .dropTable => 0x43
  | .bankStatus => 0x44

/-- Every command, in the order of R160. -/
def allCmds : List Cmd :=
  [.status, .events, .mask, .sensor, .axis, .presetRead, .lightOn, .lightOff, .acoustic,
   .powerDown, .powerUp, .clearTrip, .move, .home, .stop, .presetSave, .presetErase,
   .presetRecall, .trims, .keystone, .orientation, .rebuild, .drift, .profileWrite, .profileRead,
   .resetPart, .openTable, .readTable, .takeTable, .dropTable, .bankStatus]

/-- The command that a code names, or none (first check of R155). -/
def cmdOfCode (code : Byte) : Option Cmd := allCmds.find? (fun c => cmdCode c == code)

/-- The ports on which R160 permits a command (second check of R155). -/
def cmdPermitted (c : Cmd) (p : Port) : Bool :=
  match c with
  | .status | .events | .mask | .powerDown | .powerUp | .clearTrip | .stop | .presetRecall =>
    p == .m || p == .s
  | .sensor | .axis | .presetRead | .lightOn | .lightOff | .acoustic | .move | .home | .presetSave
  | .presetErase | .trims | .keystone | .orientation | .rebuild | .drift | .profileWrite
  | .profileRead => p == .m
  | .resetPart => p == .s
  | .openTable | .readTable | .takeTable | .dropTable | .bankStatus => p == .v

/-- The payload lengths of R160 (third check of R155): PROFILE_WRITE takes 4 to 255 bytes, every
other command one length. -/
def cmdLengthOk (c : Cmd) (n : Nat) : Bool :=
  match c with
  | .status | .events | .lightOff | .powerDown | .powerUp | .clearTrip | .rebuild | .resetPart
  | .openTable | .bankStatus => n == 0
  | .sensor | .axis | .presetRead | .acoustic | .stop | .presetErase | .keystone | .orientation
  | .drift => n == 1
  | .mask | .lightOn | .home | .presetRecall | .dropTable => n == 2
  | .profileRead | .readTable | .takeTable => n == 4
  | .move => n == 7
  | .presetSave => n == 11
  | .trims => n == 16
  | .profileWrite => decide (4 ≤ n) && decide (n ≤ 255)

/-- What an exchange on a port is (R151, R152, R154). -/
inductive ExchangeClass
  | ignored
  | broken
  | read (count : Nat)
  | frame (code : Byte) (payload : List Byte)
deriving DecidableEq, Repr

/-- A command frame of whole bytes: complete when exactly n + 2 bytes came (R153), broken
otherwise (R154). -/
def classifyFrame (bytes : List Byte) : ExchangeClass :=
  match bytes with
  | code :: n :: payload => if payload.length = n.toNat then .frame code payload else .broken
  | _ => .broken

/-- The class of an exchange in which the part received `bytes` and then `bits` clocks of an
unfinished byte. On Ports M and V a first byte 0xFF makes it a response read, which is never
broken (R151, R154); on Port S every write is a command frame (R152). -/
def classifyExchange (p : Port) (bytes : List Byte) (bits : Nat) : ExchangeClass :=
  match p, bytes with
  | .s, [] => .ignored
  | .s, bytes => classifyFrame bytes
  | _, [] => if bits = 0 then .ignored else .broken
  | _, first :: rest =>
    if first = 0xFF then .read rest.length
    else if bits = 0 then classifyFrame (first :: rest)
    else .broken

end Sys2Proof.Machine
end

