-- ==== Sys2Proof/WellFormed.lean ====
section
/-! DEFINITION. Which terms of `Instr` are commands the outside can send: a frame carries at most
255 payload bytes (R153), an unknown command has a code of no row of R160 and, on Ports M and V,
not the 0xFF of a response read (R151), and a broken frame is broken by R154. -/

namespace Sys2Proof

/-- The payload of a port command. -/
def Instr.payload : Instr → List Byte
  | .status _ d | .events _ d | .mask _ d | .sensor _ d | .axis _ d | .presetRead _ d
  | .lightOn _ d | .lightOff _ d | .acoustic _ d | .powerDown _ d | .powerUp _ d | .clearTrip _ d
  | .move _ d | .home _ d | .stop _ d | .presetSave _ d | .presetErase _ d | .presetRecall _ d
  | .trims _ d | .keystone _ d | .orientation _ d | .rebuild _ d | .drift _ d | .profileWrite _ d
  | .profileRead _ d | .resetPart _ d | .openTable _ d | .readTable _ d | .takeTable _ d
  | .dropTable _ d | .bankStatus _ d | .unknownCommand _ _ d => d
  | .brokenFrame _ _ _ | .responseRead _ _ | .partReset _ | .resetEnd _ | .mainRailRise
  | .mainRailLoss | .coverChange _ | .homeSwitchChange _ _ | .tachPulse _ _ | .sweepStart
  | .standbyBrdConversion | .conversionComplete _ _ | .gateEnd | .provingDeadlineExpiry
  | .step _ | .dwellExpiry _ | .buildEnd | .loanExpiry | .nvWriteEnd => []

/-- A command that the outside can send. -/
def Instr.wellFormed (i : Instr) : Bool :=
  decide (i.payload.length ≤ 255) &&
  match i with
  | .unknownCommand p code _ => (Machine.cmdOfCode code).isNone && (p == .s || code != 0xFF)
  | .brokenFrame p bytes bits => decide (Machine.classifyExchange p bytes bits = .broken)
  | _ => true

end Sys2Proof
end

