-- ==== Sys2Proof/Decode.lean ====
section
/-! DEFINITION. The words of the table. spec/opcode_table.json gives no row any bits: the rows are
commands named in words, whose frames are bytes on a port (Machine/Frames.lean). -/

namespace Sys2Proof

/-- The command that a word spells by the table's bits: the table gives none. -/
def decodeTableWord (_nbits _w : Nat) : Option Instr := none

end Sys2Proof
end

