-- ==== Sys2Proof/Machine/Arith.lean ====
section
/-! DEFINITION. The exact arithmetic of the manual (00_scope.md, section 5.3): a quotient is kept as
numerator and positive denominator, and rounded once where a rule names the rounding. -/

namespace Sys2Proof.Machine

/-- Clamp to `lo..hi` (section 5.3). -/
def clamp (lo hi x : Int) : Int := max lo (min hi x)

/-- Round half away of `n / d`, for `d > 0`. -/
def divHalfAway (n d : Int) : Int :=
  if 0 ≤ n then (2 * n + d) / (2 * d) else -((2 * -n + d) / (2 * d))

/-- Round half up of `n / d`, for `d > 0`. -/
def divHalfUp (n d : Int) : Int := (2 * n + d) / (2 * d)

/-- Truncate `n / d`, for `d > 0`. -/
def divTrunc (n d : Int) : Int := if 0 ≤ n then n / d else -(-n / d)

/-- Round down of `n / d`, for `d > 0`. -/
def divDown (n d : Int) : Int := n / d

/-- Round up of `n / d`, for `d > 0`. -/
def divUp (n d : Int) : Int := -(-n / d)

/-- The value at `x` on the line from `(x0, y0)` to `(x1, y1)`, rounded once by `round`. -/
def onSegment (round : Int → Int → Int) (x0 y0 x1 y1 x : Int) : Int :=
  round (y0 * (x1 - x0) + (y1 - y0) * (x - x0)) (x1 - x0)

/-- The piecewise linear function through `points` (rising in x), with the highest point at or
below `x` starting the segment, and the last y at and beyond the last point (R8, R22, R105,
R124). -/
def interpolate (round : Int → Int → Int) : List (Int × Int) → Int → Int
  | [], _ => 0
  | [(_, y)], _ => y
  | (x0, y0) :: (x1, y1) :: rest, x =>
    if x < x1 then onSegment round x0 y0 x1 y1 x else interpolate round ((x1, y1) :: rest) x

end Sys2Proof.Machine
end

