-- ==== Sys2Proof/Machine/Records.lean ====
section
/-! DEFINITION. The records that the twelve blocks keep (00_scope.md section 3), as plain data.
Enumerations stand in the order of their owning rules, since R159 encodes a value by its place. -/

namespace Sys2Proof.Machine

/-! ## SCN, the Scan Unit (chapter 1) -/

/-- Channel condition (R1). -/
inductive Condition
  | unpowered | waiting | normal | short | opened
deriving DecidableEq, Repr

/-- What the last sweep end presented of a channel (R2, R12, R17). -/
structure Shown where
  raw : Option Int
  condition : Condition
  temp : Option Int
deriving DecidableEq, Repr

/-- Channel record (R1). `temp` is the filtered temperature in NORMAL and the held value in a fault
condition; `causeDue` marks a SENSOR cause due at the next sweep end (R2, R4). -/
structure ChannelRecord where
  raw : Option Int
  condition : Condition
  history : List Int
  temp : Option Int
  outRun : Nat
  inRun : Nat
  causeDue : Bool
  shown : Shown
deriving DecidableEq, Repr

/-- FLOOR or CEILING (R15, R16). -/
inductive Orientation
  | floor | ceiling
deriving DecidableEq, Repr

/-- The conversion in progress (R2 to R4): a channel of a full sweep, a standby BRD conversion, or
a BRD conversion left over from a sweep that a main-rail loss abandoned. -/
inductive Conversion
  | idle
  | sweep (channel : Channel)
  | standby
  | leftover
deriving DecidableEq, Repr

/-- The Scan Unit. The window holds pairs (ACY code, ACZ code), oldest first (R13). -/
structure Scn where
  channels : PerChannel ChannelRecord
  conversion : Conversion
  window : List (Int × Int)
  ysum : Int
  zsum : Int
  tangent : Int
  detected : Orientation
  motion : Bool
deriving DecidableEq, Repr

/-! ## AFC, the Airflow Controller (chapter 2) -/

/-- Acoustic mode (R23). -/
inductive AcousticMode
  | quiet | standard | highAltitude
deriving DecidableEq, Repr

/-- Fan state (R19). -/
inductive FanState
  | stopped | kick | proving | running | failed
deriving DecidableEq, Repr

/-- Fan record (R19). The duty is the level now on the FANx output. -/
structure FanRecord where
  state : FanState
  target : Int
  capped : Bool
  measured : Int
  duty : Int
  kick : Nat
  proving : Nat
  stall : Nat
deriving DecidableEq, Repr

/-- The Airflow Controller: `heat` is none for channels 8 and 9 (R17). -/
structure Afc where
  mode : AcousticMode
  fans : PerFan FanRecord
  pulses : PerFan Nat
  heat : PerChannel (Option Int)
deriving DecidableEq, Repr

/-! ## LPS, the Light and Power Supervisor (chapter 3) -/

/-- Power state (R36). -/
inductive Power
  | off | starting | ready | lit | cooling | cooled | tripped
deriving DecidableEq, Repr

/-- Trip kind (R48). -/
inductive TripKind
  | sensorFault | tempLimit | blowerFailed | fansFailed | proveTimeout
deriving DecidableEq, Repr

/-- The subject of a trip (R48): a channel, or a set of fans. -/
inductive TripSubject
  | channel (c : Channel)
  | fans (set : PerFan Bool)
deriving DecidableEq, Repr

/-- Last trip cause (R48). -/
structure TripCause where
  kind : TripKind
  subject : TripSubject
  temp : Option Int
deriving DecidableEq, Repr

/-- Supervisor record (R36) with its three output lines. `deadline` is the time left of the proving
deadline and `cooling` the time since POWER_DOWN, both in ms and none when stopped. -/
structure Lps where
  power : Power
  latch : Bool
  lastTrip : Option TripCause
  proven : Bool
  deadline : Option Nat
  cooling : Option Nat
  request : Option Int
  derate : Int
  effLimit : Int
  cover : Cover
  unplanned : Bool
  lightEn : Bool
  lightLevel : Int
  cutOk : Bool
deriving DecidableEq, Repr

/-! ## LDU, the Lens Drive Unit (chapter 4) -/

/-- Axis state (R61, R62). -/
inductive AxisState
  | lost | homing | idle | moving
deriving DecidableEq, Repr

/-- Direction (R61). -/
inductive Direction
  | positive | negative
deriving DecidableEq, Repr

/-- Phase (R61); none is the absence of one. -/
inductive Phase
  | travel | overshootReturn | stopRamp | reverse | yielded | seek | release
deriving DecidableEq, Repr

/-- End action of a stop ramp (R70). -/
inductive EndAction
  | replan | cancel | yield | home
deriving DecidableEq, Repr

/-- What a reversal dwell leads to: the return leg of the plan (R68), the first leg of a plan made
at the end of a stop ramp (R67), a new plan (R72), a homing (R72, R75), or a stage of a homing
in progress (R76). -/
inductive DwellEnd
  | returnLeg | firstLeg | replan | homing | seek | release
deriving DecidableEq, Repr

/-- A drive slot (R63). -/
inductive DriveSlot
  | slot0 | slot1
deriving DecidableEq, Repr

/-- Source of a request (R85). -/
inductive Source
  | m | recall | drift
deriving DecidableEq, Repr

/-- Grant mode (R85). -/
inductive GrantMode
  | shared | held
deriving DecidableEq, Repr

/-- Outcome of a request (R83, R94). -/
inductive MoveOutcome
  | done | superseded | cancelled | limitHit | homeNotFound | powerLost
deriving DecidableEq, Repr

/-- Axis record (R61), with what the manual implies beside it: where the leg in progress ends, what
the dwell in progress leads to, the debounced home switch (R78), the lines DRV_EN_x, DIR_x, and the
direction of the last step taken, which `direction` gives at rest (R61) and a plan starts from
(R67). -/
structure AxisRecord where
  state : AxisState
  position : Option Int
  maxInForce : Int
  target : Option Int
  start : Option Int
  direction : Direction
  phase : Option Phase
  endAction : Option EndAction
  slot : Option DriveSlot
  tag : Option Byte
  source : Option Source
  mode : Option GrantMode
  rate : Option Int
  remaining : Int
  segment : Nat
  legEnd : Int
  dwell : Option DwellEnd
  switch : Bool
  drvEn : Bool
  dirHigh : Bool
  lastStep : Direction
deriving DecidableEq, Repr

/-- The Lens Drive Unit. A drive slot is free when no axis record holds it (R63). -/
structure Ldu where
  axes : PerAxis AxisRecord
deriving DecidableEq, Repr

/-! ## MSC, the Move Scheduler (chapter 5) -/

/-- Kind and value of a request (R85). -/
inductive ReqKind
  | absolute (target : Int)
  | relative (delta : Int)
  | home
deriving DecidableEq, Repr

/-- The focus compensation of a recall's FC member and the saved anchor temperature (R85, R101). -/
structure Compensation where
  steps : Int
  saved : Int
deriving DecidableEq, Repr

/-- What MSC keeps with a request, pending or in force: issuing port, arrival stamp, group flag and
compensation (R85). -/
structure Book where
  port : Option Port
  stamp : Nat
  member : Bool
  comp : Option Compensation
deriving DecidableEq, Repr

/-- A request record (R85). -/
structure Request where
  axis : Axis
  kind : ReqKind
  mode : GrantMode
  follow : Option Axis
  tag : Byte
  source : Source
  book : Book
deriving DecidableEq, Repr

/-- Last-result record (R94). -/
structure LastResult where
  tag : Option Byte
  source : Option Source
  outcome : Option MoveOutcome
  final : Option Int
deriving DecidableEq, Repr

/-- Progress of a group member (R96). -/
inductive Progress
  | waiting | running | done | superseded | cancelled | limitHit | powerLost
deriving DecidableEq, Repr

/-- Outcome of a recall group (R96). -/
inductive GroupOutcome
  | inProgress | done | superseded | lost | cancelled
deriving DecidableEq, Repr

/-- Recall group record (R96). -/
structure Group where
  slot : Fin 10
  tag : Byte
  port : Port
  members : PerAxis (Option Progress)
  outcome : GroupOutcome
deriving DecidableEq, Repr

/-- The Move Scheduler. R85 allows one pending record per axis, so the list has one place for each;
its order of arrival is the order of the stamps. -/
structure Msc where
  pending : PerAxis (Option Request)
  nextStamp : Nat
  inForce : PerAxis (Option Book)
  favoured : Axis
  last : PerAxis LastResult
  group : Option Group
deriving DecidableEq, Repr

/-! ## GEO, the Geometry Engine (chapter 7) -/

/-- One corner's trim (R116). -/
structure Trim where
  dx : Int
  dy : Int
deriving DecidableEq, Repr

/-- The four corner trims (R116). -/
structure Trims where
  tl : Trim
  tr : Trim
  bl : Trim
  br : Trim
deriving DecidableEq, Repr

/-- Orientation mode (R116). -/
inductive OrientationMode
  | auto | floor | ceiling
deriving DecidableEq, Repr

/-- The geometry settings (R116). -/
structure Settings where
  trims : Trims
  keystone : Bool
  mode : OrientationMode
deriving DecidableEq, Repr

/-- Reject reason (R116). -/
inductive Reject
  | none | horizon | notConvex | tooSmall
deriving DecidableEq, Repr

/-- The inputs of a build (R120). For an unknown axis the position is the one R120 puts in its
place: 0 for ZM, the centre for VS. -/
structure Snapshot where
  tangent : Int
  keystone : Bool
  zm : Int
  zmKnown : Bool
  vs : Int
  vsKnown : Bool
  orientation : Orientation
  trims : Trims
  zoomTable : List (Int × Int)
  vsGain : Int
  vsCentre : Int
deriving DecidableEq, Repr

/-- Geometry record (R116). -/
structure Geo where
  settings : Settings
  building : Bool
  pendingBuild : Bool
  snapshot : Option Snapshot
  lastReject : Reject
deriving DecidableEq, Repr

/-! ## PTB, the Preset Table (chapter 5) -/

/-- The trims group of a preset (R97). -/
structure TrimsGroup where
  trims : Trims
  keystone : Bool
deriving DecidableEq, Repr

/-- Preset record (R97). -/
structure Preset where
  label : List Byte
  positions : PerAxis (Option Int)
  anchor : Option Int
  correction : Option Int
  trims : Option TrimsGroup
deriving DecidableEq, Repr

/-- The ten slots: none is EMPTY (R97). -/
structure Ptb where
  slots : Vector (Option Preset) 10
deriving DecidableEq, Repr

/-! ## FDT, the Focus Drift Tracker (chapter 6) -/

/-- Tracker state (R104). -/
inductive TrackerState
  | suspended | watching | correcting
deriving DecidableEq, Repr

/-- Tracker record (R104). -/
structure Fdt where
  enable : Bool
  anchor : Option Int
  correction : Int
  state : TrackerState
  outstanding : Option Int
deriving DecidableEq, Repr

/-! ## BKM, the Bank Manager (chapter 8) -/

/-- Bank role (R135). -/
inductive Role
  | idle | build | ready | loaned | live
deriving DecidableEq, Repr

/-- One of the three banks. -/
inductive BankId
  | b0 | b1 | b2
deriving DecidableEq, Repr

/-- A table image or part of one: pairs (offset, byte) in canonical form (Machine/Memory.lean). -/
abbrev Memory := List Host.Cell

/-- A bank (R135). -/
structure Bank where
  role : Role
  gen : Nat
  image : Memory
deriving DecidableEq, Repr

/-- One value for each bank. -/
structure PerBank (α : Type) where
  b0 : α
  b1 : α
  b2 : α
deriving DecidableEq, Repr

def PerBank.get {α : Type} (x : PerBank α) : BankId → α
  | .b0 => x.b0
  | .b1 => x.b1
  | .b2 => x.b2

def PerBank.set {α : Type} (x : PerBank α) (b : BankId) (y : α) : PerBank α :=
  match b with
  | .b0 => { x with b0 := y }
  | .b1 => { x with b1 := y }
  | .b2 => { x with b2 := y }

/-- A loan: the bank, its generation and the ms left on the loan timer (R135, R142). -/
structure Loan where
  bank : BankId
  gen : Nat
  left : Nat
deriving DecidableEq, Repr

/-- The Bank Manager with the line TBL_RDY (R135). -/
structure Bkm where
  banks : PerBank Bank
  counter : Nat
  loan : Option Loan
  expiries : Nat
  tblRdy : Bool
deriving DecidableEq, Repr

/-! ## PIF, the Port Interface (chapters 9 and 10) -/

/-- Result codes (R161). -/
inductive Result
  | ok | empty | unknown | notPermitted | badLength | badValue | notReady | noPower | busy
  | slotEmpty | axisLost | coverOpen | tripped | tooHot | noTable | noLoan | stale | checkFail
deriving DecidableEq, Repr

/-- A response record (R156). -/
structure Response where
  result : Result
  code : Byte
  overrun : Bool
  payload : List Byte
deriving DecidableEq, Repr

/-- What PIF keeps per port: the response slot (none is EMPTY) and the frame-loss count; and of the
port's last exchange what the part drove (log 40): its data bytes, and the number of acknowledges it
gave, which only Port S has (R152). -/
structure PortIO where
  slot : Option Response
  frameLoss : Nat
  sent : List Byte
  acked : Nat
deriving DecidableEq, Repr

/-- A set of the twelve causes, bit k for the cause of bit k in R164's table. -/
abbrev CauseSet := BitVec 12

/-- Pending causes, mask and ATTN line of Port M or Port S (R164, R165). -/
structure Attention where
  pending : CauseSet
  mask : CauseSet
  attn : Bool
deriving DecidableEq, Repr

/-- The Port Interface. -/
structure Pif where
  ports : PerPort PortIO
  attnM : Attention
  attnS : Attention
deriving DecidableEq, Repr

/-! ## NVS, the Nonvolatile Store (chapter 10) -/

/-- A stored item: a copy as it was written, with its check value (R171, R172); or one whose contents
are lost and whose check value does not match: never written, or cut off in the writing (R172). -/
inductive Stored (α : Type)
  | damaged
  | written (copy : α) (check : BitVec 16)
deriving DecidableEq, Repr

/-- The eleven items (R171): preset slots 0 to 9 and the geometry settings. -/
inductive Item
  | preset (slot : Fin 10)
  | geometry
deriving DecidableEq, Repr

/-- The write in flight, with the copy taken at its start (R171). -/
inductive Flight
  | preset (slot : Fin 10) (copy : Option Preset)
  | geometry (copy : Settings)
deriving DecidableEq, Repr

/-- The Nonvolatile Store. The dirty set lists each item once, in rising number. -/
structure Nvs where
  dirty : List Item
  inFlight : Option Flight
  slots : Vector (Stored (Option Preset)) 10
  geometry : Stored Settings
deriving DecidableEq, Repr

/-! ## PRF, the Profile Memory (chapter 10) -/

/-- The five sections of the profile (R160, R169). -/
inductive ProfileSection
  | sensor | fan | light | axis | optics
deriving DecidableEq, Repr

/-- The profile: the parameters of each section in the order of R169's table. -/
structure Profile where
  sensor : List Int
  fan : List Int
  light : List Int
  axis : List Int
  optics : List Int
deriving DecidableEq, Repr

end Sys2Proof.Machine
end

