-- ==== Sys2Proof/Config.lean ====
section
/-! DEFINITION. The free values: what the spec leaves open. No constant here has a body, so no
statement can rest on one of its values. -/

namespace Sys2Proof

/-- The order of two blocks inside one row, where the spec allows either or gives none and the
outcome differs: `true` is the first order named at the place of use. Applied to
`State.choices`, which the step advances at each use.
Assumption log 1, 2 and 3. -/
opaque Config.worldChoice : Nat → Bool

/-- The byte that an AXIS answer carries for a tag that is none: R159 gives tags one unsigned
byte and states none for an absent one.
Assumption log 22. -/
opaque Config.absentTag : Byte

/-- The byte that an AXIS answer carries for "slot held: none": R159 states none.
Assumption log 22. -/
opaque Config.absentSlot : Byte

/-- The bytes of a stored preset slot: R171 takes the check value over an item's bytes and states no
layout of them.
Assumption log 8. -/
opaque Config.presetBytes : Option Machine.Preset → List Byte

/-- The bytes of the stored geometry settings: R171 states no layout of them.
Assumption log 8. -/
opaque Config.settingsBytes : Machine.Settings → List Byte

end Sys2Proof
end

