-- ==== Sys2Proof/Machine/Crc.lean ====
section
/-! DEFINITION. The check value of R141, over a table image (R139) and over a stored item (R171). -/

namespace Sys2Proof.Machine

/-- One bit of the check: the register shifts out its top bit, and the polynomial is combined when
that bit differs from the data bit (R141). -/
def crcBit (r : BitVec 16) (b : Bool) : BitVec 16 :=
  if r.msb == b then r <<< 1 else (r <<< 1) ^^^ 0x1021

/-- One byte of the check, most significant bit first (R141). -/
def crcByte (r : BitVec 16) (b : Byte) : BitVec 16 :=
  [7, 6, 5, 4, 3, 2, 1, 0].foldl (fun acc i => crcBit acc (b.getLsbD i)) r

/-- The check value of a byte sequence (R141). -/
def crc (bytes : List Byte) : BitVec 16 := bytes.foldl crcByte 0xFFFF

/-- The check value that is stored with a preset slot (R171). -/
def presetCheck (x : Option Preset) : BitVec 16 := crc (Config.presetBytes x)

/-- The check value that is stored with the geometry settings (R171). -/
def settingsCheck (x : Settings) : BitVec 16 := crc (Config.settingsBytes x)

end Sys2Proof.Machine
end

