-- ==== Sys2Proof/Machine/Defaults.lean ====
section
/-! DEFINITION. The built-in defaults of the profile (R169 and the tables it names), in the order in
which R169 lays the parameters out. -/

namespace Sys2Proof.Machine

/-- Default thermistor table T0 to T16 (section 1.4). -/
def defaultThermTable : List Int :=
  [1500, 1180, 1000, 880, 790, 715, 650, 590, 535, 480, 425, 370, 310, 245, 165, 60, -120]

/-- SENSOR: eight tables, Yoff, Zoff, switch debounce width in tenths of ms (R169). -/
def defaultSensor : List Int :=
  (List.replicate 8 defaultThermTable).flatten ++ [2048, 2048] ++ [40]

/-- FAN: lo and hi of channels 0 to 7 (section 2.2), the three curves (section 2.3), loop gain,
reject width in tenths of ms (R169). -/
def defaultFan : List Int :=
  [400, 750, 500, 900, 350, 600, 250, 400, 350, 600, 250, 500, 400, 750, 300, 600] ++
  [0, 700, 250, 900, 500, 1200, 750, 1600, 1000, 2200] ++
  [0, 800, 250, 1000, 500, 1400, 750, 1900, 1000, 2600] ++
  [0, 1200, 250, 1600, 500, 2200, 750, 2900, 1000, 3600] ++
  [96, 5]

/-- LIGHT: trip and reset of channels 0 to 7 (R47), Ts, Te, Lf, H, cool-done temperature, minimum
and maximum cooling time in ms (R169). -/
def defaultLight : List Int :=
  [900, 700, 1050, 850, 700, 550, 550, 400, 750, 550, 650, 450, 900, 700, 850, 650] ++
  [650, 800, 400, 20, 450, 30000, 240000]

/-- AXIS: maximum, centre, backlash, normal rate, quiet rate of HS, VS, ZM, FC (R59), and the grant
policy, FIXED 0 and ROTATING 1 (R169). -/
def defaultAxis : List Int :=
  [12000, 6000, 40, 1000, 400] ++
  [24000, 12000, 40, 1000, 400] ++
  [8000, 0, 24, 800, 320] ++
  [16000, 0, 16, 1200, 480] ++
  [1]

/-- OPTICS: nine zoom points (R124), VS gain, regeometry step, five drift coefficients
(section 6.2). -/
def defaultOptics : List Int :=
  [0, 4018, 1000, 3800, 2000, 3590, 3000, 3390, 4000, 3200, 5000, 3030, 6000, 2870, 7000, 2710,
   8000, 2557] ++
  [83, 64] ++
  [-30, -36, -42, -50, -58]

/-- The profile after part reset: every parameter at its default (R170). -/
def defaultProfile : Profile :=
  ⟨defaultSensor, defaultFan, defaultLight, defaultAxis, defaultOptics⟩

end Sys2Proof.Machine
end

