-- ==== Sys2Proof/Machine/ResetValues.lean ====
section
/-! DEFINITION. The values that the blocks take at a part reset (R173 and the rules it names), up to
reset end; what a reset end adds stands in Machine/Reset.lean. -/

namespace Sys2Proof.Machine

/-- A channel without code, history or fault in the given condition (R4, R5, R6). -/
def blankChannel (c : Condition) : ChannelRecord :=
  { raw := none, condition := c, history := [], temp := none, outRun := 0, inRun := 0,
    causeDue := false, shown := ⟨none, c, none⟩ }

/-- SCN after part reset (R6). The main-rail channels take their condition at reset end; until
then they are UNPOWERED (log 7). -/
def scnReset : Scn :=
  let off := blankChannel .unpowered
  { channels := ⟨off, off, off, off, off, off, off, blankChannel .waiting, off, off⟩,
    conversion := .idle, window := [], ysum := 0, zsum := 0, tangent := 0, detected := .floor,
    motion := false }

/-- A fan record after part reset (R33). -/
def fanReset : FanRecord :=
  { state := .stopped, target := 0, capped := false, measured := 0, duty := 0, kick := 0,
    proving := 0, stall := 0 }

/-- Heat indices until the first gate end (R33); channels 8 and 9 have none (R17). -/
def heatReset : PerChannel (Option Int) :=
  ⟨some 1000, some 1000, some 1000, some 1000, some 1000, some 1000, some 1000, some 1000,
   none, none⟩

/-- AFC after part reset (R33). -/
def afcReset : Afc :=
  { mode := .standard, fans := .same fanReset, pulses := .same 0, heat := heatReset }

/-- LPS after part reset (R36), with the lines as R173 holds them. The cover state is taken at
reset end; until then it is OPEN (log 38). -/
def lpsReset : Lps :=
  { power := .off, latch := false, lastTrip := none, proven := false, deadline := none,
    cooling := none, request := none, derate := 1000, effLimit := 1000, cover := .opened,
    unplanned := false, lightEn := false, lightLevel := 0, cutOk := false }

/-- An axis record after part reset (R61), with the profile maximum as its maximum in force. The
home switch level is taken at reset end; until then it is released (log 38). -/
def axisReset (profileMax : Int) : AxisRecord :=
  { state := .lost, position := none, maxInForce := profileMax, target := none, start := none,
    direction := .positive, phase := none, endAction := none, slot := none, tag := none,
    source := none, mode := none, rate := none, remaining := 0, segment := 0, legEnd := 0,
    dwell := none, switch := false, drvEn := false, dirHigh := false, lastStep := .positive }

/-- LDU after part reset (R61): the profile is at its defaults (R59). -/
def lduReset : Ldu :=
  { axes := ⟨axisReset 12000, axisReset 24000, axisReset 8000, axisReset 16000⟩ }

/-- A last-result record after part reset (R94). -/
def lastReset : LastResult := ⟨none, none, none, none⟩

/-- MSC after part reset (R85, R94, R95). -/
def mscReset : Msc :=
  { pending := .same none, nextStamp := 0, inForce := .same none, favoured := .hs,
    last := .same lastReset, group := none }

/-- FDT after part reset (R104). -/
def fdtReset : Fdt :=
  { enable := true, anchor := none, correction := 0, state := .suspended, outstanding := none }

/-- The settings that a damaged item loads as (R116, R172). -/
def defaultSettings : Settings :=
  { trims := ⟨⟨0, 0⟩, ⟨0, 0⟩, ⟨0, 0⟩, ⟨0, 0⟩⟩, keystone := true, mode := .auto }

/-- GEO after part reset with the settings as loaded (R116). -/
def geoReset (loaded : Settings) : Geo :=
  { settings := loaded, building := false, pendingBuild := false, snapshot := none,
    lastReject := .none }

/-- A bank after part reset: IDLE, generation 0, every byte 0 (R135). -/
def bankReset : Bank := ⟨.idle, 0, []⟩

/-- BKM after part reset (R135). -/
def bkmReset : Bkm :=
  { banks := ⟨bankReset, bankReset, bankReset⟩, counter := 0, loan := none, expiries := 0,
    tblRdy := false }

/-- A port after part reset (R162). -/
def portReset : PortIO := ⟨none, 0, [], 0⟩

/-- A cause set at the start of a part reset: empty, unmasked, its line released (R164, R165). -/
def attentionReset : Attention := ⟨0, 0, false⟩

/-- PIF after part reset (R162, R164, R165). -/
def pifReset : Pif := ⟨.same portReset, attentionReset, attentionReset⟩

/-- A store that was never written: no item's check value matches (R172, log 8). -/
def nvsBlank : Nvs :=
  { dirty := [], inFlight := none, slots := Vector.replicate 10 .damaged, geometry := .damaged }

/-- The preset slot that a stored item loads as, by the test of its check value (R172). -/
def loadSlot : Stored (Option Preset) → Option Preset
  | .damaged => none
  | .written copy check => if check = presetCheck copy then copy else none

/-- The settings that the stored item loads as, by the test of its check value (R172). -/
def loadSettings : Stored Settings → Settings
  | .damaged => defaultSettings
  | .written copy check => if check = settingsCheck copy then copy else defaultSettings

end Sys2Proof.Machine
end

