-- ==== Sys2Proof/Machine/State.lean ====
section
/-! DEFINITION. The state of the part: the twelve blocks of 00_scope.md section 3, the queue of
waiting commands and the model's two own fields; the reasons a step can stop; and the state at
power-up. -/

namespace Sys2Proof.Machine

/-- The machine. `pending` is the queue of commands, first in first out; `choices` counts the free
orders used (Config.worldChoice); `inReset` says that a part reset is running (R173). -/
structure State where
  pending : List Instr
  choices : Nat
  inReset : Bool
  scn : Scn
  afc : Afc
  lps : Lps
  ldu : Ldu
  msc : Msc
  ptb : Ptb
  fdt : Fdt
  geo : Geo
  bkm : Bkm
  pif : Pif
  nvs : Nvs
  prf : Profile
deriving DecidableEq, Repr

/-- Reasons for a fault: the spec gives the part none (INVENTORY.md, Faults), so the type has no
constructor and no command raises one. -/
inductive Fault
deriving DecidableEq, Repr

/-- Reasons for a refusal of the MODEL (an answer such as BUSY is a response of the part, not a
refusal). -/
inductive Refusal
  /-- Raised by an arm of exec whose command has no meaning yet; safe. No arm raises it. -/
  | notModelled (mnemonic : String)
deriving DecidableEq, Repr

/-- The part at standby-rail power-up: a part reset is running, every block holds the values its
rule states for part reset, and the store was never written (log 7, 8, 38). A RESET_END starts
operation. -/
def State.reset : State :=
  { pending := [], choices := 0, inReset := true,
    scn := scnReset, afc := afcReset, lps := lpsReset, ldu := lduReset, msc := mscReset,
    ptb := ⟨nvsBlank.slots.map loadSlot⟩, fdt := fdtReset,
    geo := geoReset (loadSettings nvsBlank.geometry),
    bkm := bkmReset, pif := pifReset, nvs := nvsBlank, prf := defaultProfile }

end Sys2Proof.Machine
end

