-- ==== Sys2Proof/Machine/Setters.lean ====
section
/-! DEFINITION. One setter for each field of the state and for each numbered record inside it. Every
later operation changes the state through these; Laws/State.lean says what each leaves alone. -/

namespace Sys2Proof.Machine

def State.withPending (s : State) (x : List Instr) : State := { s with pending := x }
def State.withChoices (s : State) (x : Nat) : State := { s with choices := x }
def State.withInReset (s : State) (x : Bool) : State := { s with inReset := x }
def State.withScn (s : State) (x : Scn) : State := { s with scn := x }
def State.withAfc (s : State) (x : Afc) : State := { s with afc := x }
def State.withLps (s : State) (x : Lps) : State := { s with lps := x }
def State.withLdu (s : State) (x : Ldu) : State := { s with ldu := x }
def State.withMsc (s : State) (x : Msc) : State := { s with msc := x }
def State.withPtb (s : State) (x : Ptb) : State := { s with ptb := x }
def State.withFdt (s : State) (x : Fdt) : State := { s with fdt := x }
def State.withGeo (s : State) (x : Geo) : State := { s with geo := x }
def State.withBkm (s : State) (x : Bkm) : State := { s with bkm := x }
def State.withPif (s : State) (x : Pif) : State := { s with pif := x }
def State.withNvs (s : State) (x : Nvs) : State := { s with nvs := x }
def State.withPrf (s : State) (x : Profile) : State := { s with prf := x }

/-- The channel record of a channel (R1). -/
def State.channel (s : State) (c : Channel) : ChannelRecord := s.scn.channels.get c

/-- Replace a channel record. -/
def State.setChannel (s : State) (c : Channel) (x : ChannelRecord) : State :=
  s.withScn { s.scn with channels := s.scn.channels.set c x }

/-- The axis record of an axis (R61). -/
def State.axis (s : State) (a : Axis) : AxisRecord := s.ldu.axes.get a

/-- Replace an axis record. -/
def State.setAxis (s : State) (a : Axis) (x : AxisRecord) : State :=
  s.withLdu { s.ldu with axes := s.ldu.axes.set a x }

/-- The record of a port (R156). -/
def State.port (s : State) (p : Port) : PortIO := s.pif.ports.get p

/-- Replace the record of a port. -/
def State.setPort (s : State) (p : Port) (x : PortIO) : State :=
  s.withPif { s.pif with ports := s.pif.ports.set p x }

end Sys2Proof.Machine
end

