-- ==== Sys2Proof/Machine/Flags.lean ====
section
/-! DEFINITION. Event causes and attention (section 10.1): raising a cause, the pending sets, the
masks and the ATTN lines. -/

namespace Sys2Proof.Machine

/-- The causes, in the bit order of R164's table. -/
inductive Cause
  | partReset | state | trip | fan | sensor | light | move | recall | nv | geometry | live | frame
deriving DecidableEq, Repr

/-- The bit of a cause (R164). -/
def causeBit : Cause → CauseSet
  | .partReset => 1 <<< 0
  | .state => 1 <<< 1
  | .trip => 1 <<< 2
  | .fan => 1 <<< 3
  | .sensor => 1 <<< 4
  | .light => 1 <<< 5
  | .move => 1 <<< 6
  | .recall => 1 <<< 7
  | .nv => 1 <<< 8
  | .geometry => 1 <<< 9
  | .live => 1 <<< 10
  | .frame => 1 <<< 11

/-- Whether a set holds a cause. -/
def causeHeld (x : CauseSet) (c : Cause) : Bool := x &&& causeBit c != 0

/-- The level of ATTN that the set and the mask call for: asserted while the set holds a cause that
is not masked, or TRIP (R165). -/
def attnLevel (pending mask : CauseSet) : Bool :=
  pending &&& ~~~mask != 0 || causeHeld pending .trip

/-- Set pending set and mask, and the line at the same moment (R165). -/
def attentionWith (pending mask : CauseSet) : Attention :=
  ⟨pending, mask, attnLevel pending mask⟩

/-- The attention record of a port; Port V has none (R164). -/
def Pif.attention (x : Pif) : Port → Attention
  | .m => x.attnM
  | .s => x.attnS
  | .v => attentionReset

/-- Replace the attention record of a port; Port V has none (R164). -/
def Pif.setAttention (x : Pif) (p : Port) (y : Attention) : Pif :=
  match p with
  | .m => { x with attnM := y }
  | .s => { x with attnS := y }
  | .v => x

/-- A cause joins the pending set of one port (R164). -/
def Pif.raise (x : Pif) (c : Cause) (p : Port) : Pif :=
  x.setAttention p
    (attentionWith ((x.attention p).pending ||| causeBit c) (x.attention p).mask)

/-- The attention record of a port. -/
def attentionOf (s : State) (p : Port) : Attention := s.pif.attention p

/-- Raise a cause on one port (R164). -/
def raiseOn (c : Cause) (p : Port) (s : State) : State := s.withPif (s.pif.raise c p)

/-- Raise a cause on Port M and Port S. -/
def raiseBoth (c : Cause) (s : State) : State :=
  s.withPif ((s.pif.raise c .m).raise c .s)

/-- The port record after the end of a request: MOVE or RECALL on its issuing port, if it has one
(R94). -/
def Pif.raiseIssuer (x : Pif) (c : Cause) : Option Port → Pif
  | some p => x.raise c p
  | none => x

/-- Raise a cause on the issuing port of a request, if it has one (R94). -/
def raiseOnIssuer (c : Cause) (p : Option Port) (s : State) : State :=
  s.withPif (s.pif.raiseIssuer c p)

/-- Empty the pending set of a port (R166). -/
def clearCauses (p : Port) (s : State) : State :=
  s.withPif (s.pif.setAttention p (attentionWith 0 (s.pif.attention p).mask))

/-- Replace the mask of a port, without the TRIP bit (R166). -/
def setMask (p : Port) (mask : CauseSet) (s : State) : State :=
  s.withPif (s.pif.setAttention p
    (attentionWith (s.pif.attention p).pending (mask &&& ~~~(causeBit .trip))))

end Sys2Proof.Machine
end

