-- ==== Sys2Proof/Machine/Operands.lean ====
section
/-! DEFINITION. Operand and answer encodings (R159, R160): the byte forms of every kind of field, and
the operands of each command read from its payload. A payload that a parser refuses holds an
operand outside the encoding of its kind: BAD_VALUE (fourth check of R155). -/

namespace Sys2Proof.Machine

/-! ## Fields of answers -/

/-- A 2-byte field, most significant byte first, two's complement (R159). -/
def bytes2 (x : Int) : List Byte :=
  let w := BitVec.ofInt 16 x
  [w.extractLsb' 8 8, w.extractLsb' 0 8]

/-- A 4-byte field, most significant byte first (R159). -/
def bytes4 (x : Int) : List Byte :=
  let w := BitVec.ofInt 32 x
  [w.extractLsb' 24 8, w.extractLsb' 16 8, w.extractLsb' 8 8, w.extractLsb' 0 8]

/-- A 3-byte field of a knot record (R139). -/
def bytes3 (x : Int) : List Byte :=
  let w := BitVec.ofInt 24 x
  [w.extractLsb' 16 8, w.extractLsb' 8 8, w.extractLsb' 0 8]

/-- A 1-byte number. -/
def byte1 (n : Nat) : List Byte := [BitVec.ofNat 8 n]

/-- Yes or no, on or off, set or clear (R159). -/
def byteFlag (b : Bool) : List Byte := [if b then 1 else 0]

/-- A signed 2-byte field that may be none: −32768 (R159). -/
def bytes2Opt (x : Option Int) : List Byte := bytes2 (x.getD (-32768))

/-- An enumerated value that may be none: 0xFF (R159). -/
def enumOpt {α : Type} (place : α → Nat) (x : Option α) : List Byte :=
  match x with
  | some y => byte1 (place y)
  | none => [0xFF]

/-- A group that may be absent as a whole: a presence byte and the fields, or as many zero bytes
(R159). -/
def groupOpt (size : Nat) (fields : Option (List Byte)) : List Byte :=
  match fields with
  | some x => 1 :: x
  | none => 0 :: List.replicate size 0

/-- A set of axes in one byte (R159). -/
def axisSetByte (x : PerAxis Bool) : List Byte :=
  byte1 ((if x.hs then 1 else 0) + (if x.vs then 2 else 0) + (if x.zm then 4 else 0) +
    (if x.fc then 8 else 0))

/-- A set of fans in two bytes (R159). -/
def fanSetBytes (x : PerFan Bool) : List Byte :=
  bytes2 ((if x.f0 then 1 else 0) + (if x.f1 then 2 else 0) + (if x.f2 then 4 else 0))

/-- The place of a channel in sweep order. -/
def channelNumber : Channel → Nat
  | .lsh => 0
  | .phw => 1
  | .img => 2
  | .int => 3
  | .exh => 4
  | .lns => 5
  | .psu => 6
  | .brd => 7
  | .acy => 8
  | .acz => 9

/-- A set of channels in two bytes (R159). -/
def channelSetBytes (x : List Channel) : List Byte :=
  bytes2 ((x.map (fun c => (2 : Int) ^ channelNumber c)).sum)

/-! Places in the lists of the owning rules (R159). -/

def conditionPlace : Condition → Nat
  | .unpowered => 0
  | .waiting => 1
  | .normal => 2
  | .short => 3
  | .opened => 4

def orientationPlace : Orientation → Nat
  | .floor => 0
  | .ceiling => 1

def acousticPlace : AcousticMode → Nat
  | .quiet => 0
  | .standard => 1
  | .highAltitude => 2

def fanStatePlace : FanState → Nat
  | .stopped => 0
  | .kick => 1
  | .proving => 2
  | .running => 3
  | .failed => 4

def powerPlace : Power → Nat
  | .off => 0
  | .starting => 1
  | .ready => 2
  | .lit => 3
  | .cooling => 4
  | .cooled => 5
  | .tripped => 6

def tripKindPlace : TripKind → Nat
  | .sensorFault => 0
  | .tempLimit => 1
  | .blowerFailed => 2
  | .fansFailed => 3
  | .proveTimeout => 4

def axisStatePlace : AxisState → Nat
  | .lost => 0
  | .homing => 1
  | .idle => 2
  | .moving => 3

def directionPlace : Direction → Nat
  | .positive => 0
  | .negative => 1

def phasePlace : Phase → Nat
  | .travel => 0
  | .overshootReturn => 1
  | .stopRamp => 2
  | .reverse => 3
  | .yielded => 4
  | .seek => 5
  | .release => 6

def sourcePlace : Source → Nat
  | .m => 0
  | .recall => 1
  | .drift => 2

def grantModePlace : GrantMode → Nat
  | .shared => 0
  | .held => 1

def moveOutcomePlace : MoveOutcome → Nat
  | .done => 0
  | .superseded => 1
  | .cancelled => 2
  | .limitHit => 3
  | .homeNotFound => 4
  | .powerLost => 5

def progressPlace : Progress → Nat
  | .waiting => 0
  | .running => 1
  | .done => 2
  | .superseded => 3
  | .cancelled => 4
  | .limitHit => 5
  | .powerLost => 6

def groupOutcomePlace : GroupOutcome → Nat
  | .inProgress => 0
  | .done => 1
  | .superseded => 2
  | .lost => 3
  | .cancelled => 4

def orientationModePlace : OrientationMode → Nat
  | .auto => 0
  | .floor => 1
  | .ceiling => 2

def rejectPlace : Reject → Nat
  | .none => 0
  | .horizon => 1
  | .notConvex => 2
  | .tooSmall => 3

def trackerStatePlace : TrackerState → Nat
  | .suspended => 0
  | .watching => 1
  | .correcting => 2

def rolePlace : Role → Nat
  | .idle => 0
  | .build => 1
  | .ready => 2
  | .loaned => 3
  | .live => 4

def portPlace : Port → Nat
  | .m => 0
  | .s => 1
  | .v => 2

/-- The result byte (R161). -/
def resultPlace : Result → Nat
  | .ok => 0x00
  | .empty => 0x01
  | .unknown => 0x02
  | .notPermitted => 0x03
  | .badLength => 0x04
  | .badValue => 0x05
  | .notReady => 0x06
  | .noPower => 0x07
  | .busy => 0x08
  | .slotEmpty => 0x09
  | .axisLost => 0x0A
  | .coverOpen => 0x0B
  | .tripped => 0x0C
  | .tooHot => 0x0D
  | .noTable => 0x0E
  | .noLoan => 0x0F
  | .stale => 0x10
  | .checkFail => 0x11

/-! ## Fields of payloads -/

/-- An unsigned 2-byte field (R159). -/
def word2 (hi lo : Byte) : Nat := (hi ++ lo).toNat

/-- A signed 2-byte field (R159). -/
def signed2 (hi lo : Byte) : Int := (hi ++ lo).toInt

/-- An axis byte (R159). -/
def axisOfByte (b : Byte) : Option Axis :=
  match b.toNat with
  | 0 => some .hs
  | 1 => some .vs
  | 2 => some .zm
  | 3 => some .fc
  | _ => none

/-- An axis byte that may be absent, 0xFF (R159). -/
def axisOptOfByte (b : Byte) : Option (Option Axis) :=
  if b = 0xFF then some none else (axisOfByte b).map some

/-- An axis set: bits 4 to 7 are zero (R159). -/
def axisSetOfByte (b : Byte) : Option (PerAxis Bool) :=
  if b.toNat < 16 then some ⟨b.getLsbD 0, b.getLsbD 1, b.getLsbD 2, b.getLsbD 3⟩ else none

/-- A yes/no byte (R159). -/
def flagOfByte (b : Byte) : Option Bool :=
  if b = 0 then some false else if b = 1 then some true else none

/-- A preset slot byte; a slot beyond 9 is none. -/
def slotOfByte (b : Byte) : Option (Fin 10) :=
  if h : b.toNat < 10 then some ⟨b.toNat, h⟩ else none

/-- A channel byte; a channel beyond 9 is none. -/
def channelOfByte (b : Byte) : Option Channel :=
  match b.toNat with
  | 0 => some .lsh
  | 1 => some .phw
  | 2 => some .img
  | 3 => some .int
  | 4 => some .exh
  | 5 => some .lns
  | 6 => some .psu
  | 7 => some .brd
  | 8 => some .acy
  | 9 => some .acz
  | _ => none

/-- An acoustic mode byte (R160). -/
def acousticOfByte (b : Byte) : Option AcousticMode :=
  match b.toNat with
  | 0 => some .quiet
  | 1 => some .standard
  | 2 => some .highAltitude
  | _ => none

/-- An orientation mode byte (R160). -/
def orientationModeOfByte (b : Byte) : Option OrientationMode :=
  match b.toNat with
  | 0 => some .auto
  | 1 => some .floor
  | 2 => some .ceiling
  | _ => none

/-- A section byte (R160). -/
def profileSectionOfByte (b : Byte) : Option ProfileSection :=
  match b.toNat with
  | 0 => some .sensor
  | 1 => some .fan
  | 2 => some .light
  | 3 => some .axis
  | 4 => some .optics
  | _ => none

/-! ## The operands of each command (R160) -/

/-- MASK: a cause set; a bit above 11 is outside its encoding (R166). -/
def parseMask : List Byte → Option CauseSet
  | [hi, lo] => if word2 hi lo < 4096 then some (BitVec.ofNat 12 (word2 hi lo)) else none
  | _ => none

/-- SENSOR: a channel 0..9 (R168). -/
def parseChannel : List Byte → Option Channel
  | [b] => channelOfByte b
  | _ => none

/-- AXIS: an axis. -/
def parseAxis : List Byte → Option Axis
  | [b] => axisOfByte b
  | _ => none

/-- PRESET_READ and PRESET_ERASE: a slot. -/
def parseSlot : List Byte → Option (Fin 10)
  | [b] => slotOfByte b
  | _ => none

/-- LIGHT_ON: an unsigned level (R159). -/
def parseLevel : List Byte → Option Nat
  | [hi, lo] => some (word2 hi lo)
  | _ => none

/-- ACOUSTIC: a mode. -/
def parseAcoustic : List Byte → Option AcousticMode
  | [b] => acousticOfByte b
  | _ => none

/-- The operands of MOVE (R86). -/
structure MoveOperands where
  axis : Axis
  kind : ReqKind
  mode : GrantMode
  follow : Option Axis
  tag : Byte
deriving DecidableEq, Repr

/-- The kind byte of MOVE with its target or delta: ABSOLUTE 0, RELATIVE 1 (R160). -/
def moveKindOf (kind : Byte) (value : Int) : Option ReqKind :=
  if kind = 0 then some (.absolute value)
  else if kind = 1 then some (.relative value)
  else none

/-- The grant mode byte of MOVE: SHARED 0, HELD 1 (R160). -/
def grantModeOf (b : Byte) : Option GrantMode :=
  if b = 0 then some .shared else if b = 1 then some .held else none

/-- MOVE: axis, kind, target or delta, grant mode, FOLLOW axis or 0xFF, tag. -/
def parseMove : List Byte → Option MoveOperands
  | [axis, kind, hi, lo, mode, follow, tag] =>
    match axisOfByte axis, moveKindOf kind (signed2 hi lo), grantModeOf mode,
        axisOptOfByte follow with
    | some a, some k, some g, some f => some ⟨a, k, g, f, tag⟩
    | _, _, _, _ => none
  | _ => none

/-- HOME: an axis set and a tag. -/
def parseHome : List Byte → Option (PerAxis Bool × Byte)
  | [axes, tag] => (axisSetOfByte axes).map (fun x => (x, tag))
  | _ => none

/-- STOP: an axis set. -/
def parseStop : List Byte → Option (PerAxis Bool)
  | [axes] => axisSetOfByte axes
  | _ => none

/-- The operands of PRESET_SAVE (R98). -/
structure SaveOperands where
  slot : Fin 10
  axes : PerAxis Bool
  trims : Bool
  label : List Byte
deriving DecidableEq, Repr

/-- A label character: 32 to 126 (R97). -/
def printable (b : Byte) : Bool := decide (32 ≤ b.toNat) && decide (b.toNat ≤ 126)

/-- PRESET_SAVE: slot, axis set, include trims, label (first check of R98). -/
def parseSave : List Byte → Option SaveOperands
  | slot :: axes :: trims :: label =>
    match slotOfByte slot, axisSetOfByte axes, flagOfByte trims with
    | some n, some x, some t => if label.all printable then some ⟨n, x, t, label⟩ else none
    | _, _, _ => none
  | _ => none

/-- PRESET_RECALL: slot and tag. -/
def parseRecall : List Byte → Option (Fin 10 × Byte)
  | [slot, tag] => (slotOfByte slot).map (fun n => (n, tag))
  | _ => none

/-- TRIMS: dx, dy of TL, TR, BL, BR as sent (R117). -/
def parseTrims : List Byte → Option Trims
  | [a, b, c, d, e, f, g, h, i, j, k, l, m, n, o, p] =>
    some ⟨⟨signed2 a b, signed2 c d⟩, ⟨signed2 e f, signed2 g h⟩, ⟨signed2 i j, signed2 k l⟩,
      ⟨signed2 m n, signed2 o p⟩⟩
  | _ => none

/-- KEYSTONE and DRIFT: OFF 0, ON 1. -/
def parseOnOff : List Byte → Option Bool
  | [b] => flagOfByte b
  | _ => none

/-- ORIENTATION: a mode. -/
def parseOrientation : List Byte → Option OrientationMode
  | [b] => orientationModeOfByte b
  | _ => none

/-- PROFILE_WRITE: section, offset, data. -/
def parseProfileWrite : List Byte → Option (ProfileSection × Nat × List Byte)
  | b :: hi :: lo :: data => (profileSectionOfByte b).map (fun x => (x, word2 hi lo, data))
  | _ => none

/-- PROFILE_READ: section, offset, and a count of 1 to 252 in a small-count byte. -/
def parseProfileRead : List Byte → Option (ProfileSection × Nat × Nat)
  | [b, hi, lo, count] =>
    if 1 ≤ count.toNat ∧ count.toNat ≤ 252 then
      (profileSectionOfByte b).map (fun x => (x, word2 hi lo, count.toNat))
    else none
  | _ => none

/-- READ and TAKE: two unsigned fields. -/
def parsePair : List Byte → Option (Nat × Nat)
  | [a, b, c, d] => some (word2 a b, word2 c d)
  | _ => none

/-- DROP: a generation. -/
def parseGeneration : List Byte → Option Nat
  | [hi, lo] => some (word2 hi lo)
  | _ => none

end Sys2Proof.Machine
end

