-- ==== Sys2Proof/Machine/Ops.lean ====
section
/-! DEFINITION. The named operations that every block uses: reading the profile and the presented
sensor values, the slots of the ports and the taking of a command, and the free orders. -/

namespace Sys2Proof.Machine

/-! ## Free orders -/

/-- Two orders of one event, where the spec allows either: the choice is the world's
(Config.worldChoice) and is used up only where the two outcomes differ. -/
def eitherOrder (first second : State → State) (s : State) : State :=
  let a := first s
  let b := second s
  if a = b then a
  else if Config.worldChoice s.choices then a.withChoices (s.choices + 1)
  else b.withChoices (s.choices + 1)

/-! ## The profile (R169) -/

/-- Parameter number `i` of a section. -/
def param (section_ : List Int) (i : Nat) : Int := section_.getD i 0

/-- The place of an axis (R159). -/
def axisNumber : Axis → Nat
  | .hs => 0
  | .vs => 1
  | .zm => 2
  | .fc => 3

/-- The profile maximum of an axis (R59). -/
def axisMaximum (s : State) (a : Axis) : Int := param s.prf.axis (5 * axisNumber a)

/-- The centre of an axis (R59). -/
def axisCentre (s : State) (a : Axis) : Int := param s.prf.axis (5 * axisNumber a + 1)

/-- The backlash of an axis (R59). -/
def axisBacklash (s : State) (a : Axis) : Int := param s.prf.axis (5 * axisNumber a + 2)

/-- The rate that a grant of a move takes now (R64). -/
def axisRate (s : State) (a : Axis) : Int :=
  param s.prf.axis (5 * axisNumber a + (if s.afc.mode = .quiet then 4 else 3))

/-- The grant policy is ROTATING (R92, R169). -/
def policyRotating (s : State) : Bool := param s.prf.axis 20 == 1

/-- The thermistor table of channel number `n` (section 1.4). -/
def thermTable (s : State) (n : Nat) : List Int := (s.prf.sensor.drop (17 * n)).take 17

/-- The accelerometer offset Yoff (R14). -/
def offsetY (s : State) : Int := param s.prf.sensor 136

/-- The accelerometer offset Zoff (R14). -/
def offsetZ (s : State) : Int := param s.prf.sensor 137

/-- Pairs of a flat list. -/
def pairs : List Int → List (Int × Int)
  | x :: y :: rest => (x, y) :: pairs rest
  | _ => []

/-- The zoom table (R124). -/
def zoomTable (s : State) : List (Int × Int) := pairs (s.prf.optics.take 18)

/-- The drift coefficient table (section 6.2). -/
def driftTable (s : State) : List (Int × Int) :=
  [(0, param s.prf.optics 20), (2000, param s.prf.optics 21), (4000, param s.prf.optics 22),
   (6000, param s.prf.optics 23), (8000, param s.prf.optics 24)]

/-! ## What the Scan Unit and the Geometry Engine present -/

/-- The thermistor channels, in order (section 1.1). -/
def thermistors : List Channel := [.lsh, .phw, .img, .int, .exh, .lns, .psu, .brd]

/-- The channels of the main rail (R4). -/
def mainRailChannels : List Channel := [.lsh, .phw, .img, .int, .exh, .lns, .psu, .acy, .acz]

/-- Every channel, in sweep order. -/
def allChannels : List Channel :=
  [.lsh, .phw, .img, .int, .exh, .lns, .psu, .brd, .acy, .acz]

/-- What the last sweep end presented of a channel (R2). -/
def shownOf (s : State) (c : Channel) : Shown := (s.channel c).shown

/-- The presented temperature of a channel that is NORMAL: the only one that any computation
uses (R12). -/
def normalTemp (s : State) (c : Channel) : Option Int :=
  if (shownOf s c).condition = .normal then (shownOf s c).temp else none

/-- SHORT or OPEN (R1). -/
def faultCondition (x : Condition) : Bool := x == .short || x == .opened

/-- The effective orientation (R16). -/
def effectiveOrientation (s : State) : Orientation :=
  match s.geo.settings.mode with
  | .auto => s.scn.detected
  | .floor => .floor
  | .ceiling => .ceiling

/-- MAIN_GOOD is up: LPS is OFF exactly while the rail is down (R36, R39). -/
def mainRailUp (s : State) : Bool := s.lps.power != .off

/-! ## Axis states -/

/-- Every axis, in order. -/
def allAxes : List Axis := [.hs, .vs, .zm, .fc]

/-- The axis holds a slot (R62). -/
def running (s : State) (a : Axis) : Bool := (s.axis a).slot.isSome

/-- The axis is in MOVING or HOMING (R13). -/
def inMotion (s : State) (a : Axis) : Bool :=
  (s.axis a).state == .moving || (s.axis a).state == .homing

/-- The axis is YIELDED (R74). -/
def yielded (s : State) (a : Axis) : Bool := (s.axis a).phase == some .yielded

/-- The axis is position-known: IDLE or MOVING (R62). -/
def positionKnown (s : State) (a : Axis) : Bool :=
  (s.axis a).state == .idle || (s.axis a).state == .moving

/-- The position as records show it (R62): unknown in LOST and HOMING. -/
def shownPosition (s : State) (a : Axis) : Option Int :=
  if positionKnown s a then (s.axis a).position else none

/-! ## Taking a command (R153 to R156) -/

/-- What a command answers with. -/
structure Answer where
  result : Result
  payload : List Byte
deriving DecidableEq, Repr

/-- An OK answer. -/
def answerOk (payload : List Byte) : Answer := ⟨.ok, payload⟩

/-- A refusal, which carries no payload (R155). -/
def refuse (r : Result) : Answer := ⟨r, []⟩

/-- Fill the response slot: OVERRUN is set when a response was still held (R156). -/
def respond (p : Port) (code : Byte) (a : Answer) (s : State) : State :=
  s.setPort p
    { s.port p with slot := some ⟨a.result, code, (s.port p).slot.isSome, a.payload⟩ }

/-- The slot byte of Ports M and V (R151). -/
def slotByte (s : State) (p : Port) : Byte := if (s.port p).slot.isSome then 1 else 0

/-- What the part drives while it receives `count` bytes: on Ports M and V the slot byte and then
zeros (R151); on Port S no byte, but an acknowledge of the address and of each of the bytes (R152). -/
def shiftOut (p : Port) (count : Nat) (s : State) : State :=
  s.setPort p
    { s.port p with
      sent := match p, count with
        | .s, _ => []
        | _, 0 => []
        | _, n + 1 => slotByte s p :: List.replicate n 0,
      acked := match p with
        | .s => count + 1
        | _ => 0 }

/-- No operand. -/
def parseNone (_ : List Byte) : Option Unit := some ()

/-- The checks of R155 on a command of R160, and the hand-over to its block. During a part reset the
ports take no transaction (R162). -/
def checkCommand {α : Type} (c : Cmd) (parse : List Byte → Option α)
    (run : α → State → State × Answer) (p : Port) (payload : List Byte) (s : State) :
    State × Answer :=
  if cmdPermitted c p = false then (s, refuse .notPermitted)
  else if cmdLengthOk c payload.length = false then (s, refuse .badLength)
  else
    match parse payload with
    | none => (s, refuse .badValue)
    | some x => run x s

/-- A command taken at the end of its frame: its bytes shifted in, its checks, its effect, and its
response in the slot (R153 to R156). -/
def takeCommand {α : Type} (c : Cmd) (parse : List Byte → Option α)
    (run : α → State → State × Answer) (p : Port) (payload : List Byte) (s : State) : State :=
  if s.inReset then s
  else
    let t := checkCommand c parse run p payload (shiftOut p (payload.length + 2) s)
    respond p (cmdCode c) t.2 t.1

/-- An effect that is always answered OK without a payload. -/
def always (f : State → State) (s : State) : State × Answer := (f s, answerOk [])

end Sys2Proof.Machine
end

