-- ==== Sys2Proof/Machine/Fans.lean ====
section
/-! DEFINITION. The Airflow Controller (chapter 2): heat indices, demands, curves, the stall and
proving tests, targets and caps, the speed loop; pulses; what the power events do to the fans. -/

namespace Sys2Proof.Machine

/-- The fans, in order (R19). -/
def allFans : List Fan := [.f0, .f1, .f2]

def fanNumber : Fan → Nat
  | .f0 => 0
  | .f1 => 1
  | .f2 => 2

/-- The governing channels (R19). -/
def governing : Fan → List Channel
  | .f0 => [.img, .int, .psu, .brd]
  | .f1 => [.exh, .phw, .lns]
  | .f2 => [.lsh, .phw]

/-- The caps of the acoustic modes (R24). -/
def fanCap : AcousticMode → Fan → Int
  | .quiet, .f0 => 1200
  | .quiet, .f1 => 1400
  | .quiet, .f2 => 2400
  | .standard, .f0 => 2000
  | .standard, .f1 => 2400
  | .standard, .f2 => 3200
  | .highAltitude, .f0 => 2200
  | .highAltitude, .f1 => 2600
  | .highAltitude, .f2 => 3600

/-- The cooling floors (R24). -/
def coolingFloor : Fan → Int
  | .f0 => 1200
  | .f1 => 1400
  | .f2 => 2000

/-- Channels 8 and 9 have no heat index (R17). -/
def hasHeat : Channel → Bool
  | .acy => false
  | .acz => false
  | _ => true

/-- The heat index of a temperature between lo and hi (R20). -/
def heatAt (lo hi t : Int) : Int := clamp 0 1000 (divDown (1000 * (t - lo)) (hi - lo))

/-- The heat index of a channel at a gate end (R20). -/
def heatIndex (s : State) (c : Channel) : Int :=
  match normalTemp s c with
  | none => 1000
  | some t =>
    heatAt (param s.prf.fan (2 * channelNumber c)) (param s.prf.fan (2 * channelNumber c + 1)) t

/-- The heat indices that the SENSOR record shows until the next gate end (R17, R20). -/
def heatRecord (s : State) : PerChannel (Option Int) :=
  let h := fun c => if hasHeat c then some (heatIndex s c) else none
  ⟨h .lsh, h .phw, h .img, h .int, h .exh, h .lns, h .psu, h .brd, h .acy, h .acz⟩

/-- The largest heat index of a set of channels. -/
def hottest (s : State) (cs : List Channel) : Int := (cs.map (heatIndex s)).foldl max 0

/-- The demand of a fan, with the ceiling bias on F1 (R21). R21 says that the demand in OFF is shown in
the records only, and no record has a field for it: the model computes it at a gate end and keeps and
shows it nowhere (log 44). -/
def demand (s : State) (f : Fan) : Int :=
  let d := hottest s (governing f)
  if f = .f1 ∧ effectiveOrientation s = .ceiling then clamp 0 1000 (d + 100) else d

/-- The curve of a fan (section 2.3). -/
def fanCurve (s : State) (f : Fan) : List (Int × Int) :=
  pairs ((s.prf.fan.drop (16 + 10 * fanNumber f)).take 10)

/-- The curve target of a fan (R22). -/
def curveTarget (s : State) (f : Fan) : Int := interpolate divTrunc (fanCurve s f) (demand s f)

/-- The speed that a pulse count measures (R26). -/
def measuredSpeed (pulses : Nat) : Int := min 6000 (60 * (pulses : Int))

/-- A fan that is tested for a stall (R31). -/
def stallTested (latch : Bool) : FanState → Bool
  | .kick => latch
  | .proving => true
  | .running => true
  | .stopped => false
  | .failed => false

/-- The stall test of one fan (R31), with the measured speed of this gate. -/
def stallTest (latch : Bool) (r : FanRecord) : FanRecord :=
  if stallTested latch r.state then
    if r.measured < 240 ∧ 300 ≤ r.duty then
      if 6 ≤ r.stall + 1 then { r with stall := 6, state := .failed }
      else { r with stall := r.stall + 1 }
    else { r with stall := 0 }
  else r

/-- The number of FAILED fans. -/
def failedCount (fans : PerFan FanRecord) : Nat :=
  (allFans.filter (fun f => (fans.get f).state == .failed)).length

/-- Exactly one of F0 and F1 is FAILED, and F2 is not (R24). -/
def fanLoss (fans : PerFan FanRecord) : Bool :=
  failedCount fans == 1 && fans.f2.state != .failed

/-- The target and the capped flag of a fan from its curve target (R24); `fans` are the records after
the stall test. -/
def targetOf (power : Power) (mode : AcousticMode) (fans : PerFan FanRecord) (f : Fan)
    (curve : Int) : Int × Bool :=
  if power = .off then (0, false)
  else if fanLoss fans ∧ (fans.get f).state ≠ .failed then
    (fanCap .highAltitude f, decide (fanCap .highAltitude f < curve))
  else if power = .cooling ∨ power = .cooled then
    (max (coolingFloor f) (min curve (fanCap .standard f)), decide (fanCap .standard f < curve))
  else (min curve (fanCap mode f), decide (fanCap mode f < curve))

/-- The kick and proving step of a gate end (R29, R30). -/
def proveStep (latch : Bool) (r : FanRecord) : FanRecord :=
  match r.state with
  | .kick =>
    if 2 ≤ r.kick + 1 then { r with kick := 2, state := .proving, proving := 0, stall := 0 }
    else { r with kick := r.kick + 1 }
  | .proving =>
    if latch then r
    else if 8 * r.target ≤ 10 * r.measured then
      if 2 ≤ r.proving + 1 then { r with proving := 2, state := .running }
      else { r with proving := r.proving + 1 }
    else { r with proving := 0 }
  | _ => r

/-- The loop result (R28). -/
def loopDuty (gain target measured duty : Int) : Int :=
  clamp 150 1000 (duty + clamp (-80) 80 (divTrunc ((target - measured) * gain) 1024))

/-- The duty of a fan at a gate end (R27); `before` is its state before this gate end's kick and
proving step. -/
def dutyOf (power : Power) (latch : Bool) (gain : Int) (before : FanState) (r : FanRecord) : Int :=
  if r.state = .stopped ∨ power = .off then 0
  else if latch then 1000
  else if r.state = .kick then 1000
  else if r.state = .proving ∧ before = .kick then r.duty
  else loopDuty gain r.target r.measured r.duty

/-- A fan that entered FAILED at this gate end (R31). -/
def newlyFailed (before after : PerFan FanRecord) : Bool :=
  allFans.any (fun f => (before.get f).state != .failed && (after.get f).state == .failed)

/-- The records with the measured speeds of the gate that ended (R26). -/
def measureFans (a : Afc) : PerFan FanRecord :=
  let m := fun f => { a.fans.get f with measured := measuredSpeed (a.pulses.get f) }
  ⟨m .f0, m .f1, m .f2⟩

/-- One fan through steps 4 to 6 of R26, from the records after the stall test. -/
def finishFan (s : State) (fans : PerFan FanRecord) (f : Fan) : FanRecord :=
  let t := targetOf s.lps.power s.afc.mode fans f (curveTarget s f)
  let r := { fans.get f with target := t.1, capped := t.2 }
  let r' := proveStep s.lps.latch r
  { r' with duty := dutyOf s.lps.power s.lps.latch (param s.prf.fan 46) r.state r' }

/-- The fan records after a gate end (R26): measured speeds, stall test, targets, kick and proving,
duties. -/
def gateFans (s : State) : PerFan FanRecord :=
  let fans := (measureFans s.afc).map (stallTest s.lps.latch)
  ⟨finishFan s fans .f0, finishFan s fans .f1, finishFan s fans .f2⟩

/-- What AFC does at a gate end (R26). -/
def fanGate (s : State) : State :=
  let fans := gateFans s
  let t := s.withAfc { s.afc with fans := fans, pulses := .same 0, heat := heatRecord s }
  if newlyFailed s.afc.fans fans then raiseBoth .fan t else t

/-- The tachometer reject width in tenths of a ms (R25). -/
def rejectWidth (s : State) : Int := param s.prf.fan 47

/-- The falling edge of a tachometer pulse of `width` microseconds (R25). -/
def countPulse (f : Fan) (width : Nat) (s : State) : State :=
  if 100 * rejectWidth s ≤ (width : Int) then
    s.withAfc { s.afc with pulses := s.afc.pulses.set f (s.afc.pulses.get f + 1) }
  else s

/-- A fan at a STARTING entry (R29). -/
def kicked (r : FanRecord) : FanRecord :=
  { r with state := .kick, duty := 1000, kick := 0, proving := 0, stall := 0 }

/-- The fans at a STARTING entry: every fan is kicked and the gate restarts (R26, R29). -/
def kickFans (s : State) : State :=
  s.withAfc { s.afc with fans := s.afc.fans.map kicked, pulses := .same 0 }

/-- The fans at a trip: every duty is 1000 at once (R27, R48). -/
def driveFans (s : State) : State :=
  s.withAfc { s.afc with fans := s.afc.fans.map (fun r => { r with duty := 1000 }) }

/-- A fan at a main-rail loss (R32). -/
def unpowered (r : FanRecord) : FanRecord :=
  match r.state with
  | .kick | .proving | .running =>
    { r with state := .stopped, duty := 0, kick := 0, proving := 0, stall := 0 }
  | .stopped | .failed => { r with duty := 0 }

/-- The fans at a main-rail loss (R32). -/
def stopFans (s : State) : State := s.withAfc { s.afc with fans := s.afc.fans.map unpowered }

end Sys2Proof.Machine
end

