-- ==== Sys2Proof/Machine/Geometry.lean ====
section
/-! DEFINITION. The nine stages of a build (section 7.3), exactly. Every rational of the manual is
carried as an integer over a positive common denominator, so the only roundings are the four that
R132 names. -/

namespace Sys2Proof.Machine

/-- T_used (R120). -/
def tUsed (x : Snapshot) : Int :=
  if x.keystone && x.zmKnown && x.vsKnown then x.tangent else 0

/-- The auto used flag (R120). -/
def autoUsed (x : Snapshot) : Bool := x.keystone && x.zmKnown && x.vsKnown

/-- The auto suppressed flag (R120). -/
def autoSuppressed (x : Snapshot) : Bool := x.keystone && !(x.zmKnown && x.vsKnown)

/-- Stage 1: the throw factor h (R124). -/
def throwFactor (x : Snapshot) : Int := interpolate divHalfAway x.zoomTable x.zm

/-- Stage 2: the shift offset s (R125). -/
def shiftOffset (x : Snapshot) : Int :=
  let s := clamp (-15000) 15000 (divHalfAway ((x.vs - x.vsCentre) * x.vsGain) 100)
  if x.orientation = .ceiling then -s else s

/-- The denominator of the edge factors: tt is over 10000, and Ft = 1 − (tt / 10000) × (T_used /
10000) (R126). -/
def edgeScale : Int := 1000000000000

/-- Stage 3: Ft × edgeScale, with tt = h × (5000 + s) / 10000 (R126). -/
def topFactor (x : Snapshot) : Int :=
  edgeScale - throwFactor x * (5000 + shiftOffset x) * tUsed x

/-- Stage 3: Fb × edgeScale, with tb = h × (s − 5000) / 10000 (R126). -/
def bottomFactor (x : Snapshot) : Int :=
  edgeScale - throwFactor x * (shiftOffset x - 5000) * tUsed x

/-- The HORIZON test: Ft ≤ 1/20 or Fb ≤ 1/20 (R126). -/
def beyondHorizon (x : Snapshot) : Bool :=
  decide (20 * topFactor x ≤ edgeScale) || decide (20 * bottomFactor x ≤ edgeScale)

/-- Stage 4: the top width Wt, with r = Ft / Fb (R127). -/
def topWidth (x : Snapshot) : Int :=
  if topFactor x ≤ bottomFactor x then
    2 * divHalfUp (61440 * topFactor x) (2 * bottomFactor x)
  else 61440

/-- Stage 4: the bottom width Wb (R127). -/
def bottomWidth (x : Snapshot) : Int :=
  if topFactor x ≤ bottomFactor x then 61440
  else 2 * divHalfUp (61440 * bottomFactor x) (2 * topFactor x)

/-- A point of the panel or of the upright frame. -/
structure Point where
  x : Int
  y : Int
deriving DecidableEq, Repr

/-- The four corners. -/
structure Quad where
  tl : Point
  tr : Point
  br : Point
  bl : Point
deriving DecidableEq, Repr

/-- Stage 5: the automatic corners in the upright frame (R128). The widths are even. -/
def autoCorners (x : Snapshot) : Quad :=
  { tl := ⟨(61440 - topWidth x) / 2, 0⟩, tr := ⟨(61440 + topWidth x) / 2, 0⟩,
    br := ⟨(61440 + bottomWidth x) / 2, 34560⟩, bl := ⟨(61440 - bottomWidth x) / 2, 34560⟩ }

/-- A corner moved by its trim, before the clamp (R128). -/
def movedCorner (p : Point) (t : Trim) : Point := ⟨p.x + t.dx, p.y + t.dy⟩

/-- The corners moved by their trims, before the clamp (R128). -/
def movedCorners (x : Snapshot) : Quad :=
  let q := autoCorners x
  ⟨movedCorner q.tl x.trims.tl, movedCorner q.tr x.trims.tr, movedCorner q.br x.trims.br,
    movedCorner q.bl x.trims.bl⟩

/-- The clamp of stage 6 (R128). -/
def clampCorner (p : Point) : Point := ⟨clamp 0 61440 p.x, clamp 0 34560 p.y⟩

/-- Stage 6: the corners in the upright frame (R128). -/
def uprightCorners (x : Snapshot) : Quad :=
  let q := movedCorners x
  ⟨clampCorner q.tl, clampCorner q.tr, clampCorner q.br, clampCorner q.bl⟩

/-- The corners-clamped flag (R128). -/
def cornersClamped (x : Snapshot) : Bool := decide (uprightCorners x ≠ movedCorners x)

/-- The half turn of a corner (R129). -/
def halfTurn (p : Point) : Point := ⟨61440 - p.x, 34560 - p.y⟩

/-- Stage 7: the corners on the panel (R129). -/
def panelCorners (x : Snapshot) : Quad :=
  let q := uprightCorners x
  match x.orientation with
  | .floor => q
  | .ceiling => ⟨halfTurn q.tl, halfTurn q.tr, halfTurn q.br, halfTurn q.bl⟩

/-- The cross product of the edge from `a` to `b` and the edge from `b` to `c` (R130). -/
def cross (a b c : Point) : Int :=
  (b.x - a.x) * (c.y - b.y) - (b.y - a.y) * (c.x - b.x)

/-- The four cross products of stage 8 (R130). -/
def crosses (q : Quad) : List Int :=
  [cross q.tl q.tr q.br, cross q.tr q.br q.bl, cross q.br q.bl q.tl, cross q.bl q.tl q.tr]

/-- Strict convexity (R130). -/
def convex (q : Quad) : Bool :=
  (crosses q).all (fun z => decide (0 < z)) || (crosses q).all (fun z => decide (z < 0))

/-- Twice the signed shoelace area (R130). -/
def shoelace (q : Quad) : Int :=
  (q.tl.x * q.tr.y - q.tr.x * q.tl.y) + (q.tr.x * q.br.y - q.br.x * q.tr.y) +
    (q.br.x * q.bl.y - q.bl.x * q.br.y) + (q.bl.x * q.tl.y - q.tl.x * q.bl.y)

/-- The area is below a quarter of the panel: 530841600 square sixteenths (R130). -/
def areaTooSmall (q : Quad) : Bool := decide ((shoelace q).natAbs < 2 * 530841600)

/-- The reason for which a build is rejected, or NONE: stage 3 first, then the two checks of stage 8
in their order (R126, R130). -/
def buildVerdict (x : Snapshot) : Reject :=
  if beyondHorizon x then .horizon
  else if convex (panelCorners x) = false then .notConvex
  else if areaTooSmall (panelCorners x) then .tooSmall
  else .none

/-- The nine inverse coefficients (R131). -/
structure Inverse where
  a : Int
  b : Int
  c : Int
  d : Int
  e : Int
  f : Int
  g : Int
  h : Int
  i : Int
deriving DecidableEq, Repr

/-- The inverse as the adjugate of the forward coefficients (R131), every forward coefficient
multiplied by den to be an integer: the nine are then those of the manual times den squared, which
R131 allows. -/
def adjugate (q : Quad) : Inverse :=
  let (x0, y0) := (q.tl.x, q.tl.y)
  let (x1, y1) := (q.tr.x, q.tr.y)
  let (x2, y2) := (q.br.x, q.br.y)
  let (x3, y3) := (q.bl.x, q.bl.y)
  let (dx1, dx2, dx3) := (x1 - x2, x3 - x2, x0 - x1 + x2 - x3)
  let (dy1, dy2, dy3) := (y1 - y2, y3 - y2, y0 - y1 + y2 - y3)
  let den := dx1 * dy2 - dx2 * dy1
  let g := dx3 * dy2 - dx2 * dy3
  let h := dx1 * dy3 - dx3 * dy1
  let a := (x1 - x0) * den + g * x1
  let b := (x3 - x0) * den + h * x3
  let c := x0 * den
  let d := (y1 - y0) * den + g * y1
  let e := (y3 - y0) * den + h * y3
  let f := y0 * den
  { a := e * den - f * h, b := c * h - b * den, c := b * f - c * e,
    d := f * g - d * den, e := a * den - c * g, f := c * d - a * f,
    g := d * h - e * g, h := b * g - a * h, i := a * e - b * d }

/-- The denominator at a panel point (R131). -/
def Inverse.denominator (m : Inverse) (x y : Int) : Int := m.g * x + m.h * y + m.i

/-- Four times the denominator at the centroid (R131). -/
def centroidDenominator (m : Inverse) (q : Quad) : Int :=
  m.g * (q.tl.x + q.tr.x + q.br.x + q.bl.x) + m.h * (q.tl.y + q.tr.y + q.br.y + q.bl.y) +
    4 * m.i

/-- All nine coefficients negated (R131). -/
def Inverse.negated (m : Inverse) : Inverse :=
  ⟨-m.a, -m.b, -m.c, -m.d, -m.e, -m.f, -m.g, -m.h, -m.i⟩

/-- The inverse with its sign fixed (R131). -/
def inverseOf (q : Quad) : Inverse :=
  let m := adjugate q
  if centroidDenominator m q < 0 then m.negated else m

/-- The blank marker (R132). -/
def blankMarker : Int := -8388608

/-- The source position of a panel point, (u, v) (R132). -/
def sourceAt (m : Inverse) (x y : Int) : Int × Int :=
  let den := m.denominator x y
  if 0 < den then
    (clamp (-8388607) 8388607 (divHalfAway (61440 * (m.a * x + m.b * y + m.c)) den),
     clamp (-8388607) 8388607 (divHalfAway (34560 * (m.d * x + m.e * y + m.f)) den))
  else (blankMarker, blankMarker)

/-- The 627 knots, row by row (R132). -/
def knots (m : Inverse) : List (Int × Int) :=
  (List.range 19).flatMap (fun (j : Nat) =>
    (List.range 33).map (fun (i : Nat) => sourceAt m (1920 * (i : Int)) (1920 * (j : Int))))

/-- The knots of a build (stages 1 to 9). -/
def buildKnots (x : Snapshot) : List (Int × Int) := knots (inverseOf (panelCorners x))

end Sys2Proof.Machine
end

