-- ==== Sys2Proof/Machine/Memory.lean ====
section
/-! DEFINITION. Table images (R135, R139) as lists of (offset, byte) in one canonical form: offsets
strictly rising, and no byte equal to what an unlisted offset reads as, which is 0 because R135
says every byte of every image is 0 at part reset. -/

namespace Sys2Proof.Machine

/-- The length of an image (R135). -/
def imageLength : Nat := 3776

/-- What an unlisted offset reads as (R135). -/
def blankByte : Byte := 0

/-- The canonical form, from an offset on. -/
def Memory.wfFrom : Nat → Memory → Bool
  | _, [] => true
  | lo, (a, b) :: rest => decide (lo ≤ a) && b != blankByte && Memory.wfFrom (a + 1) rest

/-- The canonical form. -/
def Memory.wf (m : Memory) : Bool := Memory.wfFrom 0 m

/-- The byte at an offset. -/
def Memory.read : Memory → Nat → Byte
  | [], _ => blankByte
  | (a, b) :: rest, x => if a = x then b else Memory.read rest x

/-- The memory that holds `bytes` from `base` on, and nothing else. -/
def Memory.ofBytes : Nat → List Byte → Memory
  | _, [] => []
  | base, b :: bytes =>
    if b = blankByte then Memory.ofBytes (base + 1) bytes
    else (base, b) :: Memory.ofBytes (base + 1) bytes

/-- Store `bytes` from `base` on. -/
def Memory.writeBytes (m : Memory) (base : Nat) (bytes : List Byte) : Memory :=
  m.filter (fun c => decide (c.1 < base)) ++ Memory.ofBytes base bytes ++
    m.filter (fun c => decide (base + bytes.length ≤ c.1))

/-- `count` bytes from `base` on, in image order (R144). -/
def Memory.slice (m : Memory) (base count : Nat) : List Byte :=
  (List.range' base count).map m.read

end Sys2Proof.Machine
end

