-- ==== Sys2Proof/Machine/Banks.lean ====
section
/-! DEFINITION. The Bank Manager (chapter 8): roles, the bank for a build, the table image with its
check value, publishing, and the loan. -/

namespace Sys2Proof.Machine

/-- The banks by number. -/
def allBanks : List BankId := [.b0, .b1, .b2]

/-- The lowest-numbered bank in a role, if any (R135, R136). -/
def bankIn (b : PerBank Bank) (r : Role) : Option BankId :=
  allBanks.find? (fun i => (b.get i).role == r)

/-- Replace the banks, with TBL_RDY at the same moment: high exactly when one is READY (R135). -/
def Bkm.withBanks (x : Bkm) (b : PerBank Bank) : Bkm :=
  { x with banks := b, tblRdy := (bankIn b .ready).isSome }

/-- A bank that holds no table: generation 0 (R135). -/
def Bank.emptied (b : Bank) (r : Role) : Bank := { b with role := r, gen := 0 }

/-- Put one bank back to IDLE with generation 0. -/
def Bkm.idle (x : Bkm) (i : BankId) : Bkm :=
  x.withBanks (x.banks.set i ((x.banks.get i).emptied .idle))

/-- Give a bank a new role, its table kept. -/
def Bkm.role (x : Bkm) (i : BankId) (r : Role) : Bkm :=
  x.withBanks (x.banks.set i { x.banks.get i with role := r })

/-- The bank for a build: the lowest IDLE one, else the READY one withdrawn (R136). -/
def Bkm.takeForBuild (x : Bkm) : Bkm :=
  match bankIn x.banks .idle, bankIn x.banks .ready with
  | some i, _ => x.withBanks (x.banks.set i ((x.banks.get i).emptied .build))
  | none, some i => x.withBanks (x.banks.set i ((x.banks.get i).emptied .build))
  | none, none => x

/-- The release of a loan as DROP does it (R146): the timer stops with the loan. -/
def Bkm.release (x : Bkm) : Bkm :=
  match x.loan with
  | none => x
  | some l =>
    let y := { x with loan := none }
    match bankIn y.banks .ready with
    | none => y.role l.bank .ready
    | some _ => y.idle l.bank

/-! ## The image (section 8.3) -/

/-- The flags byte of the header (R139). -/
def headerFlags (x : Snapshot) : Nat :=
  (if autoUsed x then 1 else 0) + (if autoSuppressed x then 2 else 0) +
    (if cornersClamped x then 4 else 0)

/-- Bytes 0 to 11 of an image (R139). -/
def imageHead (gen : Nat) (x : Snapshot) : List Byte :=
  bytes2 gen ++ byte1 (orientationPlace x.orientation) ++ byte1 (headerFlags x) ++ byte1 33 ++
    byte1 19 ++ bytes2 (tUsed x) ++ bytes2 x.zm ++ bytes2 x.vs

/-- The record of a knot: u, then v (R139). -/
def knotBytes (k : Int × Int) : List Byte := bytes3 k.1 ++ bytes3 k.2

/-- Bytes 14 to 3775 of an image (R139). -/
def imageBody (x : Snapshot) : List Byte := (buildKnots x).flatMap knotBytes

/-- A 16-bit check value as a number. -/
def checkNumber (hi lo : Byte) : Nat := word2 hi lo

/-- The two bytes of a check value, most significant first (R141). -/
def crcBytes (r : BitVec 16) : List Byte := [r.extractLsb' 8 8, r.extractLsb' 0 8]

/-- The whole image of a published table (R139, R141). -/
def imageBytes (gen : Nat) (x : Snapshot) : List Byte :=
  let head := imageHead gen x
  let body := imageBody x
  head ++ crcBytes (crc (head ++ body)) ++ body

/-- The check value that an image holds at offset 12 (R139). -/
def imageCheck (m : Memory) : Nat := checkNumber (m.read 12) (m.read 13)

/-- The generation after this one: 65535 wraps to 1 (R137). -/
def nextGeneration (g : Nat) : Nat := if 65535 ≤ g then 1 else g + 1

/-- Finish the table of a published build (R137): number it, write its image, retire the older
READY table, offer the new one. The build wrote the knots; the model writes the image whole here
(log 14). -/
def Bkm.publish (x : Bkm) (snap : Snapshot) : Bkm :=
  let gen := nextGeneration x.counter
  let y := { x with counter := gen }
  match bankIn y.banks .build with
  | none => y
  | some i =>
    let z := match bankIn y.banks .ready with
      | none => y
      | some j => y.idle j
    z.withBanks (z.banks.set i
      ⟨.ready, gen, ((z.banks.get i).image).writeBytes 0 (imageBytes gen snap)⟩)

/-- A rejected build hands its bank back (R138). -/
def Bkm.reject (x : Bkm) : Bkm :=
  match bankIn x.banks .build with
  | none => x
  | some i => x.idle i

/-! ## The commands of Port V (section 8.4) -/

/-- OPEN (R142). -/
def Bkm.openLoan (x : Bkm) : Bkm :=
  let y := x.release
  match bankIn y.banks .ready with
  | none => y
  | some i => { y.role i .loaned with loan := some ⟨i, (y.banks.get i).gen, 200⟩ }

/-- The answer of OPEN (R142): the generation, the length and the check value of the loaned bank. -/
def openAnswer (x : Bkm) : Answer :=
  match x.loan with
  | none => refuse .noTable
  | some l => answerOk (bytes2 l.gen ++ bytes2 imageLength ++
      bytes2 (imageCheck (x.banks.get l.bank).image))

/-- READ (R144). -/
def readAnswer (x : Bkm) (offset count : Nat) : Answer :=
  if count < 1 ∨ 256 < count ∨ imageLength < offset + count then refuse .badValue
  else
    match x.loan with
    | none => refuse .noLoan
    | some l => answerOk ((x.banks.get l.bank).image.slice offset count)

/-- The loan of a generation, if that is the one on loan. -/
def Bkm.loanOf (x : Bkm) (gen : Nat) : Option Loan :=
  match x.loan with
  | none => none
  | some l => if l.gen = gen then some l else none

/-- The loaned bank is taken into use (R145). -/
def Bkm.takeLive (x : Bkm) (l : Loan) : Bkm :=
  let y := match bankIn x.banks .live with
    | none => x
    | some i => x.idle i
  { y.role l.bank .live with loan := none }

/-- The loan timer expires (R143). -/
def Bkm.expire (x : Bkm) : Bkm :=
  match x.loan with
  | none => x
  | some _ => { x.release with expiries := min 65535 (x.expiries + 1) }

/-- A main-rail loss (R149). -/
def Bkm.railLoss (x : Bkm) : Bkm :=
  let y := x.release
  match bankIn y.banks .live with
  | none => y
  | some i => y.idle i

/-- The generation of the bank in a role, or 0 (R147, R150). -/
def Bkm.generationOf (x : Bkm) (r : Role) : Nat :=
  match bankIn x.banks r with
  | none => 0
  | some i => (x.banks.get i).gen

end Sys2Proof.Machine
end

