-- ==== Sys2Proof/Machine/Nvs.lean ====
section
/-! DEFINITION. The Nonvolatile Store (section 10.4): the dirty set, the write in flight, and the end
of a write. -/

namespace Sys2Proof.Machine

/-- The number of an item (R171). -/
def itemNumber : Item → Nat
  | .preset n => n.val
  | .geometry => 10

/-- Put an item in its place by number, once (R171). -/
def insertItem (i : Item) : List Item → List Item
  | [] => [i]
  | j :: rest =>
    if itemNumber i < itemNumber j then i :: j :: rest
    else if i = j then j :: rest
    else j :: insertItem i rest

/-- The copy of an item's working copy as it stands (R171). -/
def copyItem (s : State) : Item → Flight
  | .preset n => .preset n (s.ptb.slots.get n)
  | .geometry => .geometry s.geo.settings

/-- Start a write of the lowest dirty item when none is in flight (R171). -/
def startWrite (s : State) : State :=
  match s.nvs.inFlight, s.nvs.dirty with
  | none, i :: rest =>
    s.withNvs { s.nvs with dirty := rest, inFlight := some (copyItem s i) }
  | _, _ => s

/-- An item joins the dirty set (R171). -/
def markDirty (i : Item) (s : State) : State :=
  startWrite (s.withNvs { s.nvs with dirty := insertItem i s.nvs.dirty })

/-- The stored items with the copy of a write that ended, and its check value (R171, R172). -/
def storeCopy (n : Nvs) : Flight → Nvs
  | .preset i copy => { n with slots := n.slots.set i (.written copy (presetCheck copy)) }
  | .geometry copy => { n with geometry := .written copy (settingsCheck copy) }

/-- The end of a write (R172). Without a write in flight nothing ends (log 4). -/
def writeEnd (s : State) : State :=
  match s.nvs.inFlight with
  | none => s
  | some f => startWrite (raiseBoth .nv (s.withNvs { storeCopy s.nvs f with inFlight := none }))

/-- The stored items after a part reset: a write in flight is cut off and its item damaged
(R172). -/
def cutOff (n : Nvs) : Nvs :=
  match n.inFlight with
  | none => n
  | some (.preset i _) => { n with slots := n.slots.set i .damaged }
  | some (.geometry _) => { n with geometry := .damaged }

/-- The item that a write in flight writes. -/
def flightItem : Flight → Item
  | .preset n _ => .preset n
  | .geometry _ => .geometry

/-- The dirty count of STATUS: distinct items in the set or being written (R171). -/
def dirtyCount (n : Nvs) : Nat :=
  match n.inFlight with
  | none => n.dirty.length
  | some f => if flightItem f ∈ n.dirty then n.dirty.length else n.dirty.length + 1

end Sys2Proof.Machine
end

