-- ==== Sys2Proof/Machine/Builds.lean ====
section
/-! DEFINITION. Builds (section 7.2): the snapshot, a request, the triggers of R122, and the end of a
build. -/

namespace Sys2Proof.Machine

/-- The snapshot of the inputs as they stand (R120). -/
def takeSnapshot (s : State) : Snapshot :=
  { tangent := s.scn.tangent, keystone := s.geo.settings.keystone,
    zm := (shownPosition s .zm).getD 0, zmKnown := positionKnown s .zm,
    vs := (shownPosition s .vs).getD (axisCentre s .vs), vsKnown := positionKnown s .vs,
    orientation := effectiveOrientation s, trims := s.geo.settings.trims,
    zoomTable := zoomTable s, vsGain := param s.prf.optics 18, vsCentre := axisCentre s .vs }

/-- Start a build: BUILDING, the snapshot, a bank (R121). -/
def startBuild (s : State) : State :=
  (s.withGeo { s.geo with building := true, pendingBuild := false,
                          snapshot := some (takeSnapshot s) }).withBkm s.bkm.takeForBuild

/-- A build request: a build at once in IDLE, the pending flag in BUILDING (R121). -/
def requestBuild (s : State) : State :=
  if s.geo.building then s.withGeo { s.geo with pendingBuild := true } else startBuild s

/-- The regeometry step (R122). -/
def regeometryStep (s : State) : Int := param s.prf.optics 19

/-- The position of ZM or VS in a snapshot, if known then (R120, R122). -/
def snapshotPosition (x : Snapshot) : Axis → Option Int
  | .zm => if x.zmKnown then some x.zm else none
  | .vs => if x.vsKnown then some x.vs else none
  | .hs => none
  | .fc => none

/-- ZM and VS feed the geometry (R83). -/
def feedsGeometry (a : Axis) : Bool := a == .zm || a == .vs

/-- A step report asks for a build: the snapshot has the axis unknown, or the position is the
regeometry step or more away (R122). -/
def stepTriggers (s : State) (a : Axis) (position : Int) : Bool :=
  match s.geo.snapshot with
  | none => false
  | some x =>
    match snapshotPosition x a with
    | none => true
    | some p => decide (regeometryStep s ≤ (position - p).natAbs)

/-- GEO takes a step report (R83, R122). -/
def geoStepReport (a : Axis) (position : Int) (s : State) : State :=
  if feedsGeometry a && stepTriggers s a position then requestBuild s else s

/-- GEO takes the end of a request for ZM or VS: a build when the final position differs from the
snapshot. The end of a homing at 0 differs from every snapshot taken before it (R122). -/
def geoMoveEnd (a : Axis) (homed : Bool) (final : Option Int) (s : State) : State :=
  match s.geo.snapshot with
  | none => s
  | some x =>
    if feedsGeometry a && (homed || snapshotPosition x a != final) then requestBuild s else s

/-- The pitch trigger of a sweep end (R122). -/
def pitchTriggers (s : State) : Bool :=
  match s.geo.snapshot with
  | none => false
  | some x => s.geo.settings.keystone && decide (20 ≤ (s.scn.tangent - x.tangent).natAbs)

/-- GEO looks at the pending flag after a result (R121). -/
def afterBuild (s : State) : State :=
  if s.geo.pendingBuild then startBuild s
  else s.withGeo { s.geo with building := false }

/-- The end of a build: published or rejected (R133, R137, R138). Without a build in progress nothing
ends (log 4). -/
def finishBuild (s : State) : State :=
  match s.geo.building, s.geo.snapshot with
  | true, some x =>
    let verdict := buildVerdict x
    let bkm := if verdict = .none then s.bkm.publish x else s.bkm.reject
    afterBuild (raiseOn .geometry .m
      ((s.withBkm bkm).withGeo { s.geo with lastReject := verdict }))
  | _, _ => s

/-- The stored geometry settings change: item 10 is dirty and a build is requested (R117 to
R119). -/
def changeSettings (x : Settings) (s : State) : State :=
  requestBuild (markDirty .geometry (s.withGeo { s.geo with settings := x }))

/-- Clamp one trim (R117). -/
def clampTrim (t : Trim) : Trim := ⟨clamp (-7680) 7680 t.dx, clamp (-4320) 4320 t.dy⟩

/-- Clamp the four trims (R117). -/
def clampTrims (t : Trims) : Trims :=
  ⟨clampTrim t.tl, clampTrim t.tr, clampTrim t.bl, clampTrim t.br⟩

end Sys2Proof.Machine
end

