-- ==== Sys2Proof/Machine/Tracker.lean ====
section
/-! DEFINITION. The Focus Drift Tracker apart from its requests (chapter 6): the coefficient, the
conditions, the anchors, and what the end of a focus request does to the record. -/

namespace Sys2Proof.Machine

/-- The drift coefficient at a zoom position (R105). -/
def driftCoefficient (s : State) (z : Int) : Int := interpolate divHalfAway (driftTable s) z

/-- The correction that a temperature difference calls for, rounded half away and clamped (R101,
R110). -/
def correctionFor (k difference : Int) : Int := clamp (-120) 120 (divHalfAway (k * difference) 100)

/-- The conditions of the first row of R109: LIT, ON, an anchor, LNS NORMAL. -/
def trackingPossible (s : State) : Bool :=
  s.lps.power == .lit && s.fdt.enable && s.fdt.anchor.isSome && (normalTemp s .lns).isSome

/-- FC is IDLE with nothing pending, and ZM has a position (rows three and four of R109). -/
def focusFree (s : State) : Bool :=
  (s.axis .fc).state == .idle && s.msc.pending.fc.isNone && positionKnown s .zm

/-- The tracker state at the end of a focus request: WATCHING when every condition holds, else
SUSPENDED (R112; log 25 for a re-anchoring end). -/
def settledTracker (s : State) : TrackerState :=
  if trackingPossible s && focusFree s then .watching else .suspended

/-- Set the tracker state of a moment without a drift request. -/
def settleTracker (s : State) : State := s.withFdt { s.fdt with state := settledTracker s }

/-- An end of a request, as MSC hands it on (R83, R103). -/
structure MoveEnd where
  tag : Option Byte
  source : Option Source
  outcome : MoveOutcome
  final : Option Int
  start : Option Int
  target : Option Int
  book : Book
deriving DecidableEq, Repr

/-- A user focus move ended DONE: the anchor is the temperature presented now, if any, and the
correction starts afresh (R106). -/
def userAnchor (s : State) : State :=
  settleTracker (s.withFdt { s.fdt with anchor := normalTemp s .lns, correction := 0 })

/-- A recalled focus ended DONE: the saved anchor and the compensation (R107). -/
def recallAnchor (c : Compensation) (s : State) : State :=
  settleTracker (s.withFdt { s.fdt with anchor := some c.saved, correction := c.steps })

/-- The steps that a drift move adds to the correction: those moved, unless they run against the
delta (R112). -/
def driftSteps (delta moved : Int) : Int :=
  if moved = 0 ∨ (0 < moved ∧ 0 < delta) ∨ (moved < 0 ∧ delta < 0) then moved else 0

/-- The end of a drift request (R112). -/
def driftEnd (e : MoveEnd) (s : State) : State :=
  let added := match e.outcome, s.fdt.outstanding, e.start, e.target with
    | .done, some delta, some p, some t => driftSteps delta (t - p)
    | _, _, _, _ => 0
  settleTracker
    (s.withFdt { s.fdt with outstanding := none, correction := s.fdt.correction + added })

/-- What the end of a focus request does to the tracker record (R106, R107, R112). -/
def focusEnd (e : MoveEnd) (s : State) : State :=
  match e.source, e.outcome, e.target, e.book.comp with
  | some .drift, _, _, _ => driftEnd e s
  | some .m, .done, some _, _ => userAnchor s
  | some .recall, .done, _, some c => recallAnchor c s
  | _, _, _, _ => s

end Sys2Proof.Machine
end

