-- ==== Sys2Proof/Machine/Results.lean ====
section
/-! DEFINITION. The ends of requests (section 5.5) and the recall group (section 5.7). -/

namespace Sys2Proof.Machine

/-- A request that MSC holds no record of: issuing port none. -/
def noBook : Book := ⟨none, 0, false, none⟩

/-- What MSC keeps with the request in force on an axis (R85). -/
def bookOf (s : State) (a : Axis) : Book := (s.msc.inForce.get a).getD noBook

/-- Set what MSC keeps with the request in force. -/
def setInForce (a : Axis) (b : Option Book) (s : State) : State :=
  s.withMsc { s.msc with inForce := s.msc.inForce.set a b }

/-- Set the pending record of an axis. -/
def setRequest (a : Axis) (r : Option Request) (s : State) : State :=
  s.withMsc { s.msc with pending := s.msc.pending.set a r }

/-- The progress that an outcome gives a member (R96). No member is a homing, so HOME_NOT_FOUND does
not reach a member (log 35). -/
def progressOf : MoveOutcome → Progress
  | .done => .done
  | .superseded => .superseded
  | .cancelled => .cancelled
  | .limitHit => .limitHit
  | .homeNotFound => .limitHit
  | .powerLost => .powerLost

/-- The group outcome that the first member end other than DONE decides (R96). -/
def groupOutcomeOf : MoveOutcome → GroupOutcome
  | .done => .done
  | .superseded => .superseded
  | .cancelled => .cancelled
  | .limitHit => .lost
  | .homeNotFound => .lost
  | .powerLost => .lost

/-- A request without its group flag. -/
def Book.unflagged (b : Book) : Book := { b with member := false }

/-- A pending record without its group flag. -/
def Request.unflagged (r : Request) : Request := { r with book := r.book.unflagged }

/-- Every request loses its group flag (R96). -/
def clearMembers (m : Msc) : Msc :=
  { m with pending := m.pending.map (fun r => r.map Request.unflagged),
           inForce := m.inForce.map (fun b => b.map Book.unflagged) }

/-- The group ends: its outcome, RECALL on its issuing port, the flags cleared (R96). -/
def endGroup (o : GroupOutcome) (s : State) : State :=
  match s.msc.group with
  | none => s
  | some g =>
    raiseOn .recall g.port (s.withMsc { clearMembers s.msc with group := some { g with outcome := o } })

/-- The group is IN_PROGRESS (R96). -/
def groupInProgress (s : State) : Bool :=
  match s.msc.group with
  | none => false
  | some g => g.outcome == .inProgress

/-- Set the progress of a member. -/
def setProgress (a : Axis) (p : Progress) (s : State) : State :=
  match s.msc.group with
  | none => s
  | some g => s.withMsc { s.msc with group := some { g with members := g.members.set a (some p) } }

/-- Every member ended DONE (R96). -/
def allDone (g : Group) : Bool :=
  allAxes.all (fun a => g.members.get a == none || g.members.get a == some .done)

/-- A group all of whose members ended DONE, or that has none, ends DONE (R96). -/
def settleGroup (s : State) : State :=
  match s.msc.group with
  | none => s
  | some g => if g.outcome = .inProgress ∧ allDone g then endGroup .done s else s

/-- The end of a member updates the group: its progress, then the outcome (R96). -/
def memberEnd (a : Axis) (o : MoveOutcome) (s : State) : State :=
  let t := setProgress a (progressOf o) s
  if o = .done then settleGroup t
  else if groupInProgress t then endGroup (groupOutcomeOf o) t
  else t

/-- A member in this progress has not ended (R96). -/
def unended : Option Progress → Bool
  | some .waiting => true
  | some .running => true
  | _ => false

/-- The axis has a member of the group in progress that has not ended (R96). -/
def liveMember (s : State) (a : Axis) : Bool :=
  match s.msc.group with
  | none => false
  | some g => g.outcome == .inProgress && unended (g.members.get a)

/-- A user command on an axis whose member has not ended ends the group (R96). -/
def endGroupFor (o : GroupOutcome) (axes : PerAxis Bool) (s : State) : State :=
  if allAxes.any (fun a => axes.get a && liveMember s a) then endGroup o s else s

/-- The last-result record after an end (R94). -/
def recordResult (a : Axis) (e : MoveEnd) (s : State) : State :=
  s.withMsc { s.msc with last := s.msc.last.set a ⟨e.tag, e.source, some e.outcome, e.final⟩ }

/-- The group takes the end of a member (R96). -/
def tellGroup (a : Axis) (e : MoveEnd) (s : State) : State :=
  if e.book.member then memberEnd a e.outcome s else s

/-- FDT takes each end of an FC request (R103). -/
def tellFocus (a : Axis) (e : MoveEnd) (s : State) : State := if a = .fc then focusEnd e s else s

/-- The end completes a homing: DONE, with no target (R76, R83). -/
def homedBy (e : MoveEnd) : Bool := e.outcome == .done && e.target.isNone

/-- MSC records an end (R94) and hands it on (R103): the last-result record, MOVE on the issuing
port, the group, then FDT for FC and GEO for ZM and VS. -/
def recordEnd (a : Axis) (e : MoveEnd) (s : State) : State :=
  geoMoveEnd a (homedBy e) e.final
    (tellFocus a e (tellGroup a e (raiseOnIssuer .move e.book.port (recordResult a e s))))

/-- The end of the request in force on an axis: the fields come from the axis record as it stood. -/
def endOfForce (r : AxisRecord) (b : Book) (o : MoveOutcome) (final : Option Int) : MoveEnd :=
  ⟨r.tag, r.source, o, final, r.start, r.target, b⟩

/-- The end of a pending record that leaves without a grant (R94): the final position is the axis's,
or unknown. -/
def endOfPending (s : State) (r : Request) (o : MoveOutcome) : MoveEnd :=
  ⟨some r.tag, some r.source, o, shownPosition s r.axis, none, none, r.book⟩

/-- A pending record leaves the list and ends (R88, R89, R95). -/
def dropRequest (a : Axis) (o : MoveOutcome) (s : State) : State :=
  match s.msc.pending.get a with
  | none => s
  | some r =>
    let t := setRequest a none s
    recordEnd a (endOfPending t r o) t

end Sys2Proof.Machine
end

