-- ==== Sys2Proof/Machine/Lens.lean ====
section
/-! DEFINITION. The Lens Drive Unit (chapter 4): slots, plans, legs, ramps, homings, retargets, stops
and the home switches. -/

namespace Sys2Proof.Machine

/-! ## Slots -/

/-- An axis holds this slot (R63). -/
def slotHeld (s : State) (d : DriveSlot) : Bool :=
  allAxes.any (fun a => (s.axis a).slot == some d)

/-- The lowest-numbered free slot, if any (R63). -/
def freeSlot (s : State) : Option DriveSlot :=
  if slotHeld s .slot0 = false then some .slot0
  else if slotHeld s .slot1 = false then some .slot1
  else none

/-- The number of running axes (R63). -/
def runningCount (s : State) : Nat := (allAxes.filter (fun a => running s a)).length

/-- The slot count of the acoustic mode (R63). -/
def slotCount (s : State) : Nat := if s.afc.mode = .quiet then 1 else 2

/-- The motion mark is set whenever an axis is in MOVING or HOMING (R13). -/
def markMotion (s : State) : State := s.withScn { s.scn with motion := true }

/-- The direction field with DIR_x, which follows it while the driver is enabled (R61, R65). -/
def AxisRecord.facing (r : AxisRecord) (d : Direction) : AxisRecord :=
  { r with direction := d, dirHigh := d == .positive }

/-- The record with a slot: DRV_EN_x asserted (R63). -/
def AxisRecord.holding (r : AxisRecord) (d : DriveSlot) : AxisRecord :=
  { r with slot := some d, drvEn := true, dirHigh := r.direction == .positive }

/-- The record with its slot released: DRV_EN_x deasserted (R63). -/
def AxisRecord.released (r : AxisRecord) : AxisRecord := { r with slot := none, drvEn := false }

/-- The record of an axis at rest: no phase, nothing left to do, no slot, and the direction that of
the last step taken (R61). -/
def AxisRecord.resting (r : AxisRecord) (st : AxisState) (position : Option Int) : AxisRecord :=
  { r.released with state := st, position := position, phase := none, endAction := none,
                    remaining := 0, dwell := none, direction := r.lastStep }

/-- The record of an axis that comes to rest in IDLE, with its maximum in force (R60). -/
def AxisRecord.idleAt (r : AxisRecord) (maximum position : Int) : AxisRecord :=
  { r.resting .idle (some position) with maxInForce := max maximum position }

/-- The record of an axis that becomes LOST (R62). -/
def AxisRecord.becomeLost (r : AxisRecord) : AxisRecord := r.resting .lost none

/-- The end of the request in force, after the axis record has changed (R83). -/
def finishForce (a : Axis) (rest : AxisRecord) (o : MoveOutcome) (final : Option Int)
    (s : State) : State :=
  let e := endOfForce (s.axis a) (bookOf s a) o final
  recordEnd a e (setInForce a none (s.setAxis a rest))

/-- The request in force ends with the axis IDLE where it stands. -/
def finishIdle (a : Axis) (o : MoveOutcome) (position : Int) (s : State) : State :=
  finishForce a ((s.axis a).idleAt (axisMaximum s a) position) o (some position) s

/-- The request in force ends with the axis LOST. -/
def finishLost (a : Axis) (o : MoveOutcome) (s : State) : State :=
  finishForce a (s.axis a).becomeLost o none s

/-! ## Plans (R67) -/

/-- A plan from rest: its first leg and the steps of all its legs. -/
structure Plan where
  direction : Direction
  legEnd : Int
  remaining : Int
deriving DecidableEq, Repr

/-- The approach point of a target (R67). -/
def approachPoint (target backlash : Int) : Int := max 0 (target - backlash)

/-- A plan through the approach point (R67). -/
def planThrough (p t a : Int) : Plan := ⟨.negative, a, (p - a) + (t - a)⟩

/-- The plan from rest at `p` to `t` with the last step in direction `d`; none has no steps
(R67). With a backlash of 0 a loop through the approach point has no steps either (log 15). -/
def planFrom (p t backlash : Int) (d : Direction) : Option Plan :=
  let a := approachPoint t backlash
  if p < t then some ⟨.positive, t, t - p⟩
  else if t < p then some (planThrough p t a)
  else if d = .positive ∨ t = 0 ∨ a = t then none
  else some (planThrough p t a)

/-- The steps of a plan. -/
def planLength (x : Option Plan) : Int :=
  match x with
  | none => 0
  | some y => y.remaining

/-- The plan of an axis from where it stands. -/
def planOf (s : State) (a : Axis) (d : Direction) : Option Plan :=
  match (s.axis a).position, (s.axis a).target with
  | some p, some t => planFrom p t (axisBacklash s a) d
  | _, _ => none

/-- Begin the first leg of a plan (R68). -/
def AxisRecord.beginPlan (r : AxisRecord) (x : Plan) : AxisRecord :=
  { r.facing x.direction with phase := some .travel, endAction := none, legEnd := x.legEnd,
                              remaining := x.remaining, dwell := none }

/-- Wait in a reversal dwell (R68). -/
def AxisRecord.beginDwell (r : AxisRecord) (d : DwellEnd) (remaining : Int) : AxisRecord :=
  { r with phase := some .reverse, endAction := none, dwell := some d, remaining := remaining }

/-- The move ends DONE where it stands (R67, R68). -/
def finishDone (a : Axis) (s : State) : State :=
  match (s.axis a).position with
  | some p => finishIdle a .done p s
  | none => s

/-- Plan from rest at the end of a stop ramp: a dwell comes first when the first leg runs against
the last step (R67). -/
def replanAfterRamp (a : Axis) (s : State) : State :=
  let r := s.axis a
  match planOf s a r.lastStep with
  | none => finishDone a s
  | some x =>
    if x.direction = r.lastStep then s.setAxis a (r.beginPlan x)
    else s.setAxis a (r.beginDwell .firstLeg x.remaining)

/-- Plan at the end of a dwell, with the given last direction: no further dwell (R67, R72). -/
def replanAfterDwell (a : Axis) (d : Direction) (s : State) : State :=
  match planOf s a d with
  | none => finishDone a s
  | some x => s.setAxis a ((s.axis a).beginPlan x)

/-! ## Homing (section 4.6) -/

/-- The homing limit with the profile maximum of the moment (R59, R77). -/
def homingLimit (s : State) (a : Axis) : Int := axisMaximum s a + divTrunc (axisMaximum s a) 8

/-- The release limit (R59). -/
def releaseLimit : Int := 200

/-- The homing rate (R59). -/
def homingRate : Int := 600

/-- The home window (R59). -/
def homeWindow : Int := 200

/-- The second stage begins with its dwell (R76). -/
def AxisRecord.dwellForRelease (r : AxisRecord) : AxisRecord :=
  r.beginDwell .release releaseLimit

/-- SEEK: steps negative against the homing limit (R76). -/
def AxisRecord.seek (r : AxisRecord) (limit : Int) : AxisRecord :=
  { r.facing .negative with phase := some .seek, endAction := none, dwell := none,
                            remaining := limit }

/-- Enter HOMING (R62, R76): the position field is 0, and the homing in force is a HELD one at the
homing rate without target (log 19). -/
def AxisRecord.enterHoming (r : AxisRecord) : AxisRecord :=
  { r with state := .homing, position := some 0, target := none, start := none,
           mode := some .held, rate := some homingRate, endAction := none }

/-- The first stage of a homing: SEEK, or its skip when the switch is asserted already (R76). -/
def AxisRecord.firstStage (r : AxisRecord) (limit : Int) : AxisRecord :=
  if r.switch then r.dwellForRelease else r.seek limit

/-- A homing begins without a dwell before SEEK: at a grant, or at the end of a dwell (R76). -/
def beginHoming (a : Axis) (s : State) : State :=
  markMotion (s.setAxis a ((s.axis a).enterHoming.firstStage (homingLimit s a)))

/-- A homing begins at the end of a stop ramp: a dwell before SEEK when the last step was positive
(R76). The manual gives no steps remaining for that dwell: the model shows the homing limit, which
SEEK then starts from (log 21). -/
def homeAfterRamp (a : Axis) (s : State) : State :=
  let r := (s.axis a).enterHoming
  if r.switch = false ∧ r.lastStep = .positive then
    s.setAxis a (r.beginDwell .seek (homingLimit s a))
  else s.setAxis a (r.firstStage (homingLimit s a))

/-- The homing is complete: the direction becomes POSITIVE, with or without a RELEASE step (R76; log
18). -/
def completeHoming (a : Axis) (s : State) : State :=
  let r := { s.axis a with lastStep := .positive }
  finishForce a (r.idleAt (axisMaximum s a) 0) .done (some 0) s

/-! ## Stop ramps (R70) -/

/-- The length of a stop ramp: at most 32 and at most the leg (R70). -/
def rampLength (position legEnd : Int) : Int := min 32 ((legEnd - position).natAbs)

/-- The remainder of a yielded move, as it returns to the list (R74, R93). -/
def remainderOf (a : Axis) (r : AxisRecord) (b : Book) : Request :=
  { axis := a, kind := .absolute (r.target.getD 0), mode := .shared, follow := none,
    tag := r.tag.getD 0, source := r.source.getD .m, book := b }

/-- The axis becomes YIELDED and its remainder returns to the list (R74, R93, R96). -/
def becomeYielded (a : Axis) (s : State) : State :=
  let r := s.axis a
  let b := bookOf s a
  let rest := { r.released with phase := some .yielded, endAction := none,
                                remaining := planLength (planOf s a r.lastStep) }
  let t := setRequest a (some (remainderOf a r b)) (s.setAxis a rest)
  if b.member then setProgress a .waiting t else t

/-- What happens at the end of a stop ramp (R70). -/
def rampEnd (a : Axis) (s : State) : State :=
  match (s.axis a).endAction, (s.axis a).position with
  | some .replan, some _ => replanAfterRamp a s
  | some .cancel, some p => finishIdle a .cancelled p s
  | some .yield, some _ => becomeYielded a s
  | some .home, some _ => homeAfterRamp a s
  | _, _ => s

/-- A stop ramp of no steps ends at once (R70). -/
def endEmptyRamp (a : Axis) (s : State) : State :=
  if (s.axis a).phase = some .stopRamp ∧ (s.axis a).remaining = 0 then rampEnd a s else s

/-- Enter a stop ramp; one of no steps ends at once (R70). -/
def startRamp (a : Axis) (action : EndAction) (s : State) : State :=
  let r := s.axis a
  let n := rampLength (r.position.getD 0) r.legEnd
  endEmptyRamp a
    (s.setAxis a { r with phase := some .stopRamp, endAction := some action, remaining := n })

/-! ## Grants (R66) -/

/-- A target resolved against a position (R66). -/
def resolve (maximum position : Int) : ReqKind → Int
  | .absolute t => clamp 0 maximum t
  | .relative d => clamp 0 maximum (position + d)
  | .home => 0

/-- The record takes over a request: tag, source, grant mode, target and start position. -/
def AxisRecord.takingOver (r : AxisRecord) (q : Request) (target start : Option Int) : AxisRecord :=
  { r with tag := some q.tag, source := some q.source, mode := some q.mode, target := target,
           start := start }

/-- The record at a grant: it takes over the request, and the segment count starts from 0 (R69). -/
def AxisRecord.granted (r : AxisRecord) (q : Request) (target start : Option Int) : AxisRecord :=
  { r.takingOver q target start with segment := 0 }

/-- A granted homing takes the slot and begins (R63, R76). -/
def grantHome (a : Axis) (q : Request) (d : DriveSlot) (s : State) : State :=
  let r := ((s.axis a).granted q none none).holding d
  markMotion (s.setAxis a (r.enterHoming.firstStage (homingLimit s a)))

/-- A granted move takes the slot, fixes its rate and plans its path (R66). -/
def startMove (a : Axis) (position target : Int) (d : DriveSlot) (s : State) : State :=
  let r := (s.axis a).holding d
  let r1 := { r with state := .moving, rate := some (axisRate s a) }
  match planFrom position target (axisBacklash s a) r.lastStep with
  | none => s
  | some x => markMotion (s.setAxis a (r1.beginPlan x))

/-- LDU takes the grant of a move (R66): the switch watch, a target that is reached already, or a
start. -/
def grantMove (a : Axis) (q : Request) (p : Int) (d : DriveSlot) (s : State) : State :=
  let t := resolve (axisMaximum s a) p q.kind
  let s1 := s.setAxis a ((s.axis a).granted q (some t) (some p))
  if (s.axis a).switch ∧ homeWindow < p then finishLost a .limitHit s1
  else if t = p then finishIdle a .done p s1
  else startMove a p t d s1

/-- LDU takes a grant (R66, R76). A move for an axis without a position is never granted (R86, R100,
R110); it would end LIMIT_HIT (log 35). -/
def lduGrant (a : Axis) (q : Request) (d : DriveSlot) (s : State) : State :=
  match q.kind, (s.axis a).position with
  | .home, _ => grantHome a q d s
  | _, some p => grantMove a q p d s
  | _, none => finishLost a .limitHit (s.setAxis a ((s.axis a).granted q none none))

/-! ## Orders to a running axis (R71 to R75) -/

/-- The request in force is replaced: the record changes, the old request ends SUPERSEDED with the
fields it held, and the new one is in force (R71, R85). -/
def replaceForce (a : Axis) (next : AxisRecord) (b : Book) (final : Option Int) (s : State) :
    State :=
  let e := endOfForce (s.axis a) (bookOf s a) .superseded final
  setInForce a (some b) (recordEnd a e (s.setAxis a next))

/-- The new target lies ahead of the leg in progress (R71). -/
def aheadOf (d : Direction) (p t : Int) : Bool :=
  match d with
  | .positive => decide (p < t)
  | .negative => decide (t < p)

/-- The leg in progress now leads to the new target (R71). -/
def AxisRecord.extendLeg (r : AxisRecord) (p t backlash : Int) : AxisRecord :=
  match r.direction with
  | .positive => { r with phase := some .travel, legEnd := t, remaining := t - p }
  | .negative =>
    let x := planThrough p t (approachPoint t backlash)
    { r with phase := some .travel, legEnd := x.legEnd, remaining := x.remaining }

/-- A retarget of a running axis (R71, R72). -/
def retarget (a : Axis) (q : Request) (s : State) : State :=
  match (s.axis a).position with
  | none => s
  | some p =>
    let t := resolve (axisMaximum s a) p q.kind
    let r := (s.axis a).takingOver q (some t) (some p)
    match (s.axis a).phase with
    | some .stopRamp => replaceForce a { r with endAction := some .replan } q.book (some p) s
    | some .reverse =>
      let n := planLength (planFrom p t (axisBacklash s a) .negative)
      replaceForce a (r.beginDwell .replan n) q.book (some p) s
    | _ =>
      if aheadOf r.direction p t then
        replaceForce a (r.extendLeg p t (axisBacklash s a)) q.book (some p) s
      else
        let n := rampLength p r.legEnd
        endEmptyRamp a (replaceForce a
          { r with phase := some .stopRamp, endAction := some .replan, remaining := n }
          q.book (some p) s)

/-- A HOME passed to a running axis (R72, R75). -/
def passHome (a : Axis) (q : Request) (s : State) : State :=
  let r := (s.axis a).takingOver q none none
  match (s.axis a).state, (s.axis a).phase with
  | .homing, _ => replaceForce a r q.book none s
  | _, some .stopRamp =>
    replaceForce a { r with endAction := some .home } q.book (s.axis a).position s
  | _, some .reverse =>
    replaceForce a { r with dwell := some .homing } q.book (s.axis a).position s
  | _, _ =>
    let n := rampLength ((s.axis a).position.getD 0) r.legEnd
    endEmptyRamp a (replaceForce a
      { r with phase := some .stopRamp, endAction := some .home, remaining := n }
      q.book (s.axis a).position s)

/-- A stop of a running axis (R73). -/
def stopRunning (a : Axis) (s : State) : State :=
  match (s.axis a).state, (s.axis a).phase, (s.axis a).position with
  | .homing, _, _ => finishLost a .cancelled s
  | .moving, some .stopRamp, _ => s.setAxis a { s.axis a with endAction := some .cancel }
  | .moving, some .reverse, some p => finishIdle a .cancelled p s
  | .moving, _, some _ => startRamp a .cancel s
  | _, _, _ => s

/-- A yielded move whose remainder is removed ends where it stands (R73, R74, R88, R89). -/
def endYielded (a : Axis) (o : MoveOutcome) (s : State) : State :=
  match (s.axis a).position with
  | none => setRequest a none s
  | some p => finishIdle a o p (setRequest a none s)

/-! ## Steps (R65 to R70) -/

/-- The change of position of one step. -/
def stepBy : Direction → Int
  | .positive => 1
  | .negative => -1

/-- The record counts TRAVEL steps of a SHARED move (R69). -/
def countsSegment (r : AxisRecord) : Bool := r.phase == some .travel && r.mode == some .shared

/-- The record after a step of a position-known axis (R65, R68, R69). -/
def AxisRecord.stepped (r : AxisRecord) (p : Int) : AxisRecord :=
  { r with position := some (p + stepBy r.direction), remaining := r.remaining - 1,
           segment := if countsSegment r then (r.segment + 1) % 256 else r.segment,
           lastStep := r.direction }

/-- The step of a record in TRAVEL or OVERSHOOT_RETURN ended its leg. -/
def legEnded (r : AxisRecord) : Bool := r.position == some r.legEnd

/-- The leg in progress is the last of its plan (R67). -/
def lastLeg (r : AxisRecord) : Bool := r.direction == .positive || r.target == some r.legEnd

/-- The end of a leg: the move ends DONE, or a reversal dwell before the return leg (R68). -/
def legEnd (a : Axis) (s : State) : State :=
  let r := s.axis a
  if lastLeg r then finishDone a s
  else s.setAxis a (r.beginDwell .returnLeg (r.target.getD 0 - r.legEnd))

/-- A step against a homing limit: at 0 the homing fails (R76, R77). -/
def homingStep (a : Axis) (s : State) : State :=
  let r := s.axis a
  let t := s.setAxis a { r with remaining := r.remaining - 1, lastStep := r.direction }
  if r.remaining - 1 ≤ 0 then finishLost a .homeNotFound t else t

/-! ## Dwells (R68, R72, R76) -/

/-- A reversal dwell expires. Without a dwell in progress nothing expires (log 4). -/
def dwellEnd (a : Axis) (s : State) : State :=
  let r := s.axis a
  match r.dwell with
  | none => s
  | some .returnLeg =>
    s.setAxis a { r.facing .positive with
      phase := some .overshootReturn, dwell := none, legEnd := r.target.getD 0 }
  | some .firstLeg => replanAfterDwell a r.lastStep s
  | some .replan => replanAfterDwell a .negative s
  | some .homing => beginHoming a s
  | some .seek => s.setAxis a (r.firstStage (homingLimit s a))
  | some .release =>
    if r.switch then
      s.setAxis a { r.facing .positive with phase := some .release, dwell := none }
    else completeHoming a s

/-! ## Home switches (R76, R79) -/

/-- The phases in which the home switch watch acts (R79). -/
def stepping (r : AxisRecord) : Bool :=
  r.phase == some .travel || r.phase == some .overshootReturn || r.phase == some .stopRamp

/-- An accepted change of a home switch. A level that is the debounced one already is no change
(log 4). -/
def switchChange (a : Axis) (asserted : Bool) (s : State) : State :=
  if (s.axis a).switch = asserted then s
  else
    let t := s.setAxis a { s.axis a with switch := asserted }
    let r := t.axis a
    match r.state, r.phase, asserted with
    | .homing, some .seek, true => t.setAxis a r.dwellForRelease
    | .homing, some .release, false => completeHoming a t
    | .moving, _, true =>
      if stepping r && decide (homeWindow < r.position.getD 0) then finishLost a .limitHit t else t
    | _, _, _ => t

end Sys2Proof.Machine
end

