-- ==== Sys2Proof/Machine/Scheduler.lean ====
section
/-! DEFINITION. The Move Scheduler (sections 5.1 to 5.6): placing, eligibility, grants, yields, stops,
and what a step and a main-rail loss do on the lens. -/

namespace Sys2Proof.Machine

/-! ## Eligibility and grants (R90 to R92) -/

/-- The FOLLOW axis of a record imposes no wait: not running and nothing pending (R90). -/
def followFree (s : State) : Option Axis → Bool
  | none => true
  | some f => !running s f && (s.msc.pending.get f).isNone

/-- A pending record is eligible (R90). -/
def eligible (s : State) (q : Request) : Bool :=
  !running s q.axis && followFree s q.follow && (q.source != .drift || s.lps.power == .lit)

/-- The axis has an eligible record. -/
def axisEligible (s : State) (a : Axis) : Bool :=
  match s.msc.pending.get a with
  | none => false
  | some q => eligible s q

/-- The axis after this one on the ring (R92). -/
def nextAxis : Axis → Axis
  | .hs => .vs
  | .vs => .zm
  | .zm => .fc
  | .fc => .hs

/-- The ring from an axis on (R92). -/
def ringFrom (a : Axis) : List Axis :=
  [a, nextAxis a, nextAxis (nextAxis a), nextAxis (nextAxis (nextAxis a))]

/-- The arrival stamp of an axis's pending record. -/
def stampOf (s : State) (a : Axis) : Nat :=
  match s.msc.pending.get a with
  | none => 0
  | some q => q.book.stamp

/-- The axis of a list with the oldest stamp (R92, FIXED). -/
def oldest (s : State) : List Axis → Option Axis
  | [] => none
  | a :: rest =>
    match oldest s rest with
    | none => some a
    | some b => if stampOf s b < stampOf s a then some b else some a

/-- The selection among the axes that `allowed` admits (R92). -/
def selectAmong (s : State) (allowed : Axis → Bool) : Option Axis :=
  if policyRotating s then (ringFrom s.msc.favoured).find? allowed
  else oldest s (allAxes.filter allowed)

/-- The selection of an occasion: an axis that has just yielded is passed over while another eligible
record exists (R92, R93). -/
def selectGrant (s : State) (passOver : Option Axis) : Option Axis :=
  match selectAmong s (fun a => axisEligible s a && passOver != some a) with
  | some a => some a
  | none => selectAmong s (axisEligible s)

/-- MSC hands one grant to LDU (R91): the record leaves the list, the pointer moves on, the request
is in force, a member is RUNNING. -/
def grantOne (a : Axis) (d : DriveSlot) (s : State) : State :=
  match s.msc.pending.get a with
  | none => s
  | some q =>
    let s1 := s.withMsc
      { s.msc with pending := s.msc.pending.set a none, favoured := nextAxis a,
                   inForce := s.msc.inForce.set a (some q.book) }
    let s2 := if q.book.member then setProgress a .running s1 else s1
    lduGrant a q d s2

/-- The grants of one occasion, at most `fuel` of them (R91). -/
def grantLoop (passOver : Option Axis) : Nat → State → State
  | 0, s => s
  | n + 1, s =>
    if slotCount s ≤ runningCount s then s
    else
      match selectGrant s passOver, freeSlot s with
      | some a, some d => grantLoop passOver n (grantOne a d s)
      | _, _ => s

/-- A grant occasion (R91): each grant removes one of at most four records. -/
def grantOccasion (passOver : Option Axis) (s : State) : State := grantLoop passOver 4 s

/-! ## Placing (R88) -/

/-- A new request before it is placed. -/
structure NewRequest where
  axis : Axis
  kind : ReqKind
  mode : GrantMode
  follow : Option Axis
  tag : Byte
  source : Source
  port : Option Port
  member : Bool
  comp : Option Compensation
deriving DecidableEq, Repr

/-- The request record with the next arrival stamp (R85). -/
def stamped (q : NewRequest) (stamp : Nat) : Request :=
  { axis := q.axis, kind := q.kind, mode := q.mode, follow := q.follow, tag := q.tag,
    source := q.source, book := ⟨q.port, stamp, q.member, q.comp⟩ }

/-- Use up an arrival stamp. -/
def nextStamp (s : State) : State := s.withMsc { s.msc with nextStamp := s.msc.nextStamp + 1 }

/-- A request passed to LDU for a running axis (R88): a HOME, or a retarget of a move. A member so
passed is RUNNING (R100). No move is passed to a HOMING axis (R75). -/
def passToRunning (q : Request) (s : State) : State :=
  let t := match q.kind with
    | .home => passHome q.axis q s
    | _ => if (s.axis q.axis).state = .moving then retarget q.axis q s else s
  if q.book.member then setProgress q.axis .running t else t

/-- The pending record of an axis that is not running makes way for a new request (R88). -/
def supersedePending (a : Axis) (s : State) : State :=
  if yielded s a then endYielded a .superseded s else dropRequest a .superseded s

/-- Place a new request (R88). The grant occasion comes after the last placing of the command. -/
def place (n : NewRequest) (s : State) : State :=
  let q := stamped n s.msc.nextStamp
  let s1 := nextStamp s
  if running s1 n.axis then passToRunning q s1
  else setRequest n.axis (some q) (supersedePending n.axis s1)

/-! ## Stops (R89) -/

/-- STOP acts on one axis (R89). -/
def stopAxis (a : Axis) (s : State) : State :=
  if running s a then stopRunning a s
  else if yielded s a then endYielded a .cancelled s
  else dropRequest a .cancelled s

/-- Apply an operation to each axis of a set, in the order HS, VS, ZM, FC. -/
def forAxes (axes : PerAxis Bool) (f : Axis → State → State) (s : State) : State :=
  allAxes.foldl (fun t a => if axes.get a then f a t else t) s

/-! ## Yields (R93) -/

/-- MSC orders a yield at a segment boundary (R93). -/
def ordersYield (s : State) : Bool :=
  allAxes.any (fun a => axisEligible s a) && decide (slotCount s ≤ runningCount s)

/-! ## The row STEP (R65 to R70, R83, R93) -/

/-- The record of an axis can be stepped: it holds a slot in a stepping phase at a known position. -/
def canStep (r : AxisRecord) : Bool :=
  r.state == .moving && r.slot.isSome && stepping r && r.position.isSome

/-- What follows a step of a move: the end of its ramp, a segment boundary, the end of its leg. No
boundary is handed over at the step that ends the plan (R69). -/
def afterStep (a : Axis) (boundary : Bool) (s : State) : State :=
  let r := s.axis a
  if r.phase = some .stopRamp then (if r.remaining ≤ 0 then rampEnd a s else s)
  else if legEnded r && lastLeg r then finishDone a s
  else if boundary && ordersYield s then startRamp a .yield s
  else if legEnded r then legEnd a s
  else s

/-- A step of a position-known axis: the record, the step report to GEO, and what follows. -/
def moveStep (a : Axis) (p : Int) (s : State) : State :=
  let r := s.axis a
  let next := r.stepped p
  let boundary := countsSegment r && next.segment == 0
  afterStep a boundary
    (geoStepReport a (p + stepBy r.direction) (s.setAxis a next))

/-- The axes that hold a slot. -/
def holders (s : State) : List Axis := allAxes.filter (fun a => running s a)

/-- A grant occasion when a slot was released since `before` (R63, R91), the axis passed over that
yielded at it (R93). -/
def occasionAfter (a : Axis) (before s : State) : State :=
  if holders before = holders s then s
  else grantOccasion (if yielded s a then some a else none) s

/-- A step pulse on an axis. An axis that takes no steps now is not stepped (log 4). -/
def axisStep (a : Axis) (s : State) : State :=
  let r := s.axis a
  if r.state = .homing ∧ (r.phase = some .seek ∨ r.phase = some .release) then
    occasionAfter a s (homingStep a s)
  else if canStep r then occasionAfter a s (moveStep a (r.position.getD 0) s)
  else s

/-! ## The main-rail loss on the lens (R80, R95) -/

/-- The axis is lost at the loss: MOVING, which includes YIELDED, or HOMING (R80). -/
def lostByRail (s : State) (a : Axis) : Bool := inMotion s a

/-- An axis in motion becomes LOST and its slot free (R80). -/
def dropAxis (a : Axis) (s : State) : State :=
  if inMotion s a then s.setAxis a (s.axis a).becomeLost else s

/-- Every axis in motion becomes LOST and every slot free, before any end is handed on (log 29). -/
def dropAxes (s : State) : State := allAxes.foldl (fun t a => dropAxis a t) s

/-- The end that the loss makes on one axis: of the move or homing in force, or of the pending
record; a yielded remainder is not recorded apart from its move (R80, R95). The records are those
before the loss; the group flag is that of the moment. -/
def lossEnd (before : State) (a : Axis) (s : State) : State :=
  if lostByRail before a then
    recordEnd a (endOfForce (before.axis a) (bookOf s a) .powerLost none) (setInForce a none s)
  else dropRequest a .powerLost s

/-- The remainders of yielded moves leave the list without a result of their own (R95). -/
def dropRemainders (s : State) : State :=
  s.withMsc { s.msc with pending :=
    ⟨if yielded s .hs then none else s.msc.pending.hs,
     if yielded s .vs then none else s.msc.pending.vs,
     if yielded s .zm then none else s.msc.pending.zm,
     if yielded s .fc then none else s.msc.pending.fc⟩ }

/-- The lens at a main-rail loss (R80, R95). -/
def lensLoss (s : State) : State :=
  allAxes.foldl (fun t a => lossEnd s a t) (dropAxes (dropRemainders s))

end Sys2Proof.Machine
end

