-- ==== Sys2Proof/Machine/Light.lean ====
section
/-! DEFINITION. The Light and Power Supervisor (chapter 3): power states, light limits, trips, cooling,
and what it does at each of its events. -/

namespace Sys2Proof.Machine

/-! ## Parameters (R169) -/

def tripTemp (s : State) (c : Channel) : Int := param s.prf.light (2 * channelNumber c)
def resetTemp (s : State) (c : Channel) : Int := param s.prf.light (2 * channelNumber c + 1)
def derateStart (s : State) : Int := param s.prf.light 16
def derateEnd (s : State) : Int := param s.prf.light 17
def derateFloor (s : State) : Int := param s.prf.light 18
def derateHyst (s : State) : Int := param s.prf.light 19
def coolDone (s : State) : Int := param s.prf.light 20
def minCooling (s : State) : Int := param s.prf.light 21
def maxCooling (s : State) : Int := param s.prf.light 22

/-! ## Light limits (section 3.6) -/

/-- The limit function (R52). -/
def limitAt (s : State) (t : Int) : Int :=
  if t ≤ derateStart s then 1000
  else if derateEnd s ≤ t then derateFloor s
  else 1000 - divUp ((1000 - derateFloor s) * (t - derateStart s)) (derateEnd s - derateStart s)

/-- The derate limit after an update at temperature `t` (R53). -/
def derateAfter (s : State) (current t : Int) : Int :=
  if limitAt s t ≤ current then limitAt s t
  else max current (limitAt s (t + derateHyst s))

/-- The derate update with the LSH values presented now (R53). LSH is NORMAL in LIT, as R53 says; for
another LSH the derate limit stays (log 35). -/
def updateDerate (s : State) : State :=
  match normalTemp s .lsh with
  | none => s
  | some t => s.withLps { s.lps with derate := derateAfter s s.lps.derate t }

/-- The quiet cap is in force (R54). -/
def quietCapped (s : State) : Bool :=
  s.afc.mode == .quiet && allFans.any (fun f => (s.afc.fans.get f).capped)

/-- The fan-loss cap is in force (R55). -/
def fanLossCapped (s : State) : Bool := failedCount s.afc.fans == 1

/-- The effective limit: the smallest of the limits in force (R50). -/
def effectiveLimit (s : State) : Int :=
  min s.lps.derate (min (if quietCapped s then 850 else 1000) (if fanLossCapped s then 600 else 1000))

/-- LIGHT_LEVEL in LIT: the smaller of the request and the limit (R51). -/
def levelFor (request : Option Int) (limit : Int) : Int := min (request.getD 0) limit

/-- The effective limit leaves or returns to 1000 (R56). -/
def crossesFull (before after : Int) : Bool := (before == 1000) != (after == 1000)

/-- Recompute the effective limit and LIGHT_LEVEL in LIT, raising LIGHT at a crossing of 1000 (R50,
R51, R56). -/
def recomputeLight (s : State) : State :=
  if s.lps.power = .lit then
    let limit := effectiveLimit s
    let t := s.withLps { s.lps with effLimit := limit, lightLevel := levelFor s.lps.request limit }
    if crossesFull s.lps.effLimit limit then raiseBoth .light t else t
  else s

/-! ## Power states -/

/-- CUT_OK is asserted in COOLED and OFF (R45). -/
def cutAllowed (p : Power) : Bool := p == .cooled || p == .off

/-- The proving deadline, in ms from STARTING entry (R37). -/
def provingTime : Nat := 8000

/-- The record in a new power state. CUT_OK follows the state (R45); the deadline runs only in
STARTING and the fans-proven mark is cleared at its entry (R37, R38); outside LIT the light is off,
the request none and both limits 1000 (R51). -/
def Lps.entering (x : Lps) (p : Power) : Lps :=
  let y := { x with power := p, cutOk := cutAllowed p,
                    deadline := if p = .starting then some provingTime else none,
                    proven := if p = .starting then false else x.proven }
  if p = .lit then y
  else { y with lightEn := false, lightLevel := 0, request := none, derate := 1000,
                effLimit := 1000 }

/-- Enter a power state, raising STATE (R58). -/
def enterPower (p : Power) (s : State) : State := raiseBoth .state (s.withLps (s.lps.entering p))

/-- Enter STARTING, which kicks every fan (R29, R37). -/
def enterStarting (s : State) : State := kickFans (enterPower .starting s)

/-- The cooling timer starts from 0 (R43). -/
def startCooling (s : State) : State := s.withLps { s.lps with cooling := some 0 }

/-- The cooling timer stops at 0 (R39, R46). -/
def stopCooling (s : State) : State := s.withLps { s.lps with cooling := none }

/-- Enter LIT with a request (R40, R51): the derate limit from 1000, the effective limit, the level
and LIGHT_EN; then the grant occasion of R91. -/
def enterLit (level : Int) (s : State) : State :=
  let s1 := enterPower .lit s
  let s2 := s1.withLps { s1.lps with request := some level, lightEn := true, derate := 1000,
                                     effLimit := 1000 }
  grantOccasion none (recomputeLight (updateDerate s2))

/-! ## Trips (section 3.5) -/

/-- Trip conditions are tested in this state (R47). -/
def tripTested (p : Power) : Bool :=
  match p with
  | .starting | .ready | .lit | .cooling | .cooled => true
  | .off | .tripped => false

/-- A thermistor channel at or above its trip temperature, with the temperature (R47). -/
def overTemp (s : State) (c : Channel) : Option Int :=
  match normalTemp s c with
  | none => none
  | some t => if tripTemp s c ≤ t then some t else none

/-- The trip condition of a sweep end, the first in the order of R47. -/
def sweepTrip (s : State) : Option TripCause :=
  if faultCondition (shownOf s .lsh).condition then some ⟨.sensorFault, .channel .lsh, none⟩
  else
    match thermistors.find? (fun c => (overTemp s c).isSome) with
    | none => none
    | some c => some ⟨.tempLimit, .channel c, overTemp s c⟩

/-- The set of fans that satisfy a test. -/
def fanSet (s : State) (test : FanState → Bool) : PerFan Bool :=
  s.afc.fans.map (fun r => test r.state)

/-- The set of FAILED fans (R48). -/
def failedFans (s : State) : PerFan Bool := fanSet s (· == .failed)

/-- The fan trip condition of a gate end (R47). -/
def gateTrip (s : State) : Option TripCause :=
  if s.afc.fans.f2.state = .failed then some ⟨.blowerFailed, .fans (failedFans s), none⟩
  else if 2 ≤ failedCount s.afc.fans then some ⟨.fansFailed, .fans (failedFans s), none⟩
  else none

/-- The power state that a trip leads to (R48). -/
def trippedState : Power → Power
  | .starting | .ready | .lit => .tripped
  | .cooling | .cooled => .cooling
  | .off => .off
  | .tripped => .tripped

/-- Take a trip (R48): latch, cause, TRIP, the power state, and every fan at 1000 (R27). -/
def takeTrip (c : TripCause) (s : State) : State :=
  let s1 := raiseBoth .trip (s.withLps { s.lps with latch := true, lastTrip := some c })
  let p := trippedState s1.lps.power
  driveFans (if p = s1.lps.power then s1 else enterPower p s1)

/-- A trip is taken when a condition holds while the latch is clear (section 3.5, R47). -/
def tripIf (c : Option TripCause) (s : State) : State :=
  match c with
  | none => s
  | some x => if s.lps.latch = false ∧ tripTested s.lps.power then takeTrip x s else s

/-! ## The events of LPS -/

/-- The cooling completion check passes (R44). -/
def coolingDone (s : State) : Bool :=
  match s.lps.cooling with
  | none => false
  | some ms =>
    (match normalTemp s .lsh with
     | none => false
     | some t => decide (t ≤ coolDone s) && decide (minCooling s ≤ (ms : Int))) ||
      decide (maxCooling s ≤ (ms : Int))

/-- Enter COOLED (R44). -/
def enterCooled (s : State) : State :=
  let t := enterPower .cooled s
  t.withLps { t.lps with unplanned := false }

/-- What LPS does at a sweep end: trip conditions, the cooling completion check, the derate update
and the limits (R44, R47, R50, R53). A trip that returned LPS from COOLED to COOLING at this sweep
end skips the check. -/
def lightSweep (s : State) : State :=
  let t := tripIf (sweepTrip s) s
  match t.lps.power with
  | .cooling => if s.lps.power = .cooling ∧ coolingDone t then enterCooled t else t
  | .lit => recomputeLight (updateDerate t)
  | _ => t

/-- Every fan is RUNNING (R38). -/
def allRunning (s : State) : Bool := allFans.all (fun f => (s.afc.fans.get f).state == .running)

/-- Enter READY from STARTING with the fans proven (R38). -/
def enterProven (s : State) : State :=
  let t := enterPower .ready s
  t.withLps { t.lps with proven := true }

/-- What LPS does after a gate end: fan trips, READY, the limits (R38, R47, R50). -/
def lightGate (s : State) : State :=
  let t := tripIf (gateTrip s) s
  match t.lps.power with
  | .starting => if allRunning t then enterProven t else t
  | .lit => recomputeLight t
  | _ => t

/-- The proving deadline expires (R38). A stopped deadline does not. -/
def provingExpiry (s : State) : State :=
  if s.lps.power = .starting then
    tripIf (some ⟨.proveTimeout, .fans (fanSet s (· != .running)), none⟩) s
  else s

/-- LPS at a main-rail loss (R39). -/
def lightLoss (s : State) : State :=
  let t := enterPower .off s
  t.withLps { t.lps with
    unplanned := s.lps.unplanned || s.lps.power != .cooled, latch := false, proven := false,
    cooling := none }

/-- The light goes off and LPS enters READY from LIT (R41, R42, R51). -/
def lightOffNow (s : State) : State := if s.lps.power = .lit then enterPower .ready s else s

/-- A debounced change of the cover (R42). A level that is the cover state already is no change
(log 4). -/
def coverTo (c : Cover) (s : State) : State :=
  if s.lps.cover = c then s
  else
    let t := raiseBoth .state (s.withLps { s.lps with cover := c })
    if c = .opened then lightOffNow t else t

/-- POWER_DOWN (R43). -/
def powerDownNow (s : State) : State :=
  match s.lps.power with
  | .starting | .ready | .lit | .tripped => startCooling (enterPower .cooling s)
  | .cooling | .cooled | .off => s

/-- POWER_UP (R46). -/
def powerUpNow (s : State) : State × Answer :=
  match s.lps.power with
  | .off => (s, refuse .noPower)
  | .starting | .ready | .lit | .tripped => (s, answerOk [])
  | .cooling | .cooled =>
    (if s.lps.latch then stopCooling (enterPower .tripped s)
     else if s.lps.proven then stopCooling (enterPower .ready s)
     else stopCooling (enterStarting s), answerOk [])

/-- The clearing test (R49). -/
def clearingTest (s : State) : Bool :=
  (normalTemp s .lsh).isSome &&
    thermistors.all (fun c =>
      match normalTemp s c with
      | none => true
      | some t => decide (t ≤ resetTemp s c))

/-- CLEAR_TRIP (R49). -/
def clearTripNow (s : State) : State × Answer :=
  if s.lps.power = .tripped then
    if clearingTest s then (enterStarting (s.withLps { s.lps with latch := false }), answerOk [])
    else (s, refuse .tooHot)
  else (s, answerOk [])

/-- The level of a LIGHT_ON (R40). -/
def requestLevel (level : Nat) : Int := clamp 100 1000 level

/-- LIGHT_ON (R40). -/
def lightOnNow (level : Nat) (s : State) : State × Answer :=
  match s.lps.power with
  | .ready =>
    if s.lps.cover = .closed then (enterLit (requestLevel level) s, answerOk [])
    else (s, refuse .coverOpen)
  | .lit =>
    let x := some (requestLevel level)
    (s.withLps { s.lps with request := x, lightLevel := levelFor x s.lps.effLimit }, answerOk [])
  | .starting | .cooling | .cooled => (s, refuse .notReady)
  | .off => (s, refuse .noPower)
  | .tripped => (s, refuse .tripped)

end Sys2Proof.Machine
end

