-- ==== Sys2Proof/Machine/Presets.lean ====
section
/-! DEFINITION. The Preset Table (sections 5.8 to 5.10): SAVE, ERASE, READ and RECALL. -/

namespace Sys2Proof.Machine

/-- Replace a slot and mark its item dirty (R98, R99). -/
def changeSlot (n : Fin 10) (x : Option Preset) (s : State) : State :=
  markDirty (.preset n) (s.withPtb ⟨s.ptb.slots.set n x⟩)

/-! ## SAVE (R98) -/

/-- Some axis of a set satisfies a test. -/
def anyAxis (axes : PerAxis Bool) (test : Axis → Bool) : Bool :=
  allAxes.any (fun a => axes.get a && test a)

/-- The axis is running, YIELDED or has a pending record (R98). -/
def axisBusy (s : State) (a : Axis) : Bool :=
  running s a || yielded s a || (s.msc.pending.get a).isSome

/-- The checks of R98 after the encoding: the first refusal that applies. -/
def saveRefusal (s : State) (x : SaveOperands) : Option Result :=
  if anyAxis x.axes (axisBusy s) then some .busy
  else if anyAxis x.axes (fun a => (s.axis a).state == .lost) then some .axisLost
  else if x.axes.fc && (normalTemp s .lns).isNone then some .notReady
  else none

/-- The record of a SAVE at its acceptance (R98). -/
def savedPreset (s : State) (x : SaveOperands) : Preset :=
  let at_ := fun a => if x.axes.get a then shownPosition s a else none
  { label := x.label, positions := ⟨at_ .hs, at_ .vs, at_ .zm, at_ .fc⟩,
    anchor := if x.axes.fc then normalTemp s .lns else none,
    correction := if x.axes.fc then some s.fdt.correction else none,
    trims := if x.trims then some ⟨s.geo.settings.trims, s.geo.settings.keystone⟩ else none }

/-- PRESET_SAVE (R98). -/
def savePreset (x : SaveOperands) (s : State) : State × Answer :=
  match saveRefusal s x with
  | some r => (s, refuse r)
  | none => (changeSlot x.slot (some (savedPreset s x)) s, answerOk [])

/-- PRESET_ERASE (R99). -/
def erasePreset (n : Fin 10) (s : State) : State × Answer :=
  match s.ptb.slots.get n with
  | none => (s, answerOk [])
  | some _ => (changeSlot n none s, answerOk [])

/-! ## RECALL (R100 to R102) -/

/-- The axes present in a preset. -/
def presentAxes (x : Preset) : PerAxis Bool := x.positions.map Option.isSome

/-- The checks of R100 after the encoding: the first refusal that applies. -/
def recallRefusal (s : State) (n : Fin 10) : Option Result :=
  if s.lps.power = .off then some .noPower
  else
    match s.ptb.slots.get n with
    | none => some .slotEmpty
    | some x =>
      if anyAxis (presentAxes x) (fun a => !positionKnown s a) then some .axisLost else none

/-- The zoom position of the compensation: the stored one, else ZM's own if it is known (R101). -/
def recallZoom (s : State) (x : Preset) : Option Int :=
  match x.positions.zm with
  | some z => some z
  | none => shownPosition s .zm

/-- The focus compensation of a recall (R101). -/
def compensationOf (s : State) (x : Preset) : Int :=
  match normalTemp s .lns, recallZoom s x, x.anchor with
  | some now, some z, some saved => correctionFor (driftCoefficient s z) (now - saved)
  | _, _, _ => 0

/-- A trims group is applied (R102): a build in every case, and the geometry item dirty. -/
def applyTrimsGroup (g : TrimsGroup) (s : State) : State :=
  changeSettings { s.geo.settings with trims := g.trims, keystone := g.keystone } s

/-- The request of a recall for one axis (R100). -/
def memberRequest (x : Preset) (comp : Int) (tag : Byte) (p : Port) (a : Axis) (position : Int) :
    NewRequest :=
  { axis := a, kind := .absolute (if a = .fc then position + comp else position), mode := .shared,
    follow := if a = .fc ∧ x.positions.zm.isSome then some .zm else none, tag := tag,
    source := .recall, port := some p, member := true,
    comp := if a = .fc then x.anchor.map (fun saved => ⟨comp, saved⟩) else none }

/-- Place the member of one axis, if the preset has it (R100). -/
def placeMember (x : Preset) (comp : Int) (tag : Byte) (p : Port) (a : Axis) (s : State) : State :=
  match x.positions.get a with
  | none => s
  | some position => place (memberRequest x comp tag p a position) s

/-- The pending record of an axis is a member of the group. -/
def pendingMember (s : State) (a : Axis) : Bool :=
  match s.msc.pending.get a with
  | none => false
  | some q => q.book.member

/-- The group in progress makes way for a new recall: it ends SUPERSEDED, and its members still
pending leave the list and end SUPERSEDED (R96, log 34). -/
def supersedeGroup (s : State) : State :=
  if groupInProgress s then
    let old := fun a => pendingMember s a
    forAxes ⟨old .hs, old .vs, old .zm, old .fc⟩ supersedePending (endGroup .superseded s)
  else s

/-- A new group of the present axes, WAITING (R96, R100). -/
def formGroup (n : Fin 10) (tag : Byte) (p : Port) (x : Preset) (s : State) : State :=
  let member := x.positions.map (fun y => y.map (fun _ => Progress.waiting))
  s.withMsc { s.msc with group := some ⟨n, tag, p, member, .inProgress⟩ }

/-- An accepted recall (R100): the old group, the new one, the trims, the members in axis order, the
grant occasion; a group without members ends DONE. -/
def acceptRecall (n : Fin 10) (tag : Byte) (p : Port) (x : Preset) (s : State) : State :=
  let comp := compensationOf s x
  let s1 := formGroup n tag p x (supersedeGroup s)
  let s2 := match x.trims with
    | none => s1
    | some g => applyTrimsGroup g s1
  let s3 := forAxes (presentAxes x) (placeMember x comp tag p) s2
  grantOccasion none (settleGroup s3)

/-- PRESET_RECALL (R100). -/
def recallPreset (p : Port) (n : Fin 10) (tag : Byte) (s : State) : State × Answer :=
  match recallRefusal s n, s.ptb.slots.get n with
  | some r, _ => (s, refuse r)
  | none, some x => (acceptRecall n tag p x s, answerOk [])
  | none, none => (s, refuse .slotEmpty)

end Sys2Proof.Machine
end

