-- ==== Sys2Proof/Machine/ProfileMem.lean ====
section
/-! DEFINITION. The Profile Memory (section 10.3): the layout and widths of the parameters, the steps
of PROFILE_WRITE with what an accepted write changes at once, and PROFILE_READ. -/

namespace Sys2Proof.Machine

/-! ## Layout (R169) -/

/-- The width in bytes of each parameter of a section, in order (R159, R169): two bytes, but four for
the minimum and maximum cooling time and one for the grant policy. -/
def sectionWidths : ProfileSection → List Nat
  | .sensor => List.replicate 139 2
  | .fan => List.replicate 48 2
  | .light => List.replicate 21 2 ++ [4, 4]
  | .axis => List.replicate 20 2 ++ [1]
  | .optics => List.replicate 25 2

/-- The values of a section. -/
def Profile.section_ (x : Profile) : ProfileSection → List Int
  | .sensor => x.sensor
  | .fan => x.fan
  | .light => x.light
  | .axis => x.axis
  | .optics => x.optics

/-- Replace the values of a section. -/
def Profile.setSection (x : Profile) (k : ProfileSection) (v : List Int) : Profile :=
  match k with
  | .sensor => { x with sensor := v }
  | .fan => { x with fan := v }
  | .light => { x with light := v }
  | .axis => { x with axis := v }
  | .optics => { x with optics := v }

/-- The bytes of one parameter. -/
def paramBytes (width : Nat) (v : Int) : List Byte :=
  if width = 4 then bytes4 v else if width = 1 then [BitVec.ofInt 8 v] else bytes2 v

/-- The bytes of a section (R169). -/
def sectionBytes (x : Profile) (k : ProfileSection) : List Byte :=
  (List.zipWith paramBytes (sectionWidths k) (x.section_ k)).flatten

/-- The value that bytes spell: two are signed, one or four unsigned (R159). -/
def paramValue (bytes : List Byte) : Int :=
  match bytes with
  | [a] => a.toNat
  | [a, b] => signed2 a b
  | [a, b, c, d] => (a ++ b ++ c ++ d).toNat
  | _ => 0

/-- The first parameter of a write: the index of the parameter that begins at `offset`, if one does
(R170). -/
def paramAt : List Nat → Nat → Option Nat
  | [], _ => none
  | w :: rest, offset =>
    if offset = 0 then some 0
    else if offset < w then none
    else (paramAt rest (offset - w)).map (· + 1)

/-- The values that the data spells on whole parameters of these widths; none when it does not end on
one or runs beyond the section (R170). -/
def readParams : Nat → List Nat → List Byte → Option (List Int)
  | _, _, [] => some []
  | 0, _, _ => none
  | _, [], _ => none
  | n + 1, w :: ws, data =>
    if data.length < w then none
    else (readParams n ws (data.drop w)).map (fun rest => paramValue (data.take w) :: rest)

/-- The first index and the values of a write, if it lies on whole parameters (step 1 of R170). -/
def writeTarget (k : ProfileSection) (offset : Nat) (data : List Byte) :
    Option (Nat × List Int) :=
  match paramAt (sectionWidths k) offset with
  | none => none
  | some i =>
    (readParams data.length ((sectionWidths k).drop i) data).map (fun v => (i, v))

/-! ## Clamping (step 3 of R170) -/

/-- The nearest of three values, the larger of two equally near. -/
def nearest3 (a b c v : Int) : Int :=
  if (v - c).natAbs ≤ (v - b).natAbs ∧ (v - c).natAbs ≤ (v - a).natAbs then c
  else if (v - b).natAbs ≤ (v - a).natAbs then b
  else a

/-- A scalar of SENSOR in its range. -/
def clampSensor (i : Nat) (v : Int) : Int :=
  if i < 136 then clamp (-1000) 3000 v
  else if i < 138 then clamp 0 4095 v
  else nearest3 10 40 160 v

/-- A scalar of FAN in its range: heat pairs, then curve points (index, rpm), gain, reject width. -/
def clampFan (i : Nat) (v : Int) : Int :=
  if i < 16 then clamp (-200) 1500 v
  else if i < 46 then (if i % 2 = 0 then clamp 0 1000 v else clamp 0 6000 v)
  else if i = 46 then clamp 1 1023 v
  else nearest3 1 5 20 v

/-- A scalar of LIGHT in its range. -/
def clampLight (i : Nat) (v : Int) : Int :=
  if i < 18 then clamp (-200) 1500 v
  else if i = 18 then clamp 100 1000 v
  else if i = 19 then clamp 0 200 v
  else if i = 20 then clamp (-200) 1500 v
  else if i = 21 then clamp 10000 120000 v
  else clamp 120000 600000 v

/-- A scalar of AXIS in its range; `top` is the axis's maximum as it will stand (for a centre). The
grant policy is not clamped. -/
def clampAxis (top : Int) (i : Nat) (v : Int) : Int :=
  if i = 20 then v
  else if i % 5 = 0 then clamp 1000 32000 v
  else if i % 5 = 1 then clamp 0 top v
  else if i % 5 = 2 then clamp 0 200 v
  else clamp 100 2000 v

/-- A scalar of OPTICS in its range. -/
def clampOptics (i : Nat) (v : Int) : Int :=
  if i < 18 then (if i % 2 = 0 then clamp 0 32000 v else clamp 1000 9000 v)
  else if i = 18 then clamp 0 200 v
  else if i = 19 then clamp 1 1024 v
  else clamp (-200) 200 v

/-- Values laid over a section from index `i` on. -/
def overlay (old : List Int) (i : Nat) (new : List Int) : List Int :=
  old.take i ++ new ++ old.drop (i + new.length)

/-- Apply a function to each value with its index. -/
def mapIndexed (f : Nat → Int → Int) (start : Nat) (l : List Int) : List Int :=
  l.mapIdx (fun j v => f (start + j) v)

/-- Every written scalar in its range. A centre is clamped after the maxima, against the maximum as it
will stand (R170). -/
def clampWrite (old : List Int) (k : ProfileSection) (i : Nat) (v : List Int) : List Int :=
  match k with
  | .sensor => mapIndexed clampSensor i v
  | .fan => mapIndexed clampFan i v
  | .light => mapIndexed clampLight i v
  | .axis =>
    let tops := overlay old i (mapIndexed (clampAxis 32000) i v)
    mapIndexed (fun j x => clampAxis (param tops (j - j % 5)) j x) i v
  | .optics => mapIndexed clampOptics i v

/-! ## Conditions (step 4 of R170) -/

/-- The write covers some parameter of `lo ≤ index < hi`. -/
def touches (i count lo hi : Nat) : Bool := decide (i < hi) && decide (lo < i + count)

/-- Strictly decreasing. -/
def decreasing : List Int → Bool
  | a :: b :: rest => decide (b < a) && decreasing (b :: rest)
  | _ => true

/-- Strictly increasing. -/
def increasing : List Int → Bool
  | a :: b :: rest => decide (a < b) && increasing (b :: rest)
  | _ => true

/-- The first of each pair. -/
def firsts (l : List Int) : List Int := (pairs l).map Prod.fst

/-- Condition on thermistor table `n` (R169). -/
def thermOk (v : List Int) (n : Nat) : Bool := decreasing ((v.drop (17 * n)).take 17)

/-- Condition on heat pair `n`: hi > lo (R169). -/
def heatOk (v : List Int) (n : Nat) : Bool := decide (param v (2 * n) < param v (2 * n + 1))

/-- Condition on curve `n`: indices 0, …, 1000 strictly increasing (R169). -/
def curveOk (v : List Int) (n : Nat) : Bool :=
  let x := firsts ((v.drop (16 + 10 * n)).take 10)
  increasing x && x.head? == some 0 && x.getLast? == some 1000

/-- Condition on trip pair `n`: reset < trip (R169). -/
def tripOk (v : List Int) (n : Nat) : Bool := decide (param v (2 * n + 1) < param v (2 * n))

/-- Condition on Ts and Te (R169). -/
def derateOk (v : List Int) : Bool := decide (param v 16 < param v 17)

/-- Condition on the grant policy (R169). -/
def policyOk (v : List Int) : Bool := param v 20 == 0 || param v 20 == 1

/-- Condition on the zoom table: positions strictly increasing from 0 (R169). -/
def zoomOk (v : List Int) : Bool :=
  increasing (firsts (v.take 18)) && (firsts (v.take 18)).head? == some 0

/-- Every condition that a write of `count` parameters from `i` on touches holds of the section as it
would stand (step 4 of R170). -/
def conditionsHold (k : ProfileSection) (v : List Int) (i count : Nat) : Bool :=
  let each := fun (n base size : Nat) (ok : Nat → Bool) =>
    (List.range n).all (fun m =>
      !touches i count (base + size * m) (base + size * m + size) || ok m)
  match k with
  | .sensor => each 8 0 17 (thermOk v)
  | .fan => each 8 0 2 (heatOk v) && each 3 16 10 (curveOk v)
  | .light => each 8 0 2 (tripOk v) && (!touches i count 16 18 || derateOk v)
  | .axis => !touches i count 20 21 || policyOk v
  | .optics => !touches i count 0 18 || zoomOk v

/-! ## Effects of an accepted write (R18, R35, R57, R82, R92, R114, R134) -/

/-- The write covers a parameter of this axis. -/
def coversAxis (i count : Nat) (a : Axis) : Bool :=
  touches i count (5 * axisNumber a) (5 * axisNumber a + 5)

/-- A covered axis is running or YIELDED (step 2 of R170, R82). -/
def writeBusy (s : State) (k : ProfileSection) (i count : Nat) : Bool :=
  k == .axis && allAxes.any (fun a => coversAxis i count a && (running s a || yielded s a))

/-- The maximum in force after a change of the profile maximum (R60). -/
def newMaxInForce (r : AxisRecord) (maximum : Int) : Int :=
  match r.position with
  | none => maximum
  | some p => max maximum p

/-- The maximum in force of an axis whose maximum the write changed (R60, R82). -/
def refreshMaximum (before : State) (a : Axis) (s : State) : State :=
  if axisMaximum before a = axisMaximum s a then s
  else s.setAxis a { s.axis a with maxInForce := newMaxInForce (s.axis a) (axisMaximum s a) }

/-- The maxima in force after a write (R60, R82). -/
def refreshMaxima (before : State) (s : State) : State :=
  allAxes.foldl (fun t a => refreshMaximum before a t) s

/-- A write that changes Ts, Te, Lf or H acts at once in LIT (R57). -/
def refreshDerate (before s : State) : State :=
  if s.lps.power = .lit ∧
      (before.prf.light.drop 16).take 4 ≠ (s.prf.light.drop 16).take 4 then
    recomputeLight (updateDerate s)
  else s

/-- A write to OPTICS or to VS's centre requests a build (R122). -/
def writeBuilds (k : ProfileSection) (i count : Nat) : Bool :=
  k == .optics || (k == .axis && touches i count 6 7)

/-- An accepted write takes effect. -/
def applyWrite (k : ProfileSection) (i count : Nat) (v : List Int) (s : State) : State :=
  let t := refreshDerate s (refreshMaxima s (s.withPrf (s.prf.setSection k v)))
  if writeBuilds k i count then requestBuild t else t

/-- PROFILE_WRITE (R170). -/
def writeProfile (k : ProfileSection) (offset : Nat) (data : List Byte) (s : State) :
    State × Answer :=
  match writeTarget k offset data with
  | none => (s, refuse .badValue)
  | some (i, raw) =>
    if writeBusy s k i raw.length then (s, refuse .busy)
    else
      let old := s.prf.section_ k
      let v := overlay old i (clampWrite old k i raw)
      if conditionsHold k v i raw.length then (applyWrite k i raw.length v s, answerOk [])
      else (s, refuse .badValue)

/-- PROFILE_READ (R170). -/
def readProfile (k : ProfileSection) (offset count : Nat) (s : State) : State × Answer :=
  let bytes := sectionBytes s.prf k
  if bytes.length < offset + count then (s, refuse .badValue)
  else (s, answerOk ((bytes.drop offset).take count))

end Sys2Proof.Machine
end

