-- ==== Sys2Proof/Machine/Drift.lean ====
section
/-! DEFINITION. The evaluation of the Focus Drift Tracker at a sweep end (section 6.4), the issue of
a drift request (section 6.5), and the tracker at a main-rail loss. -/

namespace Sys2Proof.Machine

/-- The drift request of R111. -/
def driftRequest (delta : Int) : NewRequest :=
  { axis := .fc, kind := .relative delta, mode := .held, follow := none, tag := 0, source := .drift,
    port := none, member := false, comp := none }

/-- Set the tracker state. -/
def setTracker (x : TrackerState) (s : State) : State := s.withFdt { s.fdt with state := x }

/-- The desired correction of R110, from the zoom position, the presented temperature and the
anchor. -/
def desiredCorrection (s : State) (z lns anchor : Int) : Int :=
  correctionFor (driftCoefficient s z) (lns - anchor)

/-- A correction by `delta` cannot move FC from `p`: the clamped target is `p` or lies on the far
side (R110). -/
def driftBlocked (maximum p delta : Int) : Bool :=
  let q := clamp 0 maximum (p + delta)
  q == p || (decide (0 < delta) && decide (q < p)) || (decide (delta < 0) && decide (p < q))

/-- Issue a drift request: the delta is outstanding, the request is placed (R110, R111). -/
def issueDrift (delta : Int) (s : State) : State :=
  place (driftRequest delta)
    (s.withFdt { s.fdt with outstanding := some delta, state := .correcting })

/-- The computation of R110. -/
def computeDrift (z p lns anchor : Int) (s : State) : State :=
  let delta := desiredCorrection s z lns anchor - s.fdt.correction
  if delta.natAbs < 2 then setTracker .watching s
  else if driftBlocked (axisMaximum s .fc) p delta then setTracker .watching s
  else issueDrift delta s

/-- The evaluation at a sweep end: the first row of R109 that applies. -/
def evaluateDrift (s : State) : State :=
  if trackingPossible s = false then setTracker .suspended s
  else if s.fdt.outstanding.isSome then setTracker .correcting s
  else if focusFree s = false then setTracker .suspended s
  else
    match (s.axis .zm).position, (s.axis .fc).position, normalTemp s .lns, s.fdt.anchor with
    | some z, some p, some lns, some anchor => computeDrift z p lns anchor s
    | _, _, _, _ => setTracker .suspended s

end Sys2Proof.Machine
end

