-- ==== Sys2Proof/Machine/Sensing.lean ====
section
/-! DEFINITION. The Scan Unit (chapter 1): a completed conversion, faults, the attitude window, and
the sweep end with the blocks that act at it. -/

namespace Sys2Proof.Machine

/-! ## One conversion (R7 to R11) -/

/-- A short code (R7). -/
def shortCode (code : Int) : Bool := decide (code < 16)

/-- An open code (R7). -/
def openCode (code : Int) : Bool := decide (4079 < code)

/-- An in-range code (R7). -/
def inRange (code : Int) : Bool := !shortCode code && !openCode code

/-- The temperature of an in-range code by a table (R8). -/
def convertTemp (table : List Int) (code : Int) : Int :=
  let i := code / 256
  let t0 := table.getD i.toNat 0
  let t1 := table.getD (i.toNat + 1) 0
  clamp (-200) 1500 (divHalfAway (t0 * 256 + (t1 - t0) * (code - 256 * i)) 256)

/-- The median of three. -/
def median3 (a b c : Int) : Int := max (min a b) (min (max a b) c)

/-- The filtered temperature of a history, newest first (R9). -/
def filtered : List Int → Option Int
  | [] => none
  | [a] => some a
  | [a, _] => some a
  | a :: b :: c :: _ => some (median3 a b c)

/-- A sample enters the history (R9). -/
def pushSample (t : Int) (history : List Int) : List Int := (t :: history).take 3

/-- The fault condition of an out-of-range code (R10, R11). -/
def faultOf (code : Int) : Condition := if shortCode code then .short else .opened

/-- The record with a converted temperature in its history, if the channel has one (R9). -/
def ChannelRecord.sampled (r : ChannelRecord) (temp : Option Int) : ChannelRecord :=
  match temp with
  | none => r
  | some t => { r with history := pushSample t r.history }

/-- A conversion while WAITING or NORMAL (R10). -/
def ChannelRecord.converted (r : ChannelRecord) (code : Int) (temp : Option Int) : ChannelRecord :=
  if inRange code then
    let x := r.sampled temp
    { x with condition := .normal, outRun := 0, temp := filtered x.history }
  else if 3 ≤ r.outRun + 1 then
    { r with outRun := 3, inRun := 0, condition := faultOf code, causeDue := true }
  else { r with outRun := r.outRun + 1 }

/-- A conversion while SHORT or OPEN (R11). -/
def ChannelRecord.convertedFaulted (r : ChannelRecord) (code : Int) (temp : Option Int) :
    ChannelRecord :=
  if inRange code then
    let x := r.sampled temp
    if 3 ≤ r.inRun + 1 then
      { x with condition := .normal, outRun := 0, inRun := 0, temp := filtered x.history,
               causeDue := true }
    else { x with inRun := r.inRun + 1 }
  else { r with inRun := 0, condition := faultOf code }

/-- A completed conversion on a record (R7, R10, R11). `temp` is the converted temperature of a
thermistor channel, none for channels 8 and 9. An UNPOWERED channel is not converted. -/
def ChannelRecord.convert (r : ChannelRecord) (code : Int) (temp : Option Int) : ChannelRecord :=
  let x := { r with raw := some code }
  match r.condition with
  | .unpowered => r
  | .waiting => x.converted code temp
  | .normal => x.converted code temp
  | .short => x.convertedFaulted code temp
  | .opened => x.convertedFaulted code temp

/-- The converted temperature of a code on a channel: none for channels 8 and 9 (R7, R8). -/
def tempOf (s : State) (c : Channel) (code : Int) : Option Int :=
  if c = .acy ∨ c = .acz then none
  else some (convertTemp (thermTable s (channelNumber c)) code)

/-- A completed conversion applied to its channel record (R2, R7). -/
def applyConversion (c : Channel) (code : Int) (s : State) : State :=
  s.setChannel c ((s.channel c).convert code (tempOf s c code))

/-! ## The attitude window (section 1.6) -/

/-- The sweep is still (R13): no motion since the previous sweep end and none now. -/
def still (s : State) : Bool := !s.scn.motion && !allAxes.any (fun a => inMotion s a)

/-- The in-range pair of this sweep's codes, if both are (R13). -/
def sweepPair (s : State) : Option (Int × Int) :=
  match s.scn.channels.acy.raw, s.scn.channels.acz.raw with
  | some y, some z => if inRange y && inRange z then some (y, z) else none
  | _, _ => none

/-- The pair that joins the window at this sweep end, if one does (R13). -/
def joiningPair (s : State) : Option (Int × Int) :=
  if still s && !faultCondition s.scn.channels.acy.condition &&
      !faultCondition s.scn.channels.acz.condition then sweepPair s
  else none

/-- The sum of one side of a window. -/
def sumOf (side : Int × Int → Int) (w : List (Int × Int)) : Int := (w.map side).sum

/-- A window with its sums (R13). -/
def Scn.withWindow (x : Scn) (w : List (Int × Int)) : Scn :=
  { x with window := w, ysum := sumOf Prod.fst w, zsum := sumOf Prod.snd w }

/-- A pair joins at the new end, and the oldest of sixteen leaves (R13). -/
def pushPair (w : List (Int × Int)) (p : Int × Int) : List (Int × Int) :=
  (if w.length < 16 then w else w.drop 1) ++ [p]

/-- D of R14. -/
def verticalSum (s : State) : Int := s.scn.zsum - 16 * offsetZ s

/-- The new pitch tangent of a usable reading (R14). -/
def pitchTangent (ysum yoff d : Int) : Int :=
  clamp (-5774) 5774 (divHalfAway (10000 * (16 * yoff - ysum)) d.natAbs)

/-- The detected orientation after a sweep end (R15). -/
def detectedAfter (d : Int) (now : Orientation) : Orientation :=
  if 6400 ≤ d then .floor else if d ≤ -6400 then .ceiling else now

/-- T and the detected orientation from a full window that a pair has just joined (R14, R15). -/
def recomputeAttitude (s : State) : State :=
  let d := verticalSum s
  let t := if 6400 ≤ d.natAbs then pitchTangent s.scn.ysum (offsetY s) d else s.scn.tangent
  s.withScn { s.scn with tangent := t, detected := detectedAfter d s.scn.detected }

/-- The pair of a sweep joins, and T and the orientation follow when the window is full (R13 to
R15). -/
def joinPair (s : State) : State :=
  match joiningPair s with
  | none => s
  | some p =>
    let t := s.withScn (s.scn.withWindow (pushPair s.scn.window p))
    if 16 ≤ t.scn.window.length then recomputeAttitude t else t

/-- The motion mark is read and cleared, and set again while an axis moves (R13). -/
def rearmMotion (s : State) : State :=
  s.withScn { s.scn with motion := allAxes.any (fun a => inMotion s a) }

/-! ## The sweep end (R2, R3) -/

/-- The record with its values presented and its cause given (R2). -/
def ChannelRecord.presented (r : ChannelRecord) : ChannelRecord :=
  { r with shown := ⟨r.raw, r.condition, r.temp⟩, causeDue := false }

/-- Present every channel, and raise SENSOR if a conversion since the last sweep end made it due
(R2, R10, R11). -/
def presentAll (s : State) : State :=
  let due := allChannels.any (fun c => (s.channel c).causeDue)
  let t := s.withScn { s.scn with channels := s.scn.channels.map ChannelRecord.presented }
  if due then raiseBoth .sensor t else t

/-- GEO at a sweep end: the pitch trigger and a change of the effective orientation, in either order
(R122, log 2). -/
def geoSweep (before : Orientation) (s : State) : State :=
  let pitch := fun t => if pitchTriggers t then requestBuild t else t
  let turn := fun t => if effectiveOrientation t ≠ before then requestBuild t else t
  eitherOrder (fun t => pitch (turn t)) (fun t => turn (pitch t)) s

/-- A drift request has joined the list since `before` (R91, R111). -/
def driftJoined (before s : State) : Bool :=
  s.msc.pending.fc.isSome && before.msc.pending.fc.isNone

/-- LPS and FDT at a sweep end (R2): where LPS leaves LIT, either may be taken first (R109, log 1).
The occasion of a drift request that joined follows both. -/
def powerAndDrift (s : State) : State :=
  let both := eitherOrder (fun t => evaluateDrift (lightSweep t))
    (fun t => lightSweep (evaluateDrift t)) s
  if driftJoined s both then grantOccasion none both else both

/-- A sweep end, with the effective orientation that held before it: the presented values and the
motion mark, then GEO, LPS and FDT (R2, R13). -/
def presentAndAct (before : Orientation) (s : State) : State :=
  powerAndDrift (geoSweep before (presentAll (rearmMotion s)))

/-- The sweep end of a standby BRD conversion (R3). -/
def standbySweepEnd (s : State) : State := presentAndAct (effectiveOrientation s) s

/-- The sweep end of a full sweep, at the completion of ACZ (R2, R13). -/
def fullSweepEnd (s : State) : State := presentAndAct (effectiveOrientation s) (joinPair s)

/-! ## Conversions in progress (R2 to R4) -/

/-- The channel after this one in a sweep (R2). -/
def nextChannel : Channel → Option Channel
  | .lsh => some .phw
  | .phw => some .img
  | .img => some .int
  | .int => some .exh
  | .exh => some .lns
  | .lns => some .psu
  | .psu => some .brd
  | .brd => some .acy
  | .acy => some .acz
  | .acz => none

/-- Set the conversion in progress. -/
def setConversion (x : Conversion) (s : State) : State := s.withScn { s.scn with conversion := x }

/-- The completion of the conversion in progress, if it is on this channel (R2, R3; log 4 for any
other). A standby conversion or a leftover one that completes after the rail has risen is followed
by the first full sweep (R3, log 12). -/
def completeConversion (c : Channel) (code : Int) (s : State) : State :=
  let idleOrSweep := fun (t : State) =>
    setConversion (if mainRailUp t then .sweep .lsh else .idle) t
  match s.scn.conversion with
  | .idle => s
  | .sweep x =>
    if c = x then
      match nextChannel x with
      | some y => setConversion (.sweep y) (applyConversion c code s)
      | none => fullSweepEnd (setConversion .idle (applyConversion c code s))
    else s
  | .standby =>
    if c = .brd then standbySweepEnd (idleOrSweep (applyConversion c code s)) else s
  | .leftover =>
    if c = .brd then idleOrSweep (applyConversion c code s) else s

/-- The start of a sweep while the rail is up (R2). With a conversion in progress none starts
(log 13). -/
def startSweep (s : State) : State :=
  if mainRailUp s ∧ s.scn.conversion = .idle then setConversion (.sweep .lsh) s else s

/-- The start of a standby BRD conversion while the rail is down (R3, log 12). -/
def startStandby (s : State) : State :=
  if mainRailUp s then s
  else
    match s.scn.conversion with
    | .idle | .leftover => setConversion .standby s
    | .sweep _ | .standby => s

/-! ## Rail edges (R4, R5) -/

/-- A main-rail channel in a new condition without code, history, runs or temperature, its presented
values following at once (R4, R5, log 11). -/
def railChannel (c : Condition) (_ : ChannelRecord) : ChannelRecord := blankChannel c

/-- The main-rail channels in a new condition, BRD as it was (R3 to R5). -/
def railChannels (c : Condition) (x : PerChannel ChannelRecord) : PerChannel ChannelRecord :=
  { x.map (railChannel c) with brd := x.brd }

/-- SCN at a main-rail loss (R4): an unfinished sweep is abandoned; a BRD conversion in progress goes
on (log 12). -/
def scanLoss (s : State) : State :=
  let conv := match s.scn.conversion with
    | .sweep .brd => Conversion.leftover
    | .sweep _ => Conversion.idle
    | x => x
  s.withScn { s.scn.withWindow [] with
    channels := railChannels .unpowered s.scn.channels, conversion := conv }

/-- SCN at a main-rail rise (R5): the first sweep starts, after a standby conversion in progress
(R2, R3). -/
def scanRise (s : State) : State :=
  let conv := match s.scn.conversion with
    | .idle => Conversion.sweep .lsh
    | x => x
  s.withScn { s.scn.withWindow [] with
    channels := railChannels .waiting s.scn.channels, conversion := conv }

end Sys2Proof.Machine
end

