-- ==== Sys2Proof/Machine/Reset.lean ====
section
/-! DEFINITION. The part reset, its end, and the main-rail edges across the blocks (section 5.6 of the
introduction; R173, R174). -/

namespace Sys2Proof.Machine

/-- The store at a part reset: a write in flight is cut off, the dirty set is emptied (R172). -/
def storeReset (n : Nvs) : Nvs := { cutOff n with dirty := [], inFlight := none }

/-- A part reset starts, from any of its three sources (R173): work in flight is abandoned and each
block takes its values after part reset; the items are loaded. Only the store is kept. -/
def partReset (s : State) : State :=
  let n := storeReset s.nvs
  { State.reset with
    pending := s.pending, choices := s.choices, nvs := n, ptb := ⟨n.slots.map loadSlot⟩,
    geo := geoReset (loadSettings n.geometry) }

/-- The causes at reset end: PART_RESET on both ports, no mask (R164, R165, R174). -/
def announceReset (s : State) : State :=
  let x := attentionWith (causeBit .partReset) 0
  s.withPif { s.pif with attnM := x, attnS := x }

/-- The debounced level of a home switch is taken from its input (R78). -/
def takeSwitch (a : Axis) (level : Bool) (s : State) : State :=
  s.setAxis a { s.axis a with switch := level }

/-- The cover and the home switches are taken from their inputs (R36, R78). -/
def takeInputs (x : InputLevels) (s : State) : State :=
  allAxes.foldl (fun t a => takeSwitch a (x.homes.get a) t)
    (s.withLps { s.lps with cover := x.cover })

/-- SCN at reset end (R6): a sweep with MAIN_GOOD high (R2), a standby conversion with it low
(R3). -/
def scanStart (mainGood : Bool) (s : State) : State :=
  s.withScn { s.scn with
    channels := railChannels (if mainGood then .waiting else .unpowered) s.scn.channels,
    conversion := if mainGood then .sweep .lsh else .standby }

/-- LPS at reset end (R174): STARTING, or OFF with CUT_OK asserted. -/
def powerStart (mainGood : Bool) (s : State) : State :=
  if mainGood then enterStarting s else s.withLps { s.lps with cutOk := true }

/-- The reset ends (R174). Without a reset nothing ends (log 4). -/
def endReset (x : InputLevels) (s : State) : State :=
  if s.inReset then
    requestBuild (powerStart x.mainGood (scanStart x.mainGood
      (takeInputs x (announceReset (s.withInReset false)))))
  else s

/-- The main rail rises (R5, R37, R81, R122). It rises only from OFF. -/
def railRise (s : State) : State :=
  if mainRailUp s then s else requestBuild (enterStarting (scanRise s))

/-- BKM at a main-rail loss (R149). -/
def bankLoss (s : State) : State := s.withBkm s.bkm.railLoss

/-- The main rail falls (R4, R32, R39, R80, R95, R113, R149). The order of the banks and of the builds
that ends of ZM and VS request is the world's where it matters (log 3). It falls only from another
state than OFF (R39). -/
def railLoss (s : State) : State :=
  if mainRailUp s then
    setTracker .suspended
      (eitherOrder (fun t => lensLoss (bankLoss t)) (fun t => bankLoss (lensLoss t))
        (lightLoss (stopFans (scanLoss s))))
  else s

end Sys2Proof.Machine
end

