-- ==== Sys2Proof/Machine/Answers.lean ====
section
/-! DEFINITION. The records that answers carry (R134, R147, R167, R168, R84, R94, R96, R99, R115), each
field with the width of its kind (R159), in the order in which its rule lists it. -/

namespace Sys2Proof.Machine

/-! ## Groups and small records -/

/-- The last trip cause: kind, subject, temperature (R48, R167). -/
def tripCauseBytes (c : TripCause) : List Byte :=
  byte1 (tripKindPlace c.kind) ++
    (match c.subject with
     | .channel x => channelSetBytes [x]
     | .fans x => fanSetBytes x) ++
    bytes2Opt c.temp

/-- The recall group record: slot, tag, port, member set, progress HS to FC, outcome (R96, R167). -/
def groupBytes (g : Group) : List Byte :=
  byte1 g.slot.val ++ [g.tag] ++ byte1 (portPlace g.port) ++
    axisSetByte (g.members.map Option.isSome) ++
    allAxes.flatMap (fun a => enumOpt progressPlace (g.members.get a)) ++
    byte1 (groupOutcomePlace g.outcome)

/-- One fan of STATUS: state, target, measured speed, duty, capped flag (R167). -/
def fanBytes (r : FanRecord) : List Byte :=
  byte1 (fanStatePlace r.state) ++ bytes2 r.target ++ bytes2 r.measured ++ bytes2 r.duty ++
    byteFlag r.capped

/-- The set of faulted channels (R17). -/
def faultedChannels (s : State) : List Channel :=
  allChannels.filter (fun c => faultCondition (shownOf s c).condition)

/-- A cause set in two bytes (R159). -/
def causeBytes (x : CauseSet) : List Byte := bytes2 x.toNat

/-! ## STATUS (R167) -/

/-- Fields 1 to 4 of STATUS. -/
def statusPower (s : State) : List Byte :=
  byte1 (powerPlace s.lps.power) ++ byteFlag s.lps.latch ++ byteFlag s.lps.unplanned ++
    groupOpt 5 (s.lps.lastTrip.map tripCauseBytes) ++
    bytes2Opt s.lps.request ++ bytes2 s.lps.effLimit ++ bytes2 s.lps.lightLevel ++
    byteFlag (s.lps.cover == .opened) ++ byte1 (acousticPlace s.afc.mode)

/-- Fields 5 and 6 of STATUS. -/
def statusSensing (s : State) : List Byte :=
  allFans.flatMap (fun f => fanBytes (s.afc.fans.get f)) ++
    channelSetBytes (faultedChannels s) ++ byte1 (orientationPlace (effectiveOrientation s)) ++
    byte1 (orientationPlace s.scn.detected) ++ bytes2 s.scn.tangent

/-- Fields 7 and 8 of STATUS. -/
def statusLens (s : State) : List Byte :=
  allAxes.flatMap (fun a =>
    byte1 (axisStatePlace (s.axis a).state) ++ bytes2Opt (shownPosition s a)) ++
    groupOpt 9 (s.msc.group.map groupBytes)

/-- The STATUS record as a port reads it (R167). -/
def statusBytes (s : State) (p : Port) : List Byte :=
  statusPower s ++ statusSensing s ++ statusLens s ++
    bytes2 (s.bkm.generationOf .live) ++ bytes2 (s.bkm.generationOf .ready) ++
    byte1 (dirtyCount s.nvs) ++
    byte1 (s.port .m).frameLoss ++ byte1 (s.port .s).frameLoss ++ byte1 (s.port .v).frameLoss ++
    causeBytes (attentionOf s p).pending

/-! ## SENSOR and AXIS (R168) -/

/-- The SENSOR record: channel, raw code, condition, temperature, heat index (R17, R168). R159 names
no kind for a raw code: the model sends a signed 2-byte field, −32768 for none (log 42). -/
def sensorBytes (s : State) (c : Channel) : List Byte :=
  let x := shownOf s c
  byte1 (channelNumber c) ++ bytes2Opt x.raw ++ byte1 (conditionPlace x.condition) ++
    bytes2Opt x.temp ++ bytes2Opt (s.afc.heat.get c)

/-- The offset from the centre: for HS and VS at a known position (R84). -/
def centreOffset (s : State) (a : Axis) : Option Int :=
  match a with
  | .hs | .vs => (shownPosition s a).map (fun p => p - axisCentre s a)
  | .zm | .fc => none

/-- The slot byte of an axis record; for none the byte is free (log 22). -/
def slotField : Option DriveSlot → List Byte
  | some .slot0 => [0]
  | some .slot1 => [1]
  | none => [Config.absentSlot]

/-- A tag byte; for none the byte is free (log 22). -/
def tagField (t : Option Byte) : List Byte := [t.getD Config.absentTag]

/-- The axis record (R84). R159 names no kind for a step rate: the model sends a signed 2-byte field,
−32768 for none (log 42). -/
def axisBytes (s : State) (a : Axis) : List Byte :=
  let r := s.axis a
  byte1 (axisStatePlace r.state) ++ enumOpt phasePlace r.phase ++ bytes2Opt (shownPosition s a) ++
    bytes2Opt (centreOffset s a) ++ bytes2 r.maxInForce ++ bytes2Opt r.target ++
    bytes2Opt r.start ++ byte1 (directionPlace r.direction) ++ slotField r.slot ++
    tagField r.tag ++ enumOpt sourcePlace r.source ++ enumOpt grantModePlace r.mode ++
    bytes2Opt r.rate ++ bytes2 r.remaining ++ byteFlag r.switch

/-- The last-result record (R94). -/
def lastBytes (x : LastResult) : List Byte :=
  tagField x.tag ++ enumOpt sourcePlace x.source ++ enumOpt moveOutcomePlace x.outcome ++
    bytes2Opt x.final

/-- The tracker record (R104, R115). -/
def trackerBytes (x : Fdt) : List Byte :=
  byteFlag x.enable ++ bytes2Opt x.anchor ++ bytes2 x.correction ++
    byte1 (trackerStatePlace x.state) ++ bytes2Opt x.outstanding

/-- The AXIS answer (R168). -/
def axisAnswer (s : State) (a : Axis) : List Byte :=
  axisBytes s a ++ lastBytes (s.msc.last.get a) ++
    groupOpt 8 (if a = .fc then some (trackerBytes s.fdt) else none)

/-! ## PRESET_READ (R99) -/

/-- One trim. -/
def trimBytes (t : Trim) : List Byte := bytes2 t.dx ++ bytes2 t.dy

/-- The four trims. -/
def trimsBytes (t : Trims) : List Byte :=
  trimBytes t.tl ++ trimBytes t.tr ++ trimBytes t.bl ++ trimBytes t.br

/-- A preset record (R97, log 23). -/
def presetBytes (x : Preset) : List Byte :=
  x.label ++ allAxes.flatMap (fun a => bytes2Opt (x.positions.get a)) ++ bytes2Opt x.anchor ++
    bytes2Opt x.correction ++
    groupOpt 17 (x.trims.map (fun g => trimsBytes g.trims ++ byteFlag g.keystone))

/-- The PRESET_READ answer: slot, empty mark, record (R99, log 23). -/
def presetAnswer (s : State) (n : Fin 10) : List Byte :=
  byte1 n.val ++
    (match s.ptb.slots.get n with
     | none => [1]
     | some x => 0 :: presetBytes x)

/-! ## The geometry record and the bank status (R134, R147) -/

/-- What the geometry record shows of the snapshot (R134, log 24, 33). For an axis that the snapshot
has unknown the model sends the position that R120 puts in its place, with the known flag 0 (log
43). -/
def snapshotBytes (x : Option Snapshot) : List Byte :=
  match x with
  | none => bytes2Opt none ++ bytes2Opt none ++ bytes2Opt none ++ byteFlag false ++
      bytes2Opt none ++ byteFlag false ++ byteFlag false ++ byteFlag false ++ byteFlag false
  | some x => bytes2 x.tangent ++ bytes2 (tUsed x) ++ bytes2 x.zm ++ byteFlag x.zmKnown ++
      bytes2 x.vs ++ byteFlag x.vsKnown ++ byteFlag (autoUsed x) ++ byteFlag (autoSuppressed x) ++
      byteFlag (!beyondHorizon x && cornersClamped x)

/-- The geometry record (R134). -/
def geometryBytes (s : State) : List Byte :=
  trimsBytes s.geo.settings.trims ++ byteFlag s.geo.settings.keystone ++
    byte1 (orientationModePlace s.geo.settings.mode) ++
    byte1 (orientationPlace (effectiveOrientation s)) ++ byteFlag s.geo.building ++
    byteFlag s.geo.pendingBuild ++ byte1 (rejectPlace s.geo.lastReject) ++
    snapshotBytes s.geo.snapshot

/-- The loan: generation and time left (R147). -/
def loanBytes (l : Loan) : List Byte := bytes2 l.gen ++ bytes4 l.left

/-- The BANK_STATUS answer (R147). -/
def bankBytes (s : State) : List Byte :=
  let b := s.bkm
  allBanks.flatMap (fun i => byte1 (rolePlace (b.banks.get i).role)) ++
    allBanks.flatMap (fun i => bytes2 (b.banks.get i).gen) ++
    bytes2 (b.generationOf .live) ++ bytes2 (b.generationOf .ready) ++
    groupOpt 6 (b.loan.map loanBytes) ++ bytes2 b.counter ++ bytes2 b.expiries ++
    byte1 (rejectPlace s.geo.lastReject)

end Sys2Proof.Machine
end

