-- ==== Sys2Proof/Machine/Ports.lean ====
section
/-! DEFINITION. Exchanges other than a taken command: response reads (R156 to R158), broken frames
(R154), and the forms that every meaning of a row has. -/

namespace Sys2Proof.Machine

/-- What a command answers: the outcome of one step. -/
abbrev Stepped := Host.Outcome State Fault Refusal

/-- An event of the part outside a part reset: during one the part is held and no event acts (R173,
log 39). -/
def outsideReset (f : State → State) (s : State) : State := if s.inReset then s else f s

/-- The bytes of a response record (R156). -/
def recordBytes (x : Response) : List Byte :=
  byte1 (resultPlace x.result) ++ [x.code] ++ byteFlag x.overrun ++ bytes2 x.payload.length ++
    x.payload

/-- The bytes of the empty record (R156). -/
def emptyRecord : List Byte := byte1 (resultPlace .empty) ++ [0, 0, 0, 0]

/-- The record that a read finds (R156). -/
def heldRecord (s : State) (p : Port) : List Byte :=
  match (s.port p).slot with
  | none => emptyRecord
  | some x => recordBytes x

/-- `count` bytes of a record, with zeros once it is exhausted (R157, R158). -/
def clockedOut (record : List Byte) (count : Nat) : List Byte :=
  record.take count ++ List.replicate (count - record.length) 0

/-- The acknowledges of a transaction whose data bytes the part drives, or that has none: on Port S
that of the address (R152). -/
def addressAck : Port → Nat
  | .s => 1
  | _ => 0

/-- An exchange that is ignored (R151, R152): a write without a data byte on Port S is acknowledged at
its address and changes nothing else. -/
def ignoreExchange (p : Port) (s : State) : State :=
  match p with
  | .s => s.setPort .s { s.port .s with sent := [], acked := addressAck .s }
  | _ => s

/-- A response read (R157, R158): the slot is emptied, and the bytes are driven, after the slot byte
on Ports M and V. -/
def readResponse (p : Port) (count : Nat) (s : State) : State :=
  let body := clockedOut (heldRecord s p) count
  s.setPort p
    { s.port p with slot := none,
                    sent := match p with
                      | .s => body
                      | _ => slotByte s p :: body,
                    acked := addressAck p }

/-- FRAME is raised on Port M or Port S, whose frame was broken (R154). -/
def raiseFrame (p : Port) (s : State) : State := raiseOn .frame p s

/-- A broken frame of `count` bytes begun (R154): the loss is counted, the slot left as it was. -/
def loseFrame (p : Port) (count : Nat) (s : State) : State :=
  let t := shiftOut p count s
  raiseFrame p (t.setPort p { t.port p with frameLoss := min 255 ((t.port p).frameLoss + 1) })

end Sys2Proof.Machine
end

