-- ==== Sys2Proof/Machine/Events.lean ====
section
/-! DEFINITION. The rows that no port carries: resets, rails, pins, conversions, gates, steps, timers,
builds and store writes. Each acts whenever it is sent outside a part reset (log 4, 6, 39). -/

namespace Sys2Proof.Machine

/-- PART_RESET (R173): both sources have one effect. -/
def execPartReset (_source : ResetSource) (s : State) : Stepped := .next (partReset s)

/-- RESET_END (R174). -/
def execResetEnd (levels : InputLevels) (s : State) : Stepped := .next (endReset levels s)

/-- MAIN_RAIL_RISE (R37). -/
def execMainRailRise (s : State) : Stepped := .next (outsideReset railRise s)

/-- MAIN_RAIL_LOSS (R39). -/
def execMainRailLoss (s : State) : Stepped := .next (outsideReset railLoss s)

/-- COVER_CHANGE (R42). -/
def execCoverChange (c : Cover) (s : State) : Stepped := .next (outsideReset (coverTo c) s)

/-- HOME_SWITCH_CHANGE (R78, R79). -/
def execHomeSwitchChange (a : Axis) (asserted : Bool) (s : State) : Stepped :=
  .next (outsideReset (fun t => occasionAfter a t (switchChange a asserted t)) s)

/-- TACH_PULSE (R25). -/
def execTachPulse (f : Fan) (width : Nat) (s : State) : Stepped :=
  .next (outsideReset (countPulse f width) s)

/-- SWEEP_START (R2). -/
def execSweepStart (s : State) : Stepped := .next (outsideReset startSweep s)

/-- STANDBY_BRD_CONVERSION (R3). -/
def execStandbyBrdConversion (s : State) : Stepped := .next (outsideReset startStandby s)

/-- CONVERSION_COMPLETE (R7). -/
def execConversionComplete (c : Channel) (code : BitVec 12) (s : State) : Stepped :=
  .next (outsideReset (completeConversion c code.toNat) s)

/-- GATE_END (R26, R38). -/
def execGateEnd (s : State) : Stepped := .next (outsideReset (fun t => lightGate (fanGate t)) s)

/-- PROVING_DEADLINE_EXPIRY (R38). -/
def execProvingDeadlineExpiry (s : State) : Stepped := .next (outsideReset provingExpiry s)

/-- STEP (R65). -/
def execStep (a : Axis) (s : State) : Stepped := .next (outsideReset (axisStep a) s)

/-- DWELL_EXPIRY (R68). -/
def execDwellExpiry (a : Axis) (s : State) : Stepped :=
  .next (outsideReset (fun t => occasionAfter a t (dwellEnd a t)) s)

/-- BUILD_END (R121, R133). -/
def execBuildEnd (s : State) : Stepped := .next (outsideReset finishBuild s)

/-- The loan timer expires (R143). -/
def loanExpires (s : State) : State := s.withBkm s.bkm.expire

/-- LOAN_EXPIRY (R143). -/
def execLoanExpiry (s : State) : Stepped := .next (outsideReset loanExpires s)

/-- NV_WRITE_END (R172). -/
def execNvWriteEnd (s : State) : Stepped := .next (outsideReset writeEnd s)

end Sys2Proof.Machine
end

