-- ==== Sys2Proof/Machine/GeometryCmds.lean ====
section
/-! DEFINITION. The geometry and profile commands (R117 to R119, R122, R170). -/

namespace Sys2Proof.Machine

/-- Settings that differ from those held are stored, with the item dirty and a build requested (R117
to R119); the same settings change nothing. -/
def storeSettings (x : Settings) (s : State) : State :=
  if s.geo.settings = x then s else changeSettings x s

/-- A geometry command is answered with the geometry record as it then stands (R134). -/
def withGeometry (s : State) : State × Answer := (s, answerOk (geometryBytes s))

/-- TRIMS, clamped (R117). -/
def setTrims (t : Trims) (s : State) : State :=
  storeSettings { s.geo.settings with trims := clampTrims t } s

/-- KEYSTONE (R118). -/
def setKeystone (on : Bool) (s : State) : State :=
  storeSettings { s.geo.settings with keystone := on } s

/-- ORIENTATION (R119). -/
def setOrientation (m : OrientationMode) (s : State) : State :=
  storeSettings { s.geo.settings with mode := m } s

/-- TRIMS (R117). What the block does with the operands. -/
def runTrims : Port → Machine.Trims → State → State × Answer :=
  fun _ t s => withGeometry (setTrims t s)

/-- Trims as its frame is taken (R155). -/
def takeTrimsCmd (p : Port) (payload : List Byte) (s : State) : State :=
  takeCommand .trims parseTrims (runTrims p) p payload s

/-- The row. -/
def execTrims (p : Port) (payload : List Byte) (s : State) : Stepped :=
  .next (takeTrimsCmd p payload s)

/-- KEYSTONE (R118). What the block does with the operands. -/
def runKeystone : Port → Bool → State → State × Answer :=
  fun _ on s => withGeometry (setKeystone on s)

/-- Keystone as its frame is taken (R155). -/
def takeKeystoneCmd (p : Port) (payload : List Byte) (s : State) : State :=
  takeCommand .keystone parseOnOff (runKeystone p) p payload s

/-- The row. -/
def execKeystone (p : Port) (payload : List Byte) (s : State) : Stepped :=
  .next (takeKeystoneCmd p payload s)

/-- ORIENTATION (R119). What the block does with the operands. -/
def runOrientation : Port → OrientationMode → State → State × Answer :=
  fun _ m s => withGeometry (setOrientation m s)

/-- Orientation as its frame is taken (R155). -/
def takeOrientationCmd (p : Port) (payload : List Byte) (s : State) : State :=
  takeCommand .orientation parseOrientation (runOrientation p) p payload s

/-- The row. -/
def execOrientation (p : Port) (payload : List Byte) (s : State) : Stepped :=
  .next (takeOrientationCmd p payload s)

/-- REBUILD (R122). What the block does with the operands. -/
def runRebuild : Port → Unit → State → State × Answer :=
  fun _ _ s => withGeometry (requestBuild s)

/-- Rebuild as its frame is taken (R155). -/
def takeRebuildCmd (p : Port) (payload : List Byte) (s : State) : State :=
  takeCommand .rebuild parseNone (runRebuild p) p payload s

/-- The row. -/
def execRebuild (p : Port) (payload : List Byte) (s : State) : Stepped :=
  .next (takeRebuildCmd p payload s)

/-- PROFILE_WRITE (R170). What the block does with the operands. -/
def runProfileWrite : Port → ProfileSection × Nat × List Byte → State → State × Answer :=
  fun _ x s => writeProfile x.1 x.2.1 x.2.2 s

/-- ProfileWrite as its frame is taken (R155). -/
def takeProfileWriteCmd (p : Port) (payload : List Byte) (s : State) : State :=
  takeCommand .profileWrite parseProfileWrite (runProfileWrite p) p payload s

/-- The row. -/
def execProfileWrite (p : Port) (payload : List Byte) (s : State) : Stepped :=
  .next (takeProfileWriteCmd p payload s)

/-- PROFILE_READ (R170). What the block does with the operands. -/
def runProfileRead : Port → ProfileSection × Nat × Nat → State → State × Answer :=
  fun _ x s => readProfile x.1 x.2.1 x.2.2 s

/-- ProfileRead as its frame is taken (R155). -/
def takeProfileReadCmd (p : Port) (payload : List Byte) (s : State) : State :=
  takeCommand .profileRead parseProfileRead (runProfileRead p) p payload s

/-- The row. -/
def execProfileRead (p : Port) (payload : List Byte) (s : State) : Stepped :=
  .next (takeProfileReadCmd p payload s)

end Sys2Proof.Machine
end

