-- ==== Sys2Proof/Machine/LensCmds.lean ====
section
/-! DEFINITION. The lens commands: MOVE, HOME, STOP, DRIFT (R86, R87, R89, R108). -/

namespace Sys2Proof.Machine

/-- The set of one axis. -/
def onlyAxis (a : Axis) : PerAxis Bool := (PerAxis.same false).set a true

/-- A target that R86 refuses: an ABSOLUTE one below 0. -/
def negativeTarget : ReqKind → Bool
  | .absolute t => decide (t < 0)
  | _ => false

/-- The checks of R86 after the encoding: the first refusal that applies. -/
def moveRefusal (s : State) (x : MoveOperands) : Option Result :=
  if x.follow = some x.axis ∨ negativeTarget x.kind then some .badValue
  else if s.lps.power = .off then some .noPower
  else if positionKnown s x.axis then none
  else some .axisLost

/-- The request of a MOVE (R86). -/
def moveRequest (p : Port) (x : MoveOperands) : NewRequest :=
  ⟨x.axis, x.kind, x.mode, x.follow, x.tag, .m, some p, false, none⟩

/-- An accepted MOVE: the group of a live member ends, the request is placed, the occasion follows
(R86, R88, R96). -/
def acceptMove (p : Port) (x : MoveOperands) (s : State) : State :=
  grantOccasion none
    (place (moveRequest p x) (endGroupFor .superseded (onlyAxis x.axis) s))

/-- MOVE (R86). -/
def moveNow (p : Port) (x : MoveOperands) (s : State) : State × Answer :=
  match moveRefusal s x with
  | some r => (s, refuse r)
  | none => (acceptMove p x s, answerOk [])

/-- The request of a HOME for one axis (R85, R87). -/
def homeRequest (p : Port) (tag : Byte) (a : Axis) : NewRequest :=
  ⟨a, .home, .held, none, tag, .m, some p, false, none⟩

/-- An accepted HOME: the axes in order, then one occasion; an empty set changes nothing (R87). -/
def acceptHome (p : Port) (axes : PerAxis Bool) (tag : Byte) (s : State) : State :=
  if axes = .same false then s
  else
    grantOccasion none
      (forAxes axes (fun a => place (homeRequest p tag a)) (endGroupFor .superseded axes s))

/-- HOME (R87). -/
def homeNow (p : Port) (axes : PerAxis Bool) (tag : Byte) (s : State) : State × Answer :=
  if s.lps.power = .off then (s, refuse .noPower) else (acceptHome p axes tag s, answerOk [])

/-- The axes that have a pending record. -/
def waiting (s : State) : PerAxis Bool := s.msc.pending.map Option.isSome

/-- A grant occasion when a slot was released or a record left the list since `before` (R91). -/
def occasionIf (before s : State) : State :=
  if holders before = holders s ∧ waiting before = waiting s then s else grantOccasion none s

/-- STOP (R89, R96). -/
def stopNow (axes : PerAxis Bool) (s : State) : State :=
  occasionIf s (forAxes axes stopAxis (endGroupFor .cancelled axes s))

/-- DRIFT ON: with no anchor and LNS NORMAL it sets one (R108). -/
def driftOn (s : State) : State :=
  match s.fdt.anchor, normalTemp s .lns with
  | none, some t => s.withFdt { s.fdt with enable := true, anchor := some t, correction := 0 }
  | _, _ => s.withFdt { s.fdt with enable := true }

/-- DRIFT OFF (R108). -/
def driftOff (s : State) : State := s.withFdt { s.fdt with enable := false, state := .suspended }

/-- DRIFT, answered with the tracker record as it then stands (R108). -/
def driftNow (on : Bool) (s : State) : State × Answer :=
  let t := if on then driftOn s else driftOff s
  (t, answerOk (trackerBytes t.fdt))

/-- MOVE (R86). What the block does with the operands. -/
def runMove : Port → MoveOperands → State → State × Answer :=
  fun p x s => moveNow p x s

/-- Move as its frame is taken (R155). -/
def takeMoveCmd (p : Port) (payload : List Byte) (s : State) : State :=
  takeCommand .move parseMove (runMove p) p payload s

/-- The row. -/
def execMove (p : Port) (payload : List Byte) (s : State) : Stepped :=
  .next (takeMoveCmd p payload s)

/-- HOME (R87). What the block does with the operands. -/
def runHome : Port → PerAxis Bool × Byte → State → State × Answer :=
  fun p x s => homeNow p x.1 x.2 s

/-- Home as its frame is taken (R155). -/
def takeHomeCmd (p : Port) (payload : List Byte) (s : State) : State :=
  takeCommand .home parseHome (runHome p) p payload s

/-- The row. -/
def execHome (p : Port) (payload : List Byte) (s : State) : Stepped :=
  .next (takeHomeCmd p payload s)

/-- STOP (R89). What the block does with the operands. -/
def runStop : Port → PerAxis Bool → State → State × Answer :=
  fun _ axes s => always (stopNow axes) s

/-- Stop as its frame is taken (R155). -/
def takeStopCmd (p : Port) (payload : List Byte) (s : State) : State :=
  takeCommand .stop parseStop (runStop p) p payload s

/-- The row. -/
def execStop (p : Port) (payload : List Byte) (s : State) : Stepped :=
  .next (takeStopCmd p payload s)

/-- DRIFT (R108). What the block does with the operands. -/
def runDrift : Port → Bool → State → State × Answer :=
  fun _ on s => driftNow on s

/-- Drift as its frame is taken (R155). -/
def takeDriftCmd (p : Port) (payload : List Byte) (s : State) : State :=
  takeCommand .drift parseOnOff (runDrift p) p payload s

/-- The row. -/
def execDrift (p : Port) (payload : List Byte) (s : State) : Stepped :=
  .next (takeDriftCmd p payload s)

end Sys2Proof.Machine
end

