-- ==== Sys2Proof/Machine/PowerCmds.lean ====
section
/-! DEFINITION. The light and power commands (sections 2.4 and 3.3 to 3.5). -/

namespace Sys2Proof.Machine

/-- The acoustic mode changes, which is a grant occasion; the mode in force changes nothing (R23,
R91). -/
def setAcoustic (m : AcousticMode) (s : State) : State :=
  if s.afc.mode = m then s else grantOccasion none (s.withAfc { s.afc with mode := m })

/-- LIGHT_ON (R40). What the block does with the operands. -/
def runLightOn : Port → Nat → State → State × Answer :=
  fun _ level s => lightOnNow level s

/-- LightOn as its frame is taken (R155). -/
def takeLightOnCmd (p : Port) (payload : List Byte) (s : State) : State :=
  takeCommand .lightOn parseLevel (runLightOn p) p payload s

/-- The row. -/
def execLightOn (p : Port) (payload : List Byte) (s : State) : Stepped :=
  .next (takeLightOnCmd p payload s)

/-- LIGHT_OFF (R41). What the block does with the operands. -/
def runLightOff : Port → Unit → State → State × Answer :=
  fun _ _ s => always lightOffNow s

/-- LightOff as its frame is taken (R155). -/
def takeLightOffCmd (p : Port) (payload : List Byte) (s : State) : State :=
  takeCommand .lightOff parseNone (runLightOff p) p payload s

/-- The row. -/
def execLightOff (p : Port) (payload : List Byte) (s : State) : Stepped :=
  .next (takeLightOffCmd p payload s)

/-- ACOUSTIC (R23). What the block does with the operands. -/
def runAcoustic : Port → AcousticMode → State → State × Answer :=
  fun _ m s => always (setAcoustic m) s

/-- Acoustic as its frame is taken (R155). -/
def takeAcousticCmd (p : Port) (payload : List Byte) (s : State) : State :=
  takeCommand .acoustic parseAcoustic (runAcoustic p) p payload s

/-- The row. -/
def execAcoustic (p : Port) (payload : List Byte) (s : State) : Stepped :=
  .next (takeAcousticCmd p payload s)

/-- POWER_DOWN (R43). What the block does with the operands. -/
def runPowerDown : Port → Unit → State → State × Answer :=
  fun _ _ s => always powerDownNow s

/-- PowerDown as its frame is taken (R155). -/
def takePowerDownCmd (p : Port) (payload : List Byte) (s : State) : State :=
  takeCommand .powerDown parseNone (runPowerDown p) p payload s

/-- The row. -/
def execPowerDown (p : Port) (payload : List Byte) (s : State) : Stepped :=
  .next (takePowerDownCmd p payload s)

/-- POWER_UP (R46). What the block does with the operands. -/
def runPowerUp : Port → Unit → State → State × Answer :=
  fun _ _ s => powerUpNow s

/-- PowerUp as its frame is taken (R155). -/
def takePowerUpCmd (p : Port) (payload : List Byte) (s : State) : State :=
  takeCommand .powerUp parseNone (runPowerUp p) p payload s

/-- The row. -/
def execPowerUp (p : Port) (payload : List Byte) (s : State) : Stepped :=
  .next (takePowerUpCmd p payload s)

/-- CLEAR_TRIP (R49). What the block does with the operands. -/
def runClearTrip : Port → Unit → State → State × Answer :=
  fun _ _ s => clearTripNow s

/-- ClearTrip as its frame is taken (R155). -/
def takeClearTripCmd (p : Port) (payload : List Byte) (s : State) : State :=
  takeCommand .clearTrip parseNone (runClearTrip p) p payload s

/-- The row. -/
def execClearTrip (p : Port) (payload : List Byte) (s : State) : Stepped :=
  .next (takeClearTripCmd p payload s)

end Sys2Proof.Machine
end

