-- ==== Sys2Proof/Machine/PresetCmds.lean ====
section
/-! DEFINITION. The commands of the lens memories that change state (R98 to R100). -/

namespace Sys2Proof.Machine

/-- PRESET_SAVE (R98). What the block does with the operands. -/
def runPresetSave : Port → SaveOperands → State → State × Answer :=
  fun _ x s => savePreset x s

/-- PresetSave as its frame is taken (R155). -/
def takePresetSaveCmd (p : Port) (payload : List Byte) (s : State) : State :=
  takeCommand .presetSave parseSave (runPresetSave p) p payload s

/-- The row. -/
def execPresetSave (p : Port) (payload : List Byte) (s : State) : Stepped :=
  .next (takePresetSaveCmd p payload s)

/-- PRESET_ERASE (R99). What the block does with the operands. -/
def runPresetErase : Port → Fin 10 → State → State × Answer :=
  fun _ n s => erasePreset n s

/-- PresetErase as its frame is taken (R155). -/
def takePresetEraseCmd (p : Port) (payload : List Byte) (s : State) : State :=
  takeCommand .presetErase parseSlot (runPresetErase p) p payload s

/-- The row. -/
def execPresetErase (p : Port) (payload : List Byte) (s : State) : Stepped :=
  .next (takePresetEraseCmd p payload s)

/-- PRESET_RECALL (R100). What the block does with the operands. -/
def runPresetRecall : Port → Fin 10 × Byte → State → State × Answer :=
  fun p x s => recallPreset p x.1 x.2 s

/-- PresetRecall as its frame is taken (R155). -/
def takePresetRecallCmd (p : Port) (payload : List Byte) (s : State) : State :=
  takeCommand .presetRecall parseRecall (runPresetRecall p) p payload s

/-- The row. -/
def execPresetRecall (p : Port) (payload : List Byte) (s : State) : Stepped :=
  .next (takePresetRecallCmd p payload s)

end Sys2Proof.Machine
end

