-- ==== Sys2Proof/Machine/Queries.lean ====
section
/-! DEFINITION. The query commands: STATUS, EVENTS, MASK, SENSOR, AXIS, PRESET_READ
(R166 to R168, R99). -/

namespace Sys2Proof.Machine

/-- STATUS: the record, nothing changed (R167). What the block does with the operands. -/
def runStatus : Port → Unit → State → State × Answer :=
  fun p _ s => (s, answerOk (statusBytes s p))

/-- Status as its frame is taken (R155). -/
def takeStatusCmd (p : Port) (payload : List Byte) (s : State) : State :=
  takeCommand .status parseNone (runStatus p) p payload s

/-- The row. -/
def execStatus (p : Port) (payload : List Byte) (s : State) : Stepped :=
  .next (takeStatusCmd p payload s)

/-- EVENTS: the pending set, then emptied (R166). What the block does with the operands. -/
def runEvents : Port → Unit → State → State × Answer :=
  fun p _ s => (clearCauses p s, answerOk (causeBytes (attentionOf s p).pending))

/-- Events as its frame is taken (R155). -/
def takeEventsCmd (p : Port) (payload : List Byte) (s : State) : State :=
  takeCommand .events parseNone (runEvents p) p payload s

/-- The row. -/
def execEvents (p : Port) (payload : List Byte) (s : State) : Stepped :=
  .next (takeEventsCmd p payload s)

/-- MASK: the mask replaced, and the mask in force answered (R166). What the block does with the operands. -/
def runMask : Port → CauseSet → State → State × Answer :=
  fun p m s =>
    let t := setMask p m s
    (t, answerOk (causeBytes (attentionOf t p).mask))

/-- Mask as its frame is taken (R155). -/
def takeMaskCmd (p : Port) (payload : List Byte) (s : State) : State :=
  takeCommand .mask parseMask (runMask p) p payload s

/-- The row. -/
def execMask (p : Port) (payload : List Byte) (s : State) : Stepped :=
  .next (takeMaskCmd p payload s)

/-- SENSOR: the record of a channel (R168). What the block does with the operands. -/
def runSensor : Port → Channel → State → State × Answer :=
  fun _ c s => (s, answerOk (sensorBytes s c))

/-- Sensor as its frame is taken (R155). -/
def takeSensorCmd (p : Port) (payload : List Byte) (s : State) : State :=
  takeCommand .sensor parseChannel (runSensor p) p payload s

/-- The row. -/
def execSensor (p : Port) (payload : List Byte) (s : State) : Stepped :=
  .next (takeSensorCmd p payload s)

/-- AXIS: the records of an axis (R168). What the block does with the operands. -/
def runAxis : Port → Axis → State → State × Answer :=
  fun _ a s => (s, answerOk (axisAnswer s a))

/-- Axis as its frame is taken (R155). -/
def takeAxisCmd (p : Port) (payload : List Byte) (s : State) : State :=
  takeCommand .axis parseAxis (runAxis p) p payload s

/-- The row. -/
def execAxis (p : Port) (payload : List Byte) (s : State) : Stepped :=
  .next (takeAxisCmd p payload s)

/-- PRESET_READ: the slot and its record (R99). What the block does with the operands. -/
def runPresetRead : Port → Fin 10 → State → State × Answer :=
  fun _ n s => (s, answerOk (presetAnswer s n))

/-- PresetRead as its frame is taken (R155). -/
def takePresetReadCmd (p : Port) (payload : List Byte) (s : State) : State :=
  takeCommand .presetRead parseSlot (runPresetRead p) p payload s

/-- The row. -/
def execPresetRead (p : Port) (payload : List Byte) (s : State) : Stepped :=
  .next (takePresetReadCmd p payload s)

end Sys2Proof.Machine
end

