-- ==== Sys2Proof/Machine/TableCmds.lean ====
section
/-! DEFINITION. The commands of Port V (section 8.4). -/

namespace Sys2Proof.Machine

/-- OPEN (R142). -/
def openNow (s : State) : State × Answer :=
  let t := s.withBkm s.bkm.openLoan
  (t, openAnswer t.bkm)

/-- TAKE (R145). -/
def takeNow (gen check : Nat) (s : State) : State × Answer :=
  match s.bkm.loanOf gen with
  | none => (s, refuse .stale)
  | some l =>
    if imageCheck (s.bkm.banks.get l.bank).image = check then
      (raiseOn .live .m (s.withBkm (s.bkm.takeLive l)), answerOk (bytes2 gen))
    else (s, refuse .checkFail)

/-- DROP (R146). -/
def dropNow (gen : Nat) (s : State) : State × Answer :=
  match s.bkm.loanOf gen with
  | none => (s, refuse .stale)
  | some _ => (s.withBkm s.bkm.release, answerOk [])

/-- OPEN (R142). What the block does with the operands. -/
def runOpenTable : Port → Unit → State → State × Answer :=
  fun _ _ s => openNow s

/-- OpenTable as its frame is taken (R155). -/
def takeOpenTableCmd (p : Port) (payload : List Byte) (s : State) : State :=
  takeCommand .openTable parseNone (runOpenTable p) p payload s

/-- The row. -/
def execOpenTable (p : Port) (payload : List Byte) (s : State) : Stepped :=
  .next (takeOpenTableCmd p payload s)

/-- READ (R144). What the block does with the operands. -/
def runReadTable : Port → Nat × Nat → State → State × Answer :=
  fun _ x s => (s, readAnswer s.bkm x.1 x.2)

/-- ReadTable as its frame is taken (R155). -/
def takeReadTableCmd (p : Port) (payload : List Byte) (s : State) : State :=
  takeCommand .readTable parsePair (runReadTable p) p payload s

/-- The row. -/
def execReadTable (p : Port) (payload : List Byte) (s : State) : Stepped :=
  .next (takeReadTableCmd p payload s)

/-- TAKE (R145). What the block does with the operands. -/
def runTakeTable : Port → Nat × Nat → State → State × Answer :=
  fun _ x s => takeNow x.1 x.2 s

/-- TakeTable as its frame is taken (R155). -/
def takeTakeTableCmd (p : Port) (payload : List Byte) (s : State) : State :=
  takeCommand .takeTable parsePair (runTakeTable p) p payload s

/-- The row. -/
def execTakeTable (p : Port) (payload : List Byte) (s : State) : Stepped :=
  .next (takeTakeTableCmd p payload s)

/-- DROP (R146). What the block does with the operands. -/
def runDropTable : Port → Nat → State → State × Answer :=
  fun _ gen s => dropNow gen s

/-- DropTable as its frame is taken (R155). -/
def takeDropTableCmd (p : Port) (payload : List Byte) (s : State) : State :=
  takeCommand .dropTable parseGeneration (runDropTable p) p payload s

/-- The row. -/
def execDropTable (p : Port) (payload : List Byte) (s : State) : Stepped :=
  .next (takeDropTableCmd p payload s)

/-- BANK_STATUS (R147). What the block does with the operands. -/
def runBankStatus : Port → Unit → State → State × Answer :=
  fun _ _ s => (s, answerOk (bankBytes s))

/-- BankStatus as its frame is taken (R155). -/
def takeBankStatusCmd (p : Port) (payload : List Byte) (s : State) : State :=
  takeCommand .bankStatus parseNone (runBankStatus p) p payload s

/-- The row. -/
def execBankStatus (p : Port) (payload : List Byte) (s : State) : Stepped :=
  .next (takeBankStatusCmd p payload s)

end Sys2Proof.Machine
end

