-- ==== Sys2Proof/Machine/Framing.lean ====
section
/-! DEFINITION. RESET_PART and the rows of the ports that are no taken command: UNKNOWN_COMMAND,
BROKEN_FRAME, RESPONSE_READ (R151 to R158, R163). -/

namespace Sys2Proof.Machine

/-- RESET_PART once its checks pass starts a part reset, and no response is placed (R163). -/
def takeResetPart (p : Port) (payload : List Byte) (s : State) : State :=
  if s.inReset then s
  else if cmdPermitted .resetPart p && cmdLengthOk .resetPart payload.length then partReset s
  else takeCommand .resetPart parseNone (fun _ t => (t, answerOk [])) p payload s

/-- RESET_PART (R163). -/
def execResetPart (p : Port) (payload : List Byte) (s : State) : Stepped :=
  .next (takeResetPart p payload s)

/-- The taking of a command of R160. -/
def takeKnown (c : Cmd) : Port → List Byte → State → State :=
  match c with
  | .status => takeStatusCmd
  | .events => takeEventsCmd
  | .mask => takeMaskCmd
  | .sensor => takeSensorCmd
  | .axis => takeAxisCmd
  | .presetRead => takePresetReadCmd
  | .lightOn => takeLightOnCmd
  | .lightOff => takeLightOffCmd
  | .acoustic => takeAcousticCmd
  | .powerDown => takePowerDownCmd
  | .powerUp => takePowerUpCmd
  | .clearTrip => takeClearTripCmd
  | .move => takeMoveCmd
  | .home => takeHomeCmd
  | .stop => takeStopCmd
  | .presetSave => takePresetSaveCmd
  | .presetErase => takePresetEraseCmd
  | .presetRecall => takePresetRecallCmd
  | .trims => takeTrimsCmd
  | .keystone => takeKeystoneCmd
  | .orientation => takeOrientationCmd
  | .rebuild => takeRebuildCmd
  | .drift => takeDriftCmd
  | .profileWrite => takeProfileWriteCmd
  | .profileRead => takeProfileReadCmd
  | .resetPart => takeResetPart
  | .openTable => takeOpenTableCmd
  | .readTable => takeReadTableCmd
  | .takeTable => takeTakeTableCmd
  | .dropTable => takeDropTableCmd
  | .bankStatus => takeBankStatusCmd

/-- A complete frame is taken: by its code, or answered UNKNOWN (R153, R155). -/
def takeFrame (p : Port) (code : Byte) (payload : List Byte) (s : State) : State :=
  match cmdOfCode code with
  | some c => takeKnown c p payload s
  | none => respond p code (refuse .unknown) (shiftOut p (payload.length + 2) s)

/-- The bytes begun in an exchange: the whole ones, and on Ports M and V an unfinished one. -/
def bytesBegun (p : Port) (bytes : List Byte) (bits : Nat) : Nat :=
  if bits = 0 ∨ p = .s then bytes.length else bytes.length + 1

/-- An exchange of any class (R151, R152): the ports take none during a part reset (R162). -/
def exchange (p : Port) (bytes : List Byte) (bits : Nat) (s : State) : State :=
  if s.inReset then s
  else
    match classifyExchange p bytes bits with
    | .ignored => ignoreExchange p s
    | .broken => loseFrame p (bytesBegun p bytes bits) s
    | .read count => readResponse p count s
    | .frame code payload => takeFrame p code payload s

/-- The bytes of a frame (R153). -/
def frameBytes (code : Byte) (payload : List Byte) : List Byte :=
  code :: BitVec.ofNat 8 payload.length :: payload

/-- UNKNOWN_COMMAND (R155): the frame with its code, as the port classes it. -/
def execUnknownCommand (p : Port) (code : Byte) (payload : List Byte) (s : State) : Stepped :=
  .next (exchange p (frameBytes code payload) 0 s)

/-- BROKEN_FRAME (R154): the bytes and clocks received, as the port classes them (log 41). -/
def execBrokenFrame (p : Port) (bytes : List Byte) (bits : Nat) (s : State) : Stepped :=
  .next (exchange p bytes bits s)

/-- RESPONSE_READ (R156 to R158). -/
def execResponseRead (p : Port) (count : Nat) (s : State) : Stepped :=
  .next (outsideReset (readResponse p count) s)

end Sys2Proof.Machine
end

