-- ==== Sys2Proof/Machine/Dispatch.lean ====
section
/-! DEFINITION. One arm for each row of the table. -/

namespace Sys2Proof.Machine

/-- The effect of a command on everything but the queue. -/
def exec (i : Instr) (s : State) : Host.Outcome State Fault Refusal :=
  match i with
  | .status p d => Sys2Proof.Machine.execStatus p d s
  | .events p d => Sys2Proof.Machine.execEvents p d s
  | .mask p d => Sys2Proof.Machine.execMask p d s
  | .sensor p d => Sys2Proof.Machine.execSensor p d s
  | .axis p d => Sys2Proof.Machine.execAxis p d s
  | .presetRead p d => Sys2Proof.Machine.execPresetRead p d s
  | .lightOn p d => Sys2Proof.Machine.execLightOn p d s
  | .lightOff p d => Sys2Proof.Machine.execLightOff p d s
  | .acoustic p d => Sys2Proof.Machine.execAcoustic p d s
  | .powerDown p d => Sys2Proof.Machine.execPowerDown p d s
  | .powerUp p d => Sys2Proof.Machine.execPowerUp p d s
  | .clearTrip p d => Sys2Proof.Machine.execClearTrip p d s
  | .move p d => Sys2Proof.Machine.execMove p d s
  | .home p d => Sys2Proof.Machine.execHome p d s
  | .stop p d => Sys2Proof.Machine.execStop p d s
  | .presetSave p d => Sys2Proof.Machine.execPresetSave p d s
  | .presetErase p d => Sys2Proof.Machine.execPresetErase p d s
  | .presetRecall p d => Sys2Proof.Machine.execPresetRecall p d s
  | .trims p d => Sys2Proof.Machine.execTrims p d s
  | .keystone p d => Sys2Proof.Machine.execKeystone p d s
  | .orientation p d => Sys2Proof.Machine.execOrientation p d s
  | .rebuild p d => Sys2Proof.Machine.execRebuild p d s
  | .drift p d => Sys2Proof.Machine.execDrift p d s
  | .profileWrite p d => Sys2Proof.Machine.execProfileWrite p d s
  | .profileRead p d => Sys2Proof.Machine.execProfileRead p d s
  | .resetPart p d => Sys2Proof.Machine.execResetPart p d s
  | .openTable p d => Sys2Proof.Machine.execOpenTable p d s
  | .readTable p d => Sys2Proof.Machine.execReadTable p d s
  | .takeTable p d => Sys2Proof.Machine.execTakeTable p d s
  | .dropTable p d => Sys2Proof.Machine.execDropTable p d s
  | .bankStatus p d => Sys2Proof.Machine.execBankStatus p d s
  | .unknownCommand p code d => Sys2Proof.Machine.execUnknownCommand p code d s
  | .brokenFrame p bytes bits => Sys2Proof.Machine.execBrokenFrame p bytes bits s
  | .responseRead p count => Sys2Proof.Machine.execResponseRead p count s
  | .partReset source => Sys2Proof.Machine.execPartReset source s
  | .resetEnd levels => Sys2Proof.Machine.execResetEnd levels s
  | .mainRailRise => Sys2Proof.Machine.execMainRailRise s
  | .mainRailLoss => Sys2Proof.Machine.execMainRailLoss s
  | .coverChange cover => Sys2Proof.Machine.execCoverChange cover s
  | .homeSwitchChange a asserted => Sys2Proof.Machine.execHomeSwitchChange a asserted s
  | .tachPulse fan width => Sys2Proof.Machine.execTachPulse fan width s
  | .sweepStart => Sys2Proof.Machine.execSweepStart s
  | .standbyBrdConversion => Sys2Proof.Machine.execStandbyBrdConversion s
  | .conversionComplete channel code => Sys2Proof.Machine.execConversionComplete channel code s
  | .gateEnd => Sys2Proof.Machine.execGateEnd s
  | .provingDeadlineExpiry => Sys2Proof.Machine.execProvingDeadlineExpiry s
  | .step a => Sys2Proof.Machine.execStep a s
  | .dwellExpiry a => Sys2Proof.Machine.execDwellExpiry a s
  | .buildEnd => Sys2Proof.Machine.execBuildEnd s
  | .loanExpiry => Sys2Proof.Machine.execLoanExpiry s
  | .nvWriteEnd => Sys2Proof.Machine.execNvWriteEnd s

end Sys2Proof.Machine
end

