-- ==== Sys2Proof/Machine/Timers.lean ====
section
/-! DEFINITION. The millisecond that passes when no command waits (log 5): the three timers that the
state shows. Their expiries are rows of the table, or checks at a sweep end. -/

namespace Sys2Proof.Machine

/-- The cooling timer and the proving deadline after one millisecond (R37, R44). -/
def Lps.tick (x : Lps) : Lps :=
  { x with cooling := x.cooling.map (· + 1), deadline := x.deadline.map (· - 1) }

/-- The loan timer after one millisecond (R142, R143). -/
def Bkm.tick (x : Bkm) : Bkm := { x with loan := x.loan.map (fun l => { l with left := l.left - 1 }) }

/-- One millisecond passes. -/
def passMillisecond (s : State) : State := (s.withLps s.lps.tick).withBkm s.bkm.tick

end Sys2Proof.Machine
end

