-- ==== Sys2Proof/Machine/Step.lean ====
section
/-! DEFINITION. One step: the command at the front of the queue acts, or, on an empty queue, one
millisecond passes (log 5). -/

namespace Sys2Proof.Machine

/-- The front command acts on the state with the queue's rest; an empty queue lets one millisecond
pass. -/
def step (s : State) : Host.Outcome State Fault Refusal :=
  match s.pending with
  | [] => .next (passMillisecond s)
  | i :: rest => exec i (s.withPending rest)

/-- The state with the command that a word spells at the front of its queue; the table gives no row
any bits, so none is spelled and the state is unchanged. -/
def State.withFetchWord (s : State) (nbits w : Nat) : State :=
  match decodeTableWord nbits w with
  | some i => s.withPending (i :: s.pending)
  | none => s

end Sys2Proof.Machine
end

