-- ==== Sys2Proof/Safety.lean ====
section
/-! DEFINITION. The vocabulary of the statements: what a command leaves as it was, what its answer
and its causes change in the Port Interface, and the laws that the manual states of every state
between two commands. -/

namespace Sys2Proof.Machine

/-! ## What a command leaves as it was -/

/-- The parts of the state: the twelve blocks of 00_scope.md section 3, the Port Interface as its
port records and its two attention records, and the model's own fields. -/
inductive Part
  | queue | choices | inReset | scn | afc | lps | ldu | msc | ptb | fdt | geo | bkm | ports
  | attention | nvs | prf
deriving DecidableEq, Repr

/-- A part of the state is the same in two states. -/
def samePart (x : Part) (s t : State) : Prop :=
  match x with
  | .queue => t.pending = s.pending
  | .choices => t.choices = s.choices
  | .inReset => t.inReset = s.inReset
  | .scn => t.scn = s.scn
  | .afc => t.afc = s.afc
  | .lps => t.lps = s.lps
  | .ldu => t.ldu = s.ldu
  | .msc => t.msc = s.msc
  | .ptb => t.ptb = s.ptb
  | .fdt => t.fdt = s.fdt
  | .geo => t.geo = s.geo
  | .bkm => t.bkm = s.bkm
  | .ports => t.pif.ports = s.pif.ports
  | .attention => t.pif.attnM = s.pif.attnM ∧ t.pif.attnS = s.pif.attnS
  | .nvs => t.nvs = s.nvs
  | .prf => t.prf = s.prf

/-- Every part of the state but those listed is as it was. -/
def Unchanged (except : List Part) (s t : State) : Prop := ∀ x, x ∉ except → samePart x s t

/-! ## What the Port Interface changes -/

/-- The bytes that the part drives while a frame of `count` bytes comes in: on Ports M and V the
slot byte, then zeros (R151); on Port S none (R152). -/
def drivenInFrame (p : Port) (full : Bool) (count : Nat) : List Byte :=
  match p, count with
  | .s, _ => []
  | _, 0 => []
  | _, n + 1 => (if full then 1 else 0) :: List.replicate n 0

/-- The acknowledges that the part gives while a frame of `count` bytes comes in: on Port S one for the
address and one for each byte (R152). -/
def acksOfFrame (p : Port) (count : Nat) : Nat := if p = .s then count + 1 else 0

/-- A taken command was answered on its port: the slot holds the response, with OVERRUN set when an
unread one was lost (R156); the frame-loss count and the other ports are as they were. The bytes driven
and the acknowledges given are the model's record of outputs (log 40). -/
def Answered (p : Port) (code : Byte) (payload : List Byte) (r : Result) (answer : List Byte)
    (s t : State) : Prop :=
  t.pif.ports = s.pif.ports.set p
    { slot := some ⟨r, code, (s.port p).slot.isSome, answer⟩,
      frameLoss := (s.port p).frameLoss,
      sent := drivenInFrame p (s.port p).slot.isSome (payload.length + 2),
      acked := acksOfFrame p (payload.length + 2) }

/-- Causes joined the pending set of one attention record, and its line follows the set and the mask
(R164, R165). -/
def Joined (x : CauseSet) (a b : Attention) : Prop :=
  b.pending = a.pending ||| x ∧ b.mask = a.mask ∧ b.attn = attnLevel b.pending b.mask

/-- Causes joined the pending sets of Port M and Port S. -/
def JoinedBoth (x : CauseSet) (s t : State) : Prop :=
  Joined x s.pif.attnM t.pif.attnM ∧ Joined x s.pif.attnS t.pif.attnS

/-- Causes joined the pending set of Port M alone. -/
def JoinedM (x : CauseSet) (s t : State) : Prop :=
  Joined x s.pif.attnM t.pif.attnM ∧ t.pif.attnS = s.pif.attnS

/-- The row of a command of R160. -/
def commandRow (c : Cmd) (p : Port) (d : List Byte) : Instr :=
  match c with
  | .status => .status p d
  | .events => .events p d
  | .mask => .mask p d
  | .sensor => .sensor p d
  | .axis => .axis p d
  | .presetRead => .presetRead p d
  | .lightOn => .lightOn p d
  | .lightOff => .lightOff p d
  | .acoustic => .acoustic p d
  | .powerDown => .powerDown p d
  | .powerUp => .powerUp p d
  | .clearTrip => .clearTrip p d
  | .move => .move p d
  | .home => .home p d
  | .stop => .stop p d
  | .presetSave => .presetSave p d
  | .presetErase => .presetErase p d
  | .presetRecall => .presetRecall p d
  | .trims => .trims p d
  | .keystone => .keystone p d
  | .orientation => .orientation p d
  | .rebuild => .rebuild p d
  | .drift => .drift p d
  | .profileWrite => .profileWrite p d
  | .profileRead => .profileRead p d
  | .resetPart => .resetPart p d
  | .openTable => .openTable p d
  | .readTable => .readTable p d
  | .takeTable => .takeTable p d
  | .dropTable => .dropTable p d
  | .bankStatus => .bankStatus p d

/-- A payload holds an operand outside the encoding of its kind (R159, R160, R166). Payloads of
another length than the command's are refused before this check (R155). -/
def outsideEncoding (c : Cmd) (d : List Byte) : Bool :=
  match c, d with
  | .mask, [hi, lo] => decide (4096 ≤ word2 hi lo)
  | .sensor, [b] | .presetRead, [b] | .presetErase, [b] => decide (10 ≤ b.toNat)
  | .axis, [b] => decide (4 ≤ b.toNat)
  | .acoustic, [b] | .orientation, [b] => decide (3 ≤ b.toNat)
  | .keystone, [b] | .drift, [b] => decide (2 ≤ b.toNat)
  | .stop, [x] | .home, [x, _] => decide (16 ≤ x.toNat)
  | .presetRecall, [n, _] => decide (10 ≤ n.toNat)
  | .move, [a, k, _, _, m, f, _] =>
    decide (4 ≤ a.toNat) || decide (2 ≤ k.toNat) || decide (2 ≤ m.toNat) ||
      (decide (4 ≤ f.toNat) && f != 0xFF)
  | .presetSave, n :: x :: y :: label =>
    decide (10 ≤ n.toNat) || decide (16 ≤ x.toNat) || decide (2 ≤ y.toNat) ||
      label.any (fun b => decide (b.toNat < 32) || decide (126 < b.toNat))
  | .profileWrite, k :: _ => decide (5 ≤ k.toNat)
  | .profileRead, [k, _, _, n] => decide (5 ≤ k.toNat) || n == 0 || decide (252 < n.toNat)
  | _, _ => false

/-- Whole bytes that are no complete frame: fewer or more than n + 2 (R154). -/
def brokenBytes : List Byte → Prop
  | [] => False
  | [_] => True
  | _ :: n :: rest => rest.length ≠ n.toNat

/-- A broken frame (R151, R152, R154): on Port S by its bytes; on Ports M and V, unless the first
byte makes it a response read, by its bytes or by an unfinished byte. -/
def brokenExchange (p : Port) (bytes : List Byte) (bits : Nat) : Prop :=
  match p with
  | .s => brokenBytes bytes
  | _ => bytes.head? ≠ some 0xFF ∧ (bits ≠ 0 ∨ brokenBytes bytes)

/-! ## What a build request, a mark of the store and a stop of the light change -/

/-- A build was asked for (R121): in BUILDING the pending flag is set and the running build keeps its
snapshot and bank; in IDLE a build starts with a fresh snapshot and a bank from BKM (R136). -/
def BuildAsked (s t : State) : Prop :=
  t.geo.building = true ∧ t.geo.lastReject = s.geo.lastReject ∧
  (s.geo.building = true → t.geo.pendingBuild = true ∧ t.geo.snapshot = s.geo.snapshot ∧
    t.bkm = s.bkm) ∧
  (s.geo.building = false → t.geo.pendingBuild = false ∧ t.geo.snapshot = some (takeSnapshot t) ∧
    t.bkm = s.bkm.takeForBuild)

/-- An item is dirty or its present working copy is being written (R171). -/
def Marked (i : Item) (t : State) : Prop :=
  i ∈ t.nvs.dirty ∨ t.nvs.inFlight = some (copyItem t i)

/-- The record of LPS in a power state without light (R51): nothing else of it changes but CUT_OK
(R45) and the proving deadline, which is stopped. -/
def darkIn (x : Lps) (p : Power) : Lps :=
  { x with power := p, cutOk := p == .cooled || p == .off, deadline := none, lightEn := false,
           lightLevel := 0, request := none, derate := 1000, effLimit := 1000 }

/-- Every fan is kicked and the gate restarts (R26, R29). -/
def FansKicked (s t : State) : Prop :=
  t.afc.mode = s.afc.mode ∧ t.afc.heat = s.afc.heat ∧ (∀ f, t.afc.pulses.get f = 0) ∧
  ∀ f, t.afc.fans.get f = { s.afc.fans.get f with
    state := .kick, duty := 1000, kick := 0, proving := 0, stall := 0 }

/-- The record of LPS at a STARTING entry (R37): the fans unproven, the deadline 8 s away. -/
def startingFrom (x : Lps) : Lps :=
  { darkIn x .starting with proven := false, deadline := some 8000 }

/-- The set of the fans that do not run (R38, R48). -/
def unprovenFans (s : State) : PerFan Bool :=
  ⟨s.afc.fans.f0.state != .running, s.afc.fans.f1.state != .running,
    s.afc.fans.f2.state != .running⟩

/-- What a completed conversion makes of its channel record (R7, R9, R10, R11): the record before, the
code, its temperature (none on channels 8 and 9), the record after. -/
def Converted (r : ChannelRecord) (code : Int) (value : Option Int) (q : ChannelRecord) : Prop :=
  let raised : Condition := if code < 16 then .short else .opened
  let history : List Int := match value with
    | none => r.history
    | some x => (x :: r.history).take 3
  (r.condition = .unpowered → q = r) ∧
  ((r.condition = .waiting ∨ r.condition = .normal) → 16 ≤ code → code ≤ 4079 →
    q = { r with raw := some code, condition := .normal, outRun := 0, history := history,
                 temp := filtered history }) ∧
  ((r.condition = .waiting ∨ r.condition = .normal) → (code < 16 ∨ 4079 < code) →
    (r.outRun < 2 → q = { r with raw := some code, outRun := r.outRun + 1 }) ∧
    (2 ≤ r.outRun → q = { r with
      raw := some code, outRun := 3, inRun := 0, condition := raised, causeDue := true })) ∧
  ((r.condition = .short ∨ r.condition = .opened) → (code < 16 ∨ 4079 < code) →
    q = { r with raw := some code, inRun := 0, condition := raised }) ∧
  ((r.condition = .short ∨ r.condition = .opened) → 16 ≤ code → code ≤ 4079 →
    (r.inRun < 2 → q = { r with raw := some code, history := history, inRun := r.inRun + 1 }) ∧
    (2 ≤ r.inRun → q = { r with
      raw := some code, history := history, condition := .normal, outRun := 0, inRun := 0,
      temp := filtered history, causeDue := true }))

/-- The record whose values a sweep end has presented (R2). -/
def presentedAs (q : ChannelRecord) : ChannelRecord :=
  { q with shown := ⟨q.raw, q.condition, q.temp⟩, causeDue := false }

/-- A cause is held on Port M and Port S. -/
def HeldOnBoth (c : Cause) (t : State) : Prop :=
  causeHeld t.pif.attnM.pending c = true ∧ causeHeld t.pif.attnS.pending c = true

/-- A cause is held on neither port that did not hold it before. -/
def HeldAsBefore (c : Cause) (s t : State) : Prop :=
  causeHeld t.pif.attnM.pending c = causeHeld s.pif.attnM.pending c ∧
    causeHeld t.pif.attnS.pending c = causeHeld s.pif.attnS.pending c

/-- SENSOR is raised on both ports when it is due, and not otherwise (R2). -/
def SensorRaisedIf (due : Prop) (s t : State) : Prop :=
  (due → HeldOnBoth .sensor t) ∧ (¬due → HeldAsBefore .sensor s t)

/-- LSH is in a fault condition (R47). -/
def lshFaulted (s : State) : Prop :=
  (s.channel .lsh).condition = .short ∨ (s.channel .lsh).condition = .opened

/-- A thermistor channel is NORMAL and at or above its trip temperature (R47). -/
def tooHot (s : State) (c : Channel) : Prop :=
  (s.channel c).condition = .normal ∧ ∃ x, (s.channel c).temp = some x ∧ tripTemp s c ≤ x

/-- No temperature condition of R47 holds. -/
def NoTripDue (s : State) : Prop := ¬lshFaulted s ∧ ∀ c ∈ thermistors, ¬tooHot s c

/-- The derate limit after an update at a temperature (R53). -/
def derateNext (s : State) (current x : Int) : Int :=
  if limitAt s x ≤ current then limitAt s x else max current (limitAt s (x + derateHyst s))

/-- The smallest of a derate limit and the caps in force (R50, R54, R55). -/
def limitUnder (s : State) (d : Int) : Int :=
  min d (min
    (if s.afc.mode = .quiet ∧ (s.afc.fans.f0.capped || s.afc.fans.f1.capped ||
        s.afc.fans.f2.capped) = true then 850 else 1000)
    (if failedCount s.afc.fans = 1 then 600 else 1000))

/-- In LIT the light follows an LSH temperature: the derate update, the effective limit and
LIGHT_LEVEL, and LIGHT exactly when the effective limit leaves or returns to 1000 (R50, R51, R53,
R56). The parameters are those of the state after. -/
def LightFollows (x : Int) (s t : State) : Prop :=
  let d := derateNext t s.lps.derate x
  let e := limitUnder t d
  let crosses : Prop := ¬(s.lps.effLimit = 1000 ↔ e = 1000)
  t.lps = { s.lps with derate := d, effLimit := e, lightLevel := min (s.lps.request.getD 0) e } ∧
  (crosses → HeldOnBoth .light t) ∧ (¬crosses → HeldAsBefore .light s t)

/-- No axis but those listed has changed. -/
def OnlyAxes (l : List Axis) (s t : State) : Prop := ∀ a, a ∉ l → t.axis a = s.axis a

/-- No request waits on any axis (R85). -/
def NonePending (s : State) : Prop := ∀ a, s.msc.pending.get a = none

/-- A pending record is eligible (R90). -/
def Eligible (s : State) (q : Request) : Prop :=
  running s q.axis = false ∧
  (∀ f, q.follow = some f → running s f = false ∧ s.msc.pending.get f = none) ∧
  (q.source = .drift → s.lps.power = .lit)

/-- The position that a request for a move leads to from a position (R66). -/
def goalFrom (s : State) (a : Axis) (p : Int) (k : ReqKind) : Int :=
  clamp 0 (axisMaximum s a) (match k with
    | .absolute v => v
    | .relative v => p + v
    | .home => 0)

/-- The steps of a path from `p` to `goal` that begins after a reversal dwell (R67). -/
def stepsTo (p goal approach : Int) : Int :=
  if p < goal then goal - p else (p - approach) + (goal - approach)

/-- A request starts its axis when it is granted, and takes a slot (R66, R76). -/
def StartsWhenGranted (s : State) (a : Axis) (q : Request) : Prop :=
  q.kind = .home ∨ ∃ p, (s.axis a).position = some p ∧
    ¬((s.axis a).switch = true ∧ 200 < p) ∧ goalFrom s a p q.kind ≠ p

/-- The record of an axis that has come to rest in IDLE at a position (R60, R61, R63, R68). -/
def restingAt (s : State) (a : Axis) (p : Int) : AxisRecord :=
  { s.axis a with
    state := .idle, position := some p, phase := none, endAction := none, remaining := 0,
    dwell := none, slot := none, drvEn := false, direction := (s.axis a).lastStep,
    maxInForce := max (axisMaximum s a) p }

/-! ## The laws of every state -/

/-- Attention (R165): each line is asserted exactly while its set holds an unmasked cause or TRIP,
and no mask holds TRIP. During a part reset sets and masks are empty, so the lines are released. -/
def AttentionLaw (s : State) : Prop :=
  s.pif.attnM.attn = attnLevel s.pif.attnM.pending s.pif.attnM.mask ∧
  s.pif.attnS.attn = attnLevel s.pif.attnS.pending s.pif.attnS.mask ∧
  causeHeld s.pif.attnM.mask .trip = false ∧ causeHeld s.pif.attnS.mask .trip = false

/-- No trip condition of a gate end holds (R47). -/
def FansFit (s : State) : Prop :=
  s.afc.fans.f2.state ≠ .failed ∧ failedCount s.afc.fans < 2

/-- What holds while the light is on (R40, R42, R50, R51, R55). -/
def LightLaw (s : State) : Prop :=
  s.lps.cover = .closed ∧ s.lps.effLimit ≤ s.lps.derate ∧
  (failedCount s.afc.fans = 1 → s.lps.effLimit ≤ 600) ∧
  ∃ r, s.lps.request = some r ∧ 100 ≤ r ∧ r ≤ 1000 ∧ s.lps.lightLevel = min r s.lps.effLimit

/-- What holds while the light is off (R51). -/
def DarkLaw (s : State) : Prop :=
  s.lps.lightLevel = 0 ∧ s.lps.request = none ∧ s.lps.derate = 1000 ∧ s.lps.effLimit = 1000

/-- The Light and Power Supervisor (R37, R38, R43 to R48, R51, R173): CUT_OK in COOLED and OFF
outside a part reset; LIGHT_EN in LIT alone; the trip latch in TRIPPED, COOLING and COOLED alone and
always in TRIPPED; the timers in their states; the fans proven in READY and LIT; no fan condition
left untripped. -/
def PowerLaw (s : State) : Prop :=
  s.lps.cutOk = (!s.inReset && cutAllowed s.lps.power) ∧
  (s.inReset = true → s.lps.power = .off) ∧
  s.lps.lightEn = (s.lps.power == .lit) ∧
  (s.lps.power = .lit → LightLaw s) ∧
  (s.lps.power ≠ .lit → DarkLaw s) ∧
  (s.lps.latch = true →
    s.lps.power = .tripped ∨ s.lps.power = .cooling ∨ s.lps.power = .cooled) ∧
  (s.lps.power = .tripped → s.lps.latch = true) ∧
  (s.lps.cooling.isSome = true ↔ s.lps.power = .cooling ∨ s.lps.power = .cooled) ∧
  (s.lps.deadline.isSome = true ↔ s.lps.power = .starting) ∧
  (s.lps.power = .ready ∨ s.lps.power = .lit → s.lps.proven = true) ∧
  (tripTested s.lps.power = true → s.lps.latch = false → FansFit s)

/-- What an axis record satisfies between commands: the driver is enabled exactly while a slot is
held, only a moving or homing axis holds one, and exactly a LOST axis has no position (R60, R62,
R63). -/
def AxisRecord.Sound (r : AxisRecord) : Prop :=
  r.drvEn = r.slot.isSome ∧ (r.slot.isSome → r.state = .moving ∨ r.state = .homing) ∧
    (r.state = .lost ↔ r.position = none)

/-- The lens axes (R62, R63): every record is sound, and a slot is held by at most one axis. -/
def LensLaw (s : State) : Prop :=
  (∀ a, (s.axis a).Sound) ∧
  ∀ a b d, (s.axis a).slot = some d → (s.axis b).slot = some d → a = b

/-- Where a leg leads, seen from a position: at least one step ahead, within 0..`top`. -/
def legAhead (d : Direction) (p goal top : Int) : Prop :=
  match d with
  | .positive => p < goal ∧ goal ≤ top
  | .negative => 0 ≤ goal ∧ goal < p

/-- What keeps the position of an axis within its maximum in force (R60): the maximum in force covers
the profile maximum `top` and the position; while a move is in force the axis runs in a phase of a
move or is YIELDED, its target lies in range, the leg in progress and the return leg lead ahead
within the range, and a stop ramp ends within its leg (R68, R70). A dwell stands in REVERSE alone. -/
def AxisRecord.Within (r : AxisRecord) (top : Int) : Prop :=
  top ≤ r.maxInForce ∧
  (∀ p, r.position = some p → 0 ≤ p ∧ p ≤ r.maxInForce) ∧
  (r.dwell.isSome = true → r.phase = some .reverse) ∧
  (r.state = .moving →
    ((r.phase = some .yielded ∧ r.slot = none) ∨ (r.slot.isSome = true ∧
      (r.phase = some .travel ∨ r.phase = some .overshootReturn ∨ r.phase = some .stopRamp ∨
        r.phase = some .reverse))) ∧
    r.dwell ≠ some .seek ∧ r.dwell ≠ some .release ∧
    (∀ t, r.target = some t → 0 ≤ t ∧ t ≤ top) ∧
    ∀ p, r.position = some p →
      (r.phase = some .travel ∨ r.phase = some .overshootReturn →
        legAhead r.direction p r.legEnd r.maxInForce ∧
        (r.direction = .negative → ∃ t, r.target = some t ∧ r.legEnd ≤ t)) ∧
      (r.phase = some .stopRamp → r.endAction.isSome = true ∧ 1 ≤ r.remaining ∧
        legAhead r.direction p (p + stepBy r.direction * r.remaining) r.maxInForce) ∧
      (r.dwell = some .returnLeg → ∃ t, r.target = some t ∧ p < t))

/-- The positions of the lens (R60): the profile holds its four axes with maximum and backlash in
range (R169), and every axis record keeps within its maximum in force. -/
def BoundLaw (s : State) : Prop :=
  s.prf.axis.length = 21 ∧ ∀ a, 0 ≤ axisMaximum s a ∧ 0 ≤ axisBacklash s a ∧
    (s.axis a).Within (axisMaximum s a)

/-- Each record of the pending list stands in its own axis's place (R85). -/
def Msc.Placed (x : Msc) : Prop := ∀ a q, x.pending.get a = some q → q.axis = a

/-- The pending list (R74, R85, R87): each record stands in its own axis's place, a HOME is HELD, a
running axis has no pending record, and a YIELDED axis, which is MOVING without a slot, has its
remainder pending. -/
def RequestLaw (s : State) : Prop :=
  s.msc.Placed ∧
  (∀ a q, s.msc.pending.get a = some q → q.kind = .home → q.mode = .held) ∧
  (∀ a, running s a = true → s.msc.pending.get a = none) ∧
  (∀ a, yielded s a = true →
    (s.axis a).state = .moving ∧ (s.axis a).slot = none ∧ (s.msc.pending.get a).isSome = true)

/-- The table banks (R135, R136): the line, one bank to a role, a BUILD bank exactly while a build
runs, the loan and its bank, and the generations. -/
def BankLaw (s : State) : Prop :=
  s.bkm.tblRdy = (bankIn s.bkm.banks .ready).isSome ∧
  (∀ r, r ≠ .idle → ∀ i j, (s.bkm.banks.get i).role = r → (s.bkm.banks.get j).role = r → i = j) ∧
  s.geo.building = (bankIn s.bkm.banks .build).isSome ∧
  (s.geo.building = true → s.geo.snapshot.isSome = true) ∧
  s.bkm.loan.map Loan.bank = bankIn s.bkm.banks .loaned ∧
  (∀ l, s.bkm.loan = some l → (s.bkm.banks.get l.bank).gen = l.gen) ∧
  (∀ i, (s.bkm.banks.get i).role = .idle ∨ (s.bkm.banks.get i).role = .build →
    (s.bkm.banks.get i).gen = 0) ∧
  (∀ i, (s.bkm.banks.get i).gen ≤ 65535) ∧ s.bkm.counter ≤ 65535 ∧ s.bkm.expiries ≤ 65535

/-- A bank holds a table that someone may fetch or use (R135). -/
def offered (r : Role) : Bool := r == .ready || r == .loaned || r == .live

/-- The images (R135, R136, R139, R141): each is in canonical form within its 3776 bytes, and that of
a READY, LOANED or LIVE bank is the whole image of a build that passed every check. -/
def ImageLaw (s : State) : Prop :=
  (∀ i, Memory.wf (s.bkm.banks.get i).image = true ∧
    ∀ c ∈ (s.bkm.banks.get i).image, c.1 < imageLength) ∧
  ∀ i, offered (s.bkm.banks.get i).role = true →
    ∃ x, buildVerdict x = .none ∧
      (s.bkm.banks.get i).image = Memory.ofBytes 0 (imageBytes (s.bkm.banks.get i).gen x)

/-- The store (R171, R172): the dirty set lists each item once by rising number, and waits only while
a write is in flight; every item that was written whole carries the check value of its bytes. -/
def StoreLaw (s : State) : Prop :=
  s.nvs.dirty.Pairwise (fun i j => itemNumber i < itemNumber j) ∧
  (s.nvs.inFlight = none → s.nvs.dirty = []) ∧
  (∀ n c k, s.nvs.slots.get n = .written c k → k = presetCheck c) ∧
  (∀ c k, s.nvs.geometry = .written c k → k = settingsCheck c)

/-- Sensing (R1, R3 to R6, R13, R14): a main-rail channel is UNPOWERED exactly while the rail is
down, BRD never; a full sweep runs only while it is up; the window holds at most sixteen pairs with
their sums; T stays within the tangent of 30 degrees. -/
def ScanLaw (s : State) : Prop :=
  (∀ c ∈ mainRailChannels, (s.channel c).condition = .unpowered ↔ s.lps.power = .off) ∧
  (s.channel .brd).condition ≠ .unpowered ∧
  (∀ c, s.scn.conversion = .sweep c → s.lps.power ≠ .off) ∧
  s.scn.window.length ≤ 16 ∧
  s.scn.ysum = sumOf Prod.fst s.scn.window ∧ s.scn.zsum = sumOf Prod.snd s.scn.window ∧
  -5774 ≤ s.scn.tangent ∧ s.scn.tangent ≤ 5774

end Sys2Proof.Machine
end

