-- ==== Sys2Proof/Certificates/Slice0/Obligations.lean ====
section
/-! DEFINITION. The statements about the model, in the order of OBLIGATIONS.json. A clause that rests
on a row of notes/assumptions names it. -/

open Sys2Proof Sys2Proof.Machine

/-! ## The queue, the laws, and part reset -/

/-- A step runs the command at the front of the queue on the state with the queue's rest. -/
def Obligations.StepRunsFrontCommand : Prop :=
  ∀ (c : Instr) (q : List Instr) (s : State),
    step (s.withPending (c :: q)) = exec c (s.withPending q)

/-- On an empty queue one millisecond passes: the cooling timer, the proving deadline and the loan
timer move on, and nothing else changes (log 5). -/
def Obligations.EmptyQueueLetsOneMillisecondPass : Prop :=
  ∀ s : State, s.pending = [] → ∃ t, step s = .next t ∧ Unchanged [.lps, .bkm] s t ∧
    t.lps = { s.lps with cooling := s.lps.cooling.map (fun n => n + 1),
                         deadline := s.lps.deadline.map (fun n => n - 1) } ∧
    t.bkm = { s.bkm with loan := s.bkm.loan.map (fun l => { l with left := l.left - 1 }) }

/-- Every command answers a next state, and leaves the queue alone. -/
def Obligations.EveryCommandAnswersAndLeavesTheQueue : Prop :=
  ∀ (i : Instr) (s : State), ∃ t, exec i s = .next t ∧ t.pending = s.pending

/-- The fields listed hold, at power-up, the values that the rules state for part reset. -/
def Obligations.ResetStateHoldsTheResetValues : Prop :=
  State.reset.inReset = true ∧
  (∀ c, (State.reset.channel c).raw = none ∧ (State.reset.channel c).history = [] ∧
    (State.reset.channel c).temp = none ∧ (State.reset.channel c).outRun = 0 ∧
    (State.reset.channel c).inRun = 0) ∧
  (State.reset.channel .brd).condition = .waiting ∧
  State.reset.scn.window = [] ∧ State.reset.scn.ysum = 0 ∧ State.reset.scn.zsum = 0 ∧
  State.reset.scn.tangent = 0 ∧ State.reset.scn.detected = .floor ∧
  State.reset.scn.motion = false ∧
  State.reset.afc.mode = .standard ∧
  (∀ f, State.reset.afc.fans.get f = ⟨.stopped, 0, false, 0, 0, 0, 0, 0⟩ ∧
    State.reset.afc.pulses.get f = 0) ∧
  (∀ c ∈ thermistors, State.reset.afc.heat.get c = some 1000) ∧
  State.reset.lps.power = .off ∧ State.reset.lps.latch = false ∧
  State.reset.lps.lastTrip = none ∧ State.reset.lps.proven = false ∧
  State.reset.lps.deadline = none ∧ State.reset.lps.cooling = none ∧
  State.reset.lps.request = none ∧ State.reset.lps.derate = 1000 ∧
  State.reset.lps.effLimit = 1000 ∧ State.reset.lps.unplanned = false ∧
  State.reset.lps.lightEn = false ∧ State.reset.lps.lightLevel = 0 ∧
  State.reset.lps.cutOk = false ∧
  (∀ a, let r := State.reset.axis a
    r.state = .lost ∧ r.position = none ∧ r.maxInForce = axisMaximum State.reset a ∧
    r.target = none ∧ r.start = none ∧ r.direction = .positive ∧ r.phase = none ∧
    r.endAction = none ∧ r.slot = none ∧ r.tag = none ∧ r.source = none ∧ r.mode = none ∧
    r.rate = none ∧ r.remaining = 0 ∧ r.segment = 0 ∧ r.drvEn = false ∧ r.dirHigh = false) ∧
  NonePending State.reset ∧ State.reset.msc.favoured = .hs ∧ State.reset.msc.group = none ∧
  (∀ a, State.reset.msc.last.get a = ⟨none, none, none, none⟩) ∧
  (∀ n, State.reset.ptb.slots.get n = none) ∧
  State.reset.fdt = ⟨true, none, 0, .suspended, none⟩ ∧
  State.reset.geo.settings = ⟨⟨⟨0, 0⟩, ⟨0, 0⟩, ⟨0, 0⟩, ⟨0, 0⟩⟩, true, .auto⟩ ∧
  State.reset.geo.building = false ∧ State.reset.geo.pendingBuild = false ∧
  State.reset.geo.snapshot = none ∧
  State.reset.geo.lastReject = .none ∧
  (∀ b, (State.reset.bkm.banks.get b).role = .idle ∧ (State.reset.bkm.banks.get b).gen = 0 ∧
    ∀ x, (State.reset.bkm.banks.get b).image.read x = 0) ∧
  State.reset.bkm.counter = 0 ∧ State.reset.bkm.loan = none ∧ State.reset.bkm.expiries = 0 ∧
  State.reset.bkm.tblRdy = false ∧
  (∀ p, (State.reset.port p).slot = none ∧ (State.reset.port p).frameLoss = 0) ∧
  State.reset.pif.attnM = ⟨0, 0, false⟩ ∧ State.reset.pif.attnS = ⟨0, 0, false⟩ ∧
  State.reset.nvs.dirty = [] ∧ State.reset.nvs.inFlight = none ∧
  State.reset.prf = defaultProfile

/-- A part reset, from each of its three sources: every block takes its values of part reset; only
the store is kept, but a write in flight is cut off and its item damaged; the presets and the
geometry settings are loaded from the items whose check value matches their bytes, whose layout is
free (log 8). The values of part reset that the rules do not give are the model's (log 7, 38, 40). The
queue and the model's count of free orders stay (log 7, 37). -/
def Obligations.PartResetTakesResetValuesAndLoadsTheStore : Prop :=
  ∀ (i : Instr) (s : State),
    ((∃ x, i = .partReset x) ∨ (i = .resetPart .s [] ∧ s.inReset = false)) →
    ∃ t, exec i s = .next t ∧ t.inReset = true ∧ t.pending = s.pending ∧ t.choices = s.choices ∧
      t.scn = State.reset.scn ∧ t.afc = State.reset.afc ∧ t.lps = State.reset.lps ∧
      t.ldu = State.reset.ldu ∧ t.msc = State.reset.msc ∧ t.fdt = State.reset.fdt ∧
      t.bkm = State.reset.bkm ∧ t.pif = State.reset.pif ∧ t.prf = State.reset.prf ∧
      t.nvs.dirty = [] ∧ t.nvs.inFlight = none ∧
      (∀ n, (∃ c, s.nvs.inFlight = some (.preset n c)) → t.nvs.slots.get n = .damaged) ∧
      (∀ n, (¬∃ c, s.nvs.inFlight = some (.preset n c)) →
        t.nvs.slots.get n = s.nvs.slots.get n) ∧
      ((∃ c, s.nvs.inFlight = some (.geometry c)) → t.nvs.geometry = .damaged) ∧
      ((¬∃ c, s.nvs.inFlight = some (.geometry c)) → t.nvs.geometry = s.nvs.geometry) ∧
      (∀ n, t.ptb.slots.get n = match t.nvs.slots.get n with
        | .damaged => none
        | .written p k => if k = presetCheck p then p else none) ∧
      t.geo = { State.reset.geo with settings := match t.nvs.geometry with
        | .damaged => ⟨⟨⟨0, 0⟩, ⟨0, 0⟩, ⟨0, 0⟩, ⟨0, 0⟩⟩, true, .auto⟩
        | .written g k => if k = settingsCheck g then g
          else ⟨⟨⟨0, 0⟩, ⟨0, 0⟩, ⟨0, 0⟩, ⟨0, 0⟩⟩, true, .auto⟩ }

/-- The end of a part reset: both cause sets hold PART_RESET, the cover and the home switches are
read, SCN starts with a sweep or a standby conversion, LPS enters STARTING and the fans are kicked
with MAIN_GOOD high, CUT_OK is asserted in OFF with it low, and a build is asked for. The presented
values of the main-rail channels follow their conditions at once (log 11), and the conversion begins
with this row (log 13). -/
def Obligations.ResetEndStartsOperation : Prop :=
  ∀ (x : InputLevels) (s : State), s.inReset = true →
    ∃ t, exec (.resetEnd x) s = .next t ∧
      Unchanged [.inReset, .scn, .afc, .lps, .ldu, .geo, .bkm, .attention] s t ∧
      t.inReset = false ∧ t.lps.cover = x.cover ∧
      (∀ a, t.axis a = { s.axis a with switch := x.homes.get a }) ∧
      t.pif.attnM.mask = 0 ∧ t.pif.attnS.mask = 0 ∧ t.pif.attnM.attn = true ∧
      t.pif.attnS.attn = true ∧ causeHeld t.pif.attnM.pending .partReset = true ∧
      causeHeld t.pif.attnS.pending .partReset = true ∧
      t.channel .brd = s.channel .brd ∧ t.geo.settings = s.geo.settings ∧ BuildAsked s t ∧
      (x.mainGood = true → t.lps = startingFrom { s.lps with cover := x.cover } ∧
        FansKicked s t ∧ t.scn.conversion = .sweep .lsh ∧
        ∀ c ∈ mainRailChannels, t.channel c = blankChannel .waiting) ∧
      (x.mainGood = false → t.lps = { s.lps with cover := x.cover, cutOk := true } ∧
        t.afc = s.afc ∧ t.scn.conversion = .standby ∧
        t.pif.attnM.pending = causeBit .partReset ∧ t.pif.attnS.pending = causeBit .partReset ∧
        ∀ c ∈ mainRailChannels, t.channel c = blankChannel .unpowered)

/-- From the start of a part reset until its end no other command acts (log 39). -/
def Obligations.DuringAPartResetNothingElseActs : Prop :=
  ∀ (i : Instr) (s : State), s.inReset = true → (∀ x, i ≠ .partReset x) → (∀ x, i ≠ .resetEnd x) →
    exec i s = .next s

/-- Every law of Sys2Proof/Safety.lean holds of the state at power-up. -/
def Obligations.EveryLawHoldsAtReset : Prop :=
  AttentionLaw State.reset ∧ PowerLaw State.reset ∧ LensLaw State.reset ∧
    RequestLaw State.reset ∧ BoundLaw State.reset ∧ BankLaw State.reset ∧
    ImageLaw State.reset ∧ StoreLaw State.reset ∧ ScanLaw State.reset

/-- Every step keeps the law of the ATTN lines. -/
def Obligations.EveryStepKeepsTheAttentionLaw : Prop :=
  ∀ s t : State, AttentionLaw s → step s = .next t → AttentionLaw t

/-- Every step keeps the law of the light, the trips and the cut permission. -/
def Obligations.EveryStepKeepsThePowerLaw : Prop :=
  ∀ s t : State, PowerLaw s → step s = .next t → PowerLaw t

/-- Every step keeps the law of the lens axes and drive slots, beside it the law of the pending list,
and beside it the law that bounds every known position by its maximum in force. -/
def Obligations.EveryStepKeepsTheLensLaw : Prop :=
  ∀ s t : State, LensLaw s → step s = .next t →
    LensLaw t ∧ (RequestLaw s → RequestLaw t) ∧ (BoundLaw s → BoundLaw t)

/-- Every step keeps the law of the table banks. -/
def Obligations.EveryStepKeepsTheBankLaw : Prop :=
  ∀ s t : State, BankLaw s → step s = .next t → BankLaw t

/-- Every step keeps the images canonical, and every offered one the whole image of a build that
passed its checks, in a state whose banks are lawful. -/
def Obligations.EveryStepKeepsTheImageLaw : Prop :=
  ∀ s t : State, BankLaw s → ImageLaw s → step s = .next t → ImageLaw t

/-- Every step keeps the law of the store. -/
def Obligations.EveryStepKeepsTheStoreLaw : Prop :=
  ∀ s t : State, StoreLaw s → step s = .next t → StoreLaw t

/-- Every step keeps the law of sensing, in a state whose power record is lawful. -/
def Obligations.EveryStepKeepsTheScanLaw : Prop :=
  ∀ s t : State, PowerLaw s → ScanLaw s → step s = .next t → ScanLaw t

/-! ## The Port Interface -/

/-- The first three checks of a taken command, in their order (R155); a refusal changes the port's
slot and nothing else. -/
def Obligations.PifChecksCodePortAndLengthInOrder : Prop :=
  ∀ s : State, s.inReset = false →
    (∀ p code d, (∀ c, cmdCode c ≠ code) → (p = .s ∨ code ≠ 0xFF) → d.length ≤ 255 →
      ∃ t, exec (.unknownCommand p code d) s = .next t ∧
        Answered p code d .unknown [] s t ∧ Unchanged [.ports] s t) ∧
    (∀ c p d, cmdPermitted c p = false →
      ∃ t, exec (commandRow c p d) s = .next t ∧
        Answered p (cmdCode c) d .notPermitted [] s t ∧ Unchanged [.ports] s t) ∧
    (∀ c p d, cmdPermitted c p = true → cmdLengthOk c d.length = false →
      ∃ t, exec (commandRow c p d) s = .next t ∧
        Answered p (cmdCode c) d .badLength [] s t ∧ Unchanged [.ports] s t)

/-- The fourth check: an operand outside the encoding of its kind is answered BAD_VALUE (R155). -/
def Obligations.PifRefusesOperandsOutsideTheirEncoding : Prop :=
  ∀ (c : Cmd) (p : Port) (d : List Byte) (s : State), s.inReset = false →
    cmdPermitted c p = true → cmdLengthOk c d.length = true → outsideEncoding c d = true →
    ∃ t, exec (commandRow c p d) s = .next t ∧
      Answered p (cmdCode c) d .badValue [] s t ∧ Unchanged [.ports] s t

/-- A broken frame is counted, leaves the slot as it was, and raises FRAME on its own port (R154);
on Port S its address and each of its bytes is acknowledged (R152). What the part drove meanwhile is
the model's record of an output (log 40). -/
def Obligations.BrokenFrameIsCountedAndRaisesFrame : Prop :=
  ∀ (p : Port) (bytes : List Byte) (bits : Nat) (s : State), s.inReset = false →
    brokenExchange p bytes bits →
    ∃ t, exec (.brokenFrame p bytes bits) s = .next t ∧ Unchanged [.ports, .attention] s t ∧
      t.pif.ports = s.pif.ports.set p
        { slot := (s.port p).slot, frameLoss := min 255 ((s.port p).frameLoss + 1),
          sent := drivenInFrame p (s.port p).slot.isSome
            (if bits = 0 then bytes.length else bytes.length + 1),
          acked := if p = .s then bytes.length + 1 else 0 } ∧
      (p = .m → Joined (causeBit .frame) s.pif.attnM t.pif.attnM ∧ t.pif.attnS = s.pif.attnS) ∧
      (p = .s → Joined (causeBit .frame) s.pif.attnS t.pif.attnS ∧ t.pif.attnM = s.pif.attnM) ∧
      (p = .v → Unchanged [.ports] s t)

/-- A response read empties the slot and clocks out the record, zeros after it, behind the slot byte
on Ports M and V; on Port S its address is acknowledged (R152, R156 to R158). -/
def Obligations.ResponseReadClocksOutTheRecord : Prop :=
  ∀ (p : Port) (n : Nat) (s : State), s.inReset = false →
    let record : List Byte := match (s.port p).slot with
      | none => [1, 0, 0, 0, 0]
      | some r => [BitVec.ofNat 8 (resultPlace r.result), r.code, if r.overrun then 1 else 0] ++
          bytes2 r.payload.length ++ r.payload
    let body := (record ++ List.replicate n 0).take n
    ∃ t, exec (.responseRead p n) s = .next t ∧ Unchanged [.ports] s t ∧
      t.pif.ports = s.pif.ports.set p
        { slot := none, frameLoss := (s.port p).frameLoss,
          sent := if p = .s then body
            else (if (s.port p).slot.isSome then 1 else 0) :: body,
          acked := if p = .s then 1 else 0 }

/-- The queries are answered with their records and change nothing but the port's slot. The layouts
rest on log 22, 23, 24 and 42 where the rules leave them open. -/
def Obligations.QueriesAnswerTheirRecordsAndChangeNothing : Prop :=
  ∀ s : State, s.inReset = false →
    (∀ p, p = .m ∨ p = .s → ∃ t, exec (.status p []) s = .next t ∧
      Answered p 0x01 [] .ok (statusBytes s p) s t ∧ Unchanged [.ports] s t ∧
      (statusBytes s p).length = 79) ∧
    (∀ b c, channelOfByte b = some c → ∃ t, exec (.sensor .m [b]) s = .next t ∧
      Answered .m 0x04 [b] .ok
        ([b] ++ bytes2Opt (shownOf s c).raw ++
          [BitVec.ofNat 8 (conditionPlace (shownOf s c).condition)] ++
          bytes2Opt (shownOf s c).temp ++ bytes2Opt (s.afc.heat.get c)) s t ∧
      Unchanged [.ports] s t) ∧
    (∀ b a, axisOfByte b = some a → ∃ t, exec (.axis .m [b]) s = .next t ∧
      Answered .m 0x05 [b] .ok (axisAnswer s a) s t ∧ Unchanged [.ports] s t ∧
      (axisAnswer s a).length = 36) ∧
    (∀ b n, slotOfByte b = some n → ∃ t, exec (.presetRead .m [b]) s = .next t ∧
      Answered .m 0x06 [b] .ok
        (b :: match s.ptb.slots.get n with
          | none => [1]
          | some x => 0 :: presetBytes x) s t ∧ Unchanged [.ports] s t) ∧
    (∃ t, exec (.bankStatus .v []) s = .next t ∧
      Answered .v 0x44 [] .ok (bankBytes s) s t ∧ Unchanged [.ports] s t ∧
      (bankBytes s).length = 25)

/-- EVENTS answers the port's pending set and empties it, its line released; MASK replaces the port's
mask, without the TRIP bit, re-evaluates the line and answers the mask in force (R166). -/
def Obligations.EventsAndMaskActOnTheirPort : Prop :=
  ∀ s : State, s.inReset = false →
    (∃ t, exec (.events .m []) s = .next t ∧
      Answered .m 0x02 [] .ok (bytes2 s.pif.attnM.pending.toNat) s t ∧
      Unchanged [.ports, .attention] s t ∧ t.pif.attnS = s.pif.attnS ∧
      t.pif.attnM = ⟨0, s.pif.attnM.mask, false⟩) ∧
    (∃ t, exec (.events .s []) s = .next t ∧
      Answered .s 0x02 [] .ok (bytes2 s.pif.attnS.pending.toNat) s t ∧
      Unchanged [.ports, .attention] s t ∧ t.pif.attnM = s.pif.attnM ∧
      t.pif.attnS = ⟨0, s.pif.attnS.mask, false⟩) ∧
    (∀ hi lo, word2 hi lo < 4096 →
      let mask : CauseSet := BitVec.ofNat 12 (word2 hi lo) &&& ~~~(causeBit .trip)
      (∃ t, exec (.mask .m [hi, lo]) s = .next t ∧
        Answered .m 0x03 [hi, lo] .ok (bytes2 mask.toNat) s t ∧
        Unchanged [.ports, .attention] s t ∧ t.pif.attnS = s.pif.attnS ∧
        t.pif.attnM = ⟨s.pif.attnM.pending, mask, attnLevel s.pif.attnM.pending mask⟩) ∧
      (∃ t, exec (.mask .s [hi, lo]) s = .next t ∧
        Answered .s 0x03 [hi, lo] .ok (bytes2 mask.toNat) s t ∧
        Unchanged [.ports, .attention] s t ∧ t.pif.attnM = s.pif.attnM ∧
        t.pif.attnS = ⟨s.pif.attnS.pending, mask, attnLevel s.pif.attnS.pending mask⟩)) ∧
    (∀ p hi lo, p = .m ∨ p = .s → 4096 ≤ word2 hi lo →
      ∃ t, exec (.mask p [hi, lo]) s = .next t ∧
        Answered p 0x03 [hi, lo] .badValue [] s t ∧ Unchanged [.ports] s t)

/-! ## Sensing -/

/-- A sweep starts while the rail is up and no conversion is in progress (R2, log 13); a standby BRD
conversion starts while the rail is down and none is in progress, and takes the place of one that is
left over (R3, log 12); otherwise the two rows change nothing. -/
def Obligations.SweepsAndStandbyConversionsStart : Prop :=
  ∀ s : State, s.inReset = false →
    (∃ t, exec .sweepStart s = .next t ∧ Unchanged [.scn] s t ∧
      (s.lps.power ≠ .off → s.scn.conversion = .idle →
        t.scn = { s.scn with conversion := .sweep .lsh }) ∧
      (s.lps.power = .off ∨ s.scn.conversion ≠ .idle → t = s)) ∧
    (∃ t, exec .standbyBrdConversion s = .next t ∧ Unchanged [.scn] s t ∧
      (s.lps.power = .off → s.scn.conversion = .idle ∨ s.scn.conversion = .leftover →
        t.scn = { s.scn with conversion := .standby }) ∧
      (s.lps.power ≠ .off ∨ s.scn.conversion = .standby ∨ (∃ c, s.scn.conversion = .sweep c) →
        t = s))

/-- The conversion of a channel before ACZ in a sweep acts on its record and passes to the next
channel; no value is presented and no other channel changes (R2, R7, R9, R10, R11). A standby BRD
conversion acts on BRD's record and ends with a sweep end of its own, followed by the first sweep when
the rail has risen; a left-over one presents nothing (R3, log 12). The filtered temperature is the
only sample, the newer of two, the median of three. -/
def Obligations.ConversionUpdatesItsChannelRecord : Prop :=
  (∀ a, filtered [a] = some a) ∧ (∀ a b, filtered [a, b] = some a) ∧
  (∀ a b c : Int, ∃ lo m hi, filtered [a, b, c] = some m ∧ lo ≤ m ∧ m ≤ hi ∧
    [lo, m, hi].Perm [a, b, c]) ∧
  (∀ (c : Channel) (k : BitVec 12) (s : State), s.inReset = false → s.scn.conversion = .sweep c →
    c ≠ .acz →
    let value : Option Int := if c = .acy then none
      else some (convertTemp (thermTable s (channelNumber c)) k.toNat)
    ∃ t, exec (.conversionComplete c k) s = .next t ∧ Unchanged [.scn] s t ∧
      Converted (s.channel c) k.toNat value (t.channel c) ∧
      ∃ d, nextChannel c = some d ∧ t.scn = { s.scn with
        channels := s.scn.channels.set c (t.channel c), conversion := .sweep d }) ∧
  ∀ (k : BitVec 12) (s : State), s.inReset = false →
    let value : Option Int := some (convertTemp (thermTable s (channelNumber .brd)) k.toNat)
    let after : Conversion := if s.lps.power = .off then .idle else .sweep .lsh
    ∃ t, exec (.conversionComplete .brd k) s = .next t ∧ ∃ q,
      Converted (s.channel .brd) k.toNat value q ∧
      (s.scn.conversion = .standby → t.channel .brd = presentedAs q ∧
        (∀ c, c ≠ .brd → t.channel c = presentedAs (s.channel c)) ∧
        t.scn.conversion = after ∧ t.scn.window = s.scn.window ∧
        t.scn.tangent = s.scn.tangent ∧ t.scn.detected = s.scn.detected ∧
        SensorRaisedIf (q.causeDue = true ∨ ∃ c, c ≠ .brd ∧ (s.channel c).causeDue = true) s t) ∧
      (s.scn.conversion = .leftover → Unchanged [.scn] s t ∧ t.scn = { s.scn with
        channels := s.scn.channels.set .brd q, conversion := after })

/-- The ACZ conversion acts on its record and ends the sweep: every channel's values are presented,
SENSOR is raised for the faults declared or cleared, and the pair of a still sweep joins the window, from which T and the
detected orientation follow once it is full (R2, R7, R10, R11, R13, R14, R15). -/
def Obligations.SweepEndPresentsAndTakesTheAttitude : Prop :=
  ∀ (k : BitVec 12) (s : State), s.inReset = false → s.scn.conversion = .sweep .acz →
    (s.channel .acz).condition ≠ .unpowered →
    let inside := fun n : Int => 16 ≤ n ∧ n ≤ 4079
    ∃ t, exec (.conversionComplete .acz k) s = .next t ∧ t.scn.conversion = .idle ∧
      (∀ c, (t.channel c).shown =
        ⟨(t.channel c).raw, (t.channel c).condition, (t.channel c).temp⟩) ∧
      (∀ c, (t.channel c).causeDue = false) ∧
      (∀ c, c ≠ .acz → (t.channel c).raw = (s.channel c).raw ∧
        (t.channel c).condition = (s.channel c).condition ∧
        (t.channel c).temp = (s.channel c).temp ∧
        (t.channel c).history = (s.channel c).history) ∧
      (∃ q, Converted (s.channel .acz) k.toNat none q ∧ t.channel .acz = presentedAs q ∧
        SensorRaisedIf (q.causeDue = true ∨ ∃ c, c ≠ .acz ∧ (s.channel c).causeDue = true) s t) ∧
      (∀ y, (s.channel .acy).raw = some y → inside y → inside k.toNat →
        s.scn.motion = false → (∀ a, inMotion s a = false) →
        faultCondition (s.channel .acy).condition = false →
        faultCondition (t.channel .acz).condition = false →
        let w := (if s.scn.window.length < 16 then s.scn.window else s.scn.window.drop 1) ++
          [(y, (k.toNat : Int))]
        let d := sumOf Prod.snd w - 16 * offsetZ s
        t.scn.window = w ∧ t.scn.ysum = sumOf Prod.fst w ∧ t.scn.zsum = sumOf Prod.snd w ∧
        (w.length < 16 → t.scn.tangent = s.scn.tangent ∧ t.scn.detected = s.scn.detected) ∧
        (16 ≤ w.length →
          (6400 ≤ d → t.scn.detected = .floor) ∧ (d ≤ -6400 → t.scn.detected = .ceiling) ∧
          (-6400 < d → d < 6400 →
            t.scn.detected = s.scn.detected ∧ t.scn.tangent = s.scn.tangent) ∧
          ((6400 ≤ d ∨ d ≤ -6400) → t.scn.tangent = clamp (-5774) 5774
            (divHalfAway (10000 * (16 * offsetY s - sumOf Prod.fst w)) d.natAbs)))) ∧
      ((s.scn.motion = true ∨ (∃ a, inMotion s a = true) ∨ ¬inside k.toNat ∨
          (∀ y, (s.channel .acy).raw = some y → ¬inside y) ∨
          faultCondition (s.channel .acy).condition = true ∨
          faultCondition (t.channel .acz).condition = true) →
        t.scn.window = s.scn.window ∧ t.scn.tangent = s.scn.tangent ∧
        t.scn.detected = s.scn.detected)

/-! ## The fans -/

/-- A tachometer pulse is counted at its falling edge when its high phase lasted the reject width:
the width is in microseconds (log 36), the parameter in tenths of a millisecond (R25). -/
def Obligations.TachPulsesOfTheRejectWidthAreCounted : Prop :=
  ∀ (f : Fan) (width : Nat) (s : State), s.inReset = false →
    ∃ t, exec (.tachPulse f width) s = .next t ∧ Unchanged [.afc] s t ∧
      (100 * param s.prf.fan 47 ≤ (width : Int) → t.afc = { s.afc with
        pulses := s.afc.pulses.set f (s.afc.pulses.get f + 1) }) ∧
      ((width : Int) < 100 * param s.prf.fan 47 → t.afc = s.afc)

/-- A gate end measures the speeds, clears the counts and computes the heat indices; it leaves the
acoustic mode, and changes nothing outside AFC, LPS and the cause sets (R20, R26). -/
def Obligations.GateEndMeasuresSpeedsAndHeat : Prop :=
  ∀ s : State, s.inReset = false →
    ∃ t, exec .gateEnd s = .next t ∧ Unchanged [.afc, .lps, .attention] s t ∧
      t.afc.mode = s.afc.mode ∧
      (∀ f, t.afc.pulses.get f = 0 ∧
        (t.afc.fans.get f).measured = min 6000 (60 * (s.afc.pulses.get f : Int))) ∧
      ∀ c ∈ thermistors,
        let lo := param s.prf.fan (2 * channelNumber c)
        let hi := param s.prf.fan (2 * channelNumber c + 1)
        (∀ x, (shownOf s c).condition = .normal → (shownOf s c).temp = some x →
          t.afc.heat.get c = some (clamp 0 1000 (divDown (1000 * (x - lo)) (hi - lo)))) ∧
        ((shownOf s c).condition ≠ .normal → t.afc.heat.get c = some 1000)

/-- The stall test, the kick and the proving test of a gate end (R29, R30, R31). -/
def Obligations.GateEndMovesTheFanStates : Prop :=
  ∀ s : State, s.inReset = false →
    ∃ t, exec .gateEnd s = .next t ∧
      (∀ f, (s.afc.fans.get f).state ≠ .failed → (t.afc.fans.get f).state = .failed →
        causeHeld t.pif.attnM.pending .fan = true ∧
        causeHeld t.pif.attnS.pending .fan = true) ∧
      ∀ f,
        let r := s.afc.fans.get f
        let q := t.afc.fans.get f
        let tested : Prop := r.state = .proving ∨ r.state = .running ∨
          (r.state = .kick ∧ s.lps.latch = true)
        let stalled : Prop := tested ∧ q.measured < 240 ∧ 300 ≤ r.duty
        (stalled → 5 ≤ r.stall → q.state = .failed ∧ q.stall = 6) ∧
        (¬(stalled ∧ 5 ≤ r.stall) →
          (r.state = .stopped → q.state = .stopped) ∧
          (r.state = .failed → q.state = .failed ∧ q.stall = r.stall) ∧
          (r.state = .running → q.state = .running) ∧
          (r.state = .kick → r.kick = 0 → q.state = .kick ∧ q.kick = 1) ∧
          (r.state = .kick → 1 ≤ r.kick →
            q.state = .proving ∧ q.kick = 2 ∧ q.proving = 0 ∧ q.stall = 0) ∧
          (r.state = .proving → s.lps.latch = true →
            q.state = .proving ∧ q.proving = r.proving) ∧
          (r.state = .proving → s.lps.latch = false → 8 * q.target ≤ 10 * q.measured →
            (r.proving = 0 → q.state = .proving ∧ q.proving = 1) ∧
            (1 ≤ r.proving → q.state = .running ∧ q.proving = 2)) ∧
          (r.state = .proving → s.lps.latch = false → 10 * q.measured < 8 * q.target →
            q.state = .proving ∧ q.proving = 0) ∧
          (stalled → r.state ≠ .kick ∨ r.kick = 0 → q.stall = r.stall + 1) ∧
          (tested → ¬stalled → q.stall = 0))

/-- The targets and capped flags of a gate end by the table of R24, and the duties by that of R27
with the loop of R28; a trip taken at the gate end drives every fan at 1000. -/
def Obligations.GateEndSetsTargetsAndDuties : Prop :=
  ∀ s : State, s.inReset = false →
    ∃ t, exec .gateEnd s = .next t ∧
      ∀ f,
        let r := s.afc.fans.get f
        let q := t.afc.fans.get f
        let curve := curveTarget s f
        (q.target, q.capped) =
          (if s.lps.power = .off then (0, false)
           else if failedCount t.afc.fans = 1 ∧ t.afc.fans.f2.state ≠ .failed ∧
               q.state ≠ .failed then
             (fanCap .highAltitude f, decide (fanCap .highAltitude f < curve))
           else if s.lps.power = .cooling ∨ s.lps.power = .cooled then
             (max (coolingFloor f) (min curve (fanCap .standard f)),
               decide (fanCap .standard f < curve))
           else (min curve (fanCap s.afc.mode f), decide (fanCap s.afc.mode f < curve))) ∧
        q.duty =
          (if s.lps.latch = false ∧ t.lps.latch = true then 1000
           else if q.state = .stopped ∨ s.lps.power = .off then 0
           else if s.lps.latch = true then 1000
           else if q.state = .kick then 1000
           else if q.state = .proving ∧ r.state = .kick then r.duty
           else clamp 150 1000 (r.duty +
             clamp (-80) 80 (divTrunc ((q.target - q.measured) * param s.prf.fan 46) 1024)))

/-- ACOUSTIC sets the mode and is a grant occasion; the mode in force changes nothing; a running axis
goes on as it was (R23, R63, R91). On a change to QUIET with nothing running, one record is granted:
the first eligible one on the ring from the favoured axis under ROTATING, the one with the oldest
stamp under FIXED; it takes slot 0 at the quiet rate, the others wait on and the pointer moves on
(R64, R66, R90, R92). -/
def Obligations.AcousticSetsTheMode : Prop :=
  ∀ (b : Byte) (m : AcousticMode) (s : State), s.inReset = false → acousticOfByte b = some m →
    let ring := fun a : Axis => (axisNumber a + 4 - axisNumber s.msc.favoured) % 4
    ∃ t, exec (.acoustic .m [b]) s = .next t ∧ Answered .m 0x12 [b] .ok [] s t ∧
      Unchanged [.ports, .attention, .afc, .scn, .ldu, .msc, .fdt, .geo, .bkm] s t ∧
      t.afc = { s.afc with mode := m } ∧ (m = s.afc.mode → Unchanged [.ports] s t) ∧
      (s.msc.Placed → ∀ a, running s a = true → t.axis a = s.axis a) ∧
      ∀ a q, s.msc.Placed → m = .quiet → s.afc.mode ≠ .quiet → (∀ c, running s c = false) →
        s.msc.pending.get a = some q → Eligible s q → StartsWhenGranted s a q →
        (∀ c r, c ≠ a → s.msc.pending.get c = some r → Eligible s r →
          if policyRotating s = true then ring a < ring c else q.book.stamp < r.book.stamp) →
        OnlyAxes [a] s t ∧ t.msc.pending = s.msc.pending.set a none ∧
        t.msc.favoured = nextAxis a ∧ t.msc.inForce.get a = some q.book ∧
        (t.axis a).slot = some .slot0 ∧ (t.axis a).drvEn = true ∧ (t.axis a).segment = 0 ∧
        (t.axis a).tag = some q.tag ∧ (t.axis a).source = some q.source ∧
        (q.kind = .home → (t.axis a).state = .homing) ∧
        ∀ p, q.kind ≠ .home → (s.axis a).position = some p →
          (t.axis a).state = .moving ∧ (t.axis a).mode = some q.mode ∧
          (t.axis a).target = some (goalFrom s a p q.kind) ∧ (t.axis a).start = some p ∧
          (t.axis a).rate = some (param s.prf.axis (5 * axisNumber a + 4))

/-! ## Light and power -/

/-- The limit function: 1000 up to Ts, Lf from Te on, and between them 1000 less the reduction
rounded up; it does not rise with the temperature and stays within Lf..1000 (R52). -/
def Obligations.LimitFunctionFallsFromTsToTe : Prop :=
  ∀ s : State, derateStart s < derateEnd s → derateFloor s ≤ 1000 →
    (∀ x, x ≤ derateStart s → limitAt s x = 1000) ∧
    (∀ x, derateEnd s ≤ x → limitAt s x = derateFloor s) ∧
    (∀ x, derateStart s < x → x < derateEnd s → ∃ u, limitAt s x = 1000 - u ∧
      (1000 - derateFloor s) * (x - derateStart s) ≤ u * (derateEnd s - derateStart s) ∧
      (u - 1) * (derateEnd s - derateStart s) <
        (1000 - derateFloor s) * (x - derateStart s)) ∧
    (∀ x y, x ≤ y → limitAt s y ≤ limitAt s x) ∧
    ∀ x, derateFloor s ≤ limitAt s x ∧ limitAt s x ≤ 1000

/-- LIGHT_ON by the power state and the cover (R40), with the entry to LIT (R50, R51, R53). -/
def Obligations.LightOnFollowsThePowerStateAndTheCover : Prop :=
  ∀ (hi lo : Byte) (s : State), s.inReset = false →
    let level : Int := clamp 100 1000 (word2 hi lo : Int)
    ∃ t, exec (.lightOn .m [hi, lo]) s = .next t ∧
      (s.lps.power = .ready → s.lps.cover = .closed →
        Answered .m 0x10 [hi, lo] .ok [] s t ∧
        Unchanged [.ports, .attention, .lps, .scn, .ldu, .msc, .fdt, .geo, .bkm] s t ∧
        causeHeld t.pif.attnM.pending .state = true ∧
        causeHeld t.pif.attnS.pending .state = true ∧
        ∀ x, normalTemp s .lsh = some x →
          let d := derateNext s 1000 x
          let e := limitUnder s d
          t.lps = { s.lps with power := .lit, cutOk := false, deadline := none,
                               request := some level, derate := d, effLimit := e,
                               lightEn := true, lightLevel := min level e } ∧
          (e < 1000 → causeHeld t.pif.attnM.pending .light = true ∧
            causeHeld t.pif.attnS.pending .light = true)) ∧
      (s.lps.power = .ready → s.lps.cover = .opened →
        Answered .m 0x10 [hi, lo] .coverOpen [] s t ∧ Unchanged [.ports] s t) ∧
      (s.lps.power = .lit →
        Answered .m 0x10 [hi, lo] .ok [] s t ∧ Unchanged [.ports, .lps] s t ∧
        t.lps = { s.lps with request := some level, lightLevel := min level s.lps.effLimit }) ∧
      (s.lps.power = .starting ∨ s.lps.power = .cooling ∨ s.lps.power = .cooled →
        Answered .m 0x10 [hi, lo] .notReady [] s t ∧ Unchanged [.ports] s t) ∧
      (s.lps.power = .off →
        Answered .m 0x10 [hi, lo] .noPower [] s t ∧ Unchanged [.ports] s t) ∧
      (s.lps.power = .tripped →
        Answered .m 0x10 [hi, lo] .tripped [] s t ∧ Unchanged [.ports] s t)

/-- LIGHT_OFF: from LIT to READY with the light off and no request; elsewhere nothing (R41). -/
def Obligations.LightOffEntersReadyFromLit : Prop :=
  ∀ s : State, s.inReset = false →
    ∃ t, exec (.lightOff .m []) s = .next t ∧ Answered .m 0x11 [] .ok [] s t ∧
      (s.lps.power = .lit → Unchanged [.ports, .attention, .lps] s t ∧
        t.lps = darkIn s.lps .ready ∧ JoinedBoth (causeBit .state) s t) ∧
      (s.lps.power ≠ .lit → Unchanged [.ports] s t)

/-- POWER_DOWN: to COOLING with the cooling timer from 0, the latch as it was (R43). -/
def Obligations.PowerDownEntersCooling : Prop :=
  ∀ (p : Port) (s : State), s.inReset = false → p = .m ∨ p = .s →
    ∃ t, exec (.powerDown p []) s = .next t ∧ Answered p 0x18 [] .ok [] s t ∧
      (s.lps.power = .starting ∨ s.lps.power = .ready ∨ s.lps.power = .lit ∨
          s.lps.power = .tripped →
        Unchanged [.ports, .attention, .lps] s t ∧
        t.lps = { darkIn s.lps .cooling with cooling := some 0 } ∧
        JoinedBoth (causeBit .state) s t) ∧
      (s.lps.power = .cooling ∨ s.lps.power = .cooled ∨ s.lps.power = .off →
        Unchanged [.ports] s t)

/-- POWER_UP by the power state, the latch and the fans-proven mark (R46, R37, R29). -/
def Obligations.PowerUpFollowsTheLatchAndTheFans : Prop :=
  ∀ (p : Port) (s : State), s.inReset = false → p = .m ∨ p = .s →
    ∃ t, exec (.powerUp p []) s = .next t ∧
      (s.lps.power = .cooling ∨ s.lps.power = .cooled → Answered p 0x19 [] .ok [] s t ∧
        JoinedBoth (causeBit .state) s t ∧ Unchanged [.ports, .attention, .lps, .afc] s t ∧
        (s.lps.latch = true → t.afc = s.afc ∧
          t.lps = { darkIn s.lps .tripped with cooling := none }) ∧
        (s.lps.latch = false → s.lps.proven = true → t.afc = s.afc ∧
          t.lps = { darkIn s.lps .ready with cooling := none }) ∧
        (s.lps.latch = false → s.lps.proven = false → FansKicked s t ∧
          t.lps = { startingFrom s.lps with cooling := none })) ∧
      (s.lps.power = .starting ∨ s.lps.power = .ready ∨ s.lps.power = .lit ∨
          s.lps.power = .tripped →
        Answered p 0x19 [] .ok [] s t ∧ Unchanged [.ports] s t) ∧
      (s.lps.power = .off → Answered p 0x19 [] .noPower [] s t ∧ Unchanged [.ports] s t)

/-- CLEAR_TRIP: the clearing test in TRIPPED, nothing elsewhere (R49, R37, R29). -/
def Obligations.ClearTripMakesTheClearingTest : Prop :=
  ∀ (p : Port) (s : State), s.inReset = false → p = .m ∨ p = .s →
    let passes : Prop := (normalTemp s .lsh).isSome = true ∧
      ∀ c ∈ thermistors, ∀ x, normalTemp s c = some x → x ≤ resetTemp s c
    ∃ t, exec (.clearTrip p []) s = .next t ∧
      (s.lps.power = .tripped → passes → Answered p 0x1A [] .ok [] s t ∧
        Unchanged [.ports, .attention, .lps, .afc] s t ∧ FansKicked s t ∧
        t.lps = startingFrom { s.lps with latch := false } ∧
        JoinedBoth (causeBit .state) s t) ∧
      (s.lps.power = .tripped → ¬passes →
        Answered p 0x1A [] .tooHot [] s t ∧ Unchanged [.ports] s t) ∧
      (s.lps.power ≠ .tripped → Answered p 0x1A [] .ok [] s t ∧ Unchanged [.ports] s t)

/-- An accepted change of the cover: STATE, and LIT left when it opens (R42); a level that is no
change does nothing (log 4). -/
def Obligations.CoverChangeLeavesLitWhenItOpens : Prop :=
  ∀ (c : Cover) (s : State), s.inReset = false →
    ∃ t, exec (.coverChange c) s = .next t ∧
      (c ≠ s.lps.cover → Unchanged [.attention, .lps] s t ∧ JoinedBoth (causeBit .state) s t ∧
        (c = .opened → s.lps.power = .lit →
          t.lps = darkIn { s.lps with cover := .opened } .ready) ∧
        (c = .closed ∨ s.lps.power ≠ .lit → t.lps = { s.lps with cover := c })) ∧
      (c = s.lps.cover → t = s)

/-- The proving deadline in STARTING trips the part with PROVE_TIMEOUT, naming the fans that do not
run; an expiry in another state has no effect (R38, R48, R27). -/
def Obligations.ProvingDeadlineTripsInStarting : Prop :=
  ∀ s : State, s.inReset = false →
    ∃ t, exec .provingDeadlineExpiry s = .next t ∧
      (s.lps.power = .starting → s.lps.latch = false →
        Unchanged [.attention, .lps, .afc] s t ∧
        JoinedBoth (causeBit .state ||| causeBit .trip) s t ∧
        t.lps = { darkIn s.lps .tripped with
          latch := true,
          lastTrip := some ⟨.proveTimeout, .fans (unprovenFans s), none⟩ } ∧
        t.afc.mode = s.afc.mode ∧ t.afc.pulses = s.afc.pulses ∧ t.afc.heat = s.afc.heat ∧
        ∀ f, t.afc.fans.get f = { s.afc.fans.get f with duty := 1000 }) ∧
      (s.lps.power ≠ .starting → t = s)

/-- What LPS does at a sweep end. The temperature conditions, a faulted LSH first, then the
lowest-numbered NORMAL channel at or above its trip temperature; the latch, the cause, the state and
the fans follow (R47, R48, R27); without a condition the latch stays clear. In COOLING with no trip
taken, the cooling completion check, which enters COOLED (R44). In LIT with no trip taken, the derate
update and the limits (R50, R51, R53, R56). -/
def Obligations.SweepEndTripsOnTemperature : Prop :=
  ∀ (k : BitVec 12) (s : State), s.inReset = false → s.scn.conversion = .sweep .acz →
    let faulted : Prop := lshFaulted s
    let hot := tooHot s
    ∃ t, exec (.conversionComplete .acz k) s = .next t ∧
      (s.lps.latch = false → tripTested s.lps.power = true →
        (faulted → t.lps.lastTrip = some ⟨.sensorFault, .channel .lsh, none⟩) ∧
        (∀ c ∈ thermistors, ¬faulted → hot c →
          (∀ d ∈ thermistors, channelNumber d < channelNumber c → ¬hot d) →
          t.lps.lastTrip = some ⟨.tempLimit, .channel c, (s.channel c).temp⟩) ∧
        (faulted ∨ (∃ c ∈ thermistors, hot c) →
          t.lps.latch = true ∧
          (s.lps.power ≠ .cooling → t.lps.lightEn = false ∧ t.lps.lightLevel = 0) ∧
          causeHeld t.pif.attnM.pending .trip = true ∧
          causeHeld t.pif.attnS.pending .trip = true ∧
          (∀ f, (t.afc.fans.get f).duty = 1000) ∧
          (s.lps.power = .starting ∨ s.lps.power = .ready ∨ s.lps.power = .lit →
            t.lps.power = .tripped) ∧
          (s.lps.power = .cooled → t.lps.power = .cooling ∧ t.lps.cutOk = false)) ∧
        (¬faulted → (∀ c ∈ thermistors, ¬hot c) →
          t.lps.latch = false ∧ t.lps.lastTrip = s.lps.lastTrip)) ∧
      (s.lps.power = .cooling → s.lps.latch = true ∨ NoTripDue s →
        let passes : Prop := ∃ n, s.lps.cooling = some n ∧ (maxCooling s ≤ (n : Int) ∨
          (minCooling s ≤ (n : Int) ∧ (s.channel .lsh).condition = .normal ∧
            ∃ x, (s.channel .lsh).temp = some x ∧ x ≤ coolDone s))
        (passes → t.lps = { darkIn s.lps .cooled with unplanned := false } ∧
          HeldOnBoth .state t) ∧
        (¬passes → t.lps = s.lps ∧ HeldAsBefore .state s t)) ∧
      (s.lps.power = .lit → s.lps.latch = true ∨ NoTripDue s →
        ∀ x, (s.channel .lsh).condition = .normal → (s.channel .lsh).temp = some x →
          LightFollows x s t)

/-- The main-rail loss (R4, R32, R39, R80, R95, R113, R149): LPS in OFF with the light off, the cut
allowed and the loss marked unplanned unless it came in COOLED; the fans undriven; the main-rail
channels unpowered; the axes in motion LOST, the others as they were, nothing pending; tracking
suspended; no loan and no LIVE table. That the presented values of the main-rail channels become
UNPOWERED at the loss itself, before any sweep end, is the model's reading (log 11). -/
def Obligations.MainRailLossStopsEverythingOnTheRail : Prop :=
  ∀ s : State, s.inReset = false → s.lps.power ≠ .off →
    ∃ t, exec .mainRailLoss s = .next t ∧
      t.lps = { darkIn s.lps .off with latch := false, proven := false, cooling := none,
                                       unplanned := s.lps.unplanned || s.lps.power != .cooled } ∧
      causeHeld t.pif.attnM.pending .state = true ∧
      causeHeld t.pif.attnS.pending .state = true ∧
      t.afc.mode = s.afc.mode ∧ t.afc.pulses = s.afc.pulses ∧ t.afc.heat = s.afc.heat ∧
      (∀ f, let r := s.afc.fans.get f
        (r.state = .kick ∨ r.state = .proving ∨ r.state = .running → t.afc.fans.get f =
          { r with state := .stopped, duty := 0, kick := 0, proving := 0, stall := 0 }) ∧
        (r.state = .stopped ∨ r.state = .failed → t.afc.fans.get f = { r with duty := 0 })) ∧
      (∀ c ∈ mainRailChannels, t.channel c = blankChannel .unpowered) ∧
      t.channel .brd = s.channel .brd ∧ t.scn.window = [] ∧
      t.scn.tangent = s.scn.tangent ∧ t.scn.detected = s.scn.detected ∧
      (∀ a, inMotion s a = true → (t.axis a).state = .lost ∧ (t.axis a).position = none ∧
        (t.axis a).slot = none ∧ (t.axis a).drvEn = false ∧ (t.axis a).endAction = none ∧
        (t.msc.last.get a).outcome = some .powerLost ∧ (t.msc.last.get a).final = none) ∧
      (∀ a, inMotion s a = false → t.axis a = s.axis a) ∧
      ((∀ a, inMotion s a = true → yielded s a = false → s.msc.pending.get a = none) →
        NonePending t) ∧
      t.msc.favoured = s.msc.favoured ∧
      t.fdt.state = .suspended ∧ t.fdt.enable = s.fdt.enable ∧ t.fdt.anchor = s.fdt.anchor ∧
      t.fdt.correction = s.fdt.correction ∧
      (BankLaw s → ∀ b, (t.bkm.banks.get b).role ≠ .live ∧ (t.bkm.banks.get b).role ≠ .loaned) ∧
      t.bkm.loan = none ∧ t.bkm.counter = s.bkm.counter ∧ t.bkm.expiries = s.bkm.expiries ∧
      t.geo.settings = s.geo.settings ∧ samePart .ptb s t ∧ samePart .nvs s t ∧
      samePart .prf s t ∧ samePart .ports s t ∧ samePart .queue s t ∧ samePart .inReset s t

/-- The main-rail rise (R5, R29, R37, R81, R122): STARTING, the fans kicked, the main-rail channels
WAITING, the axes as they were, and a build; a rise is taken in OFF alone (log 4). That the presented
values of the main-rail channels become WAITING at the rise itself, before any sweep end, is the
model's reading (log 11). -/
def Obligations.MainRailRiseEntersStarting : Prop :=
  ∀ s : State, s.inReset = false →
    ∃ t, exec .mainRailRise s = .next t ∧
      (s.lps.power = .off → Unchanged [.attention, .lps, .afc, .scn, .geo, .bkm] s t ∧
        JoinedBoth (causeBit .state) s t ∧ t.lps = startingFrom s.lps ∧ FansKicked s t ∧
        (∀ c ∈ mainRailChannels, t.channel c = blankChannel .waiting) ∧
        t.channel .brd = s.channel .brd ∧ t.scn.window = [] ∧
        t.scn.tangent = s.scn.tangent ∧ t.scn.detected = s.scn.detected ∧
        t.geo.settings = s.geo.settings ∧ BuildAsked s t) ∧
      (s.lps.power ≠ .off → t = s)

/-! ## The lens -/

/-- MOVE is checked in the order of R86, and taken when no check fails. For a running axis, with
nothing waiting, it is a retarget: the move in force ends SUPERSEDED where the axis stands, and its
phase decides between a leg that leads on to the new target, a stop ramp, and a new end of the ramp or
dwell in progress (R71, R72, R88); a stop ramp of no steps, at the end of the leg, plans anew at once
(R67, R70). For an axis that waits, with every slot in use, it takes the place of the waiting record or
yielded remainder (R74, R88). The steps remaining after a request taken in REVERSE are the model's
reading (log 21), and so are a loop without steps at a backlash of 0 (log 15) and the fields that a
record keeps after an end: rate and grant mode (log 18) and the level of DIR_x (log 20). -/
def Obligations.MoveIsCheckedInOrder : Prop :=
  ∀ (d : List Byte) (x : MoveOperands) (s : State), s.inReset = false → parseMove d = some x →
    let bad : Prop := x.follow = some x.axis ∨ ∃ v, x.kind = .absolute v ∧ v < 0
    let a := x.axis
    let r := s.axis a
    let book : Book := ⟨some .m, s.msc.nextStamp, false, none⟩
    ∃ t, exec (.move .m d) s = .next t ∧
      (bad → Answered .m 0x20 d .badValue [] s t ∧ Unchanged [.ports] s t) ∧
      (¬bad → s.lps.power = .off →
        Answered .m 0x20 d .noPower [] s t ∧ Unchanged [.ports] s t) ∧
      (¬bad → s.lps.power ≠ .off →
        (r.state = .lost ∨ r.state = .homing →
          Answered .m 0x20 d .axisLost [] s t ∧ Unchanged [.ports] s t) ∧
        (r.state = .idle ∨ r.state = .moving →
          Answered .m 0x20 d .ok [] s t ∧
          Unchanged [.ports, .attention, .scn, .ldu, .msc, .fdt, .geo, .bkm] s t) ∧
        (∀ p, r.state = .moving → r.position = some p → running s a = true →
          liveMember s a = false → NonePending s →
          let goal := goalFrom s a p x.kind
          let approach := max 0 (goal - axisBacklash s a)
          let ahead : Prop := (r.direction = .positive ∧ p < goal) ∨
            (r.direction = .negative ∧ goal < p)
          let steps : Prop := r.phase = some .travel ∨ r.phase = some .overshootReturn
          let still : Prop := goal = p ∧ (r.lastStep = .positive ∨ goal = 0 ∨ approach = goal)
          let way : Direction := if p < goal then .positive else .negative
          let new : AxisRecord := { r with
            tag := some x.tag, source := some .m, mode := some x.mode, target := some goal,
            start := some p }
          (steps ∧ (ahead ∨ p ≠ r.legEnd) ∨ r.phase = some .stopRamp ∨ r.phase = some .reverse →
            OnlyAxes [a] s t ∧ t.msc.inForce.get a = some book ∧
            t.msc.last.get a = ⟨r.tag, r.source, some .superseded, some p⟩ ∧ NonePending t) ∧
          (steps → ahead → r.direction = .positive → t.axis a = { new with
            phase := some .travel, legEnd := goal, remaining := goal - p }) ∧
          (steps → ahead → r.direction = .negative → t.axis a = { new with
            phase := some .travel, legEnd := approach,
            remaining := (p - approach) + (goal - approach) }) ∧
          (steps → ¬ahead → p ≠ r.legEnd → t.axis a = { new with
            phase := some .stopRamp, endAction := some .replan,
            remaining := min 32 (((r.legEnd - p).natAbs : Int)) }) ∧
          (steps → ¬ahead → p = r.legEnd → still → OnlyAxes [a] s t ∧
            t.axis a = { new with
              state := .idle, phase := none, endAction := none, remaining := 0, dwell := none,
              slot := none, drvEn := false, direction := r.lastStep,
              maxInForce := max (axisMaximum s a) p } ∧
            t.msc.last.get a = ⟨some x.tag, some .m, some .done, some p⟩) ∧
          (steps → ¬ahead → p = r.legEnd → ¬still →
            OnlyAxes [a] s t ∧ t.msc.inForce.get a = some book ∧
            t.msc.last.get a = ⟨r.tag, r.source, some .superseded, some p⟩ ∧
            (way = r.lastStep → t.axis a = { new with
              phase := some .travel, endAction := none, dwell := none, direction := way,
              dirHigh := decide (p < goal), legEnd := if p < goal then goal else approach,
              remaining := stepsTo p goal approach }) ∧
            (way ≠ r.lastStep → t.axis a = { new with
              phase := some .reverse, endAction := none, dwell := some .firstLeg,
              remaining := stepsTo p goal approach })) ∧
          (r.phase = some .stopRamp → t.axis a = { new with endAction := some .replan }) ∧
          (r.phase = some .reverse → t.axis a = { new with
            endAction := none, dwell := some .replan, remaining := stepsTo p goal approach })) ∧
        (∀ q, r.state = .idle ∨ r.state = .moving → running s a = false →
          s.msc.pending.get a = some q → q.axis = a →
          slotCount s ≤ runningCount s → liveMember s a = false →
          t.msc.pending.get a = some ⟨a, x.kind, x.mode, x.follow, x.tag, .m, book⟩ ∧
          (yielded s a = false → r.state = .idle → t.ldu = s.ldu ∧
            t.msc.last.get a = ⟨some q.tag, some q.source, some .superseded, r.position⟩) ∧
          (∀ p, yielded s a = true → r.state = .moving → r.position = some p →
            OnlyAxes [a] s t ∧ t.axis a = restingAt s a p ∧
            t.msc.last.get a = ⟨r.tag, r.source, some .superseded, some p⟩)))

/-- A taken MOVE for an axis at rest: with every slot of the mode in use it waits in the list; with
nothing running and nothing waiting it is granted at once, and ends LIMIT_HIT, ends DONE, or starts
on the planned path (R66, R67, R88, R91, R106). -/
def Obligations.MoveOfAnIdleAxisWaitsOrIsGranted : Prop :=
  ∀ (d : List Byte) (x : MoveOperands) (p : Int) (s : State), s.inReset = false →
    parseMove d = some x → x.follow ≠ some x.axis → (∀ v, x.kind = .absolute v → 0 ≤ v) →
    s.lps.power ≠ .off → (s.axis x.axis).state = .idle → (s.axis x.axis).position = some p →
    running s x.axis = false → yielded s x.axis = false → s.msc.pending.get x.axis = none →
    liveMember s x.axis = false →
    let a := x.axis
    let book : Book := ⟨some .m, s.msc.nextStamp, false, none⟩
    let goal := clamp 0 (axisMaximum s a) (match x.kind with
      | .absolute v => v
      | .relative v => p + v
      | .home => 0)
    let approach := max 0 (goal - axisBacklash s a)
    ∃ t, exec (.move .m d) s = .next t ∧
      (slotCount s ≤ runningCount s → Unchanged [.ports, .msc] s t ∧
        t.msc = { s.msc with
          nextStamp := s.msc.nextStamp + 1,
          pending := s.msc.pending.set a
            (some ⟨a, x.kind, x.mode, x.follow, x.tag, .m, book⟩) }) ∧
      ((∀ b, running s b = false) → NonePending s →
        (t.msc.favoured = nextAxis a ∧ NonePending t ∧ OnlyAxes [a] s t) ∧
        ((s.axis a).switch = true → 200 < p → (t.axis a).state = .lost ∧
          (t.axis a).position = none ∧ (t.axis a).slot = none ∧
          t.msc.last.get a = ⟨some x.tag, some .m, some .limitHit, none⟩ ∧
          causeHeld t.pif.attnM.pending .move = true) ∧
        (¬((s.axis a).switch = true ∧ 200 < p) → goal = p → (t.axis a).state = .idle ∧
          (t.axis a).position = some p ∧ (t.axis a).slot = none ∧
          t.msc.last.get a = ⟨some x.tag, some .m, some .done, some p⟩ ∧
          causeHeld t.pif.attnM.pending .move = true ∧
          (a = .fc → t.fdt.anchor = normalTemp s .lns ∧ t.fdt.correction = 0)) ∧
        (¬((s.axis a).switch = true ∧ 200 < p) → goal ≠ p →
          Unchanged [.ports, .ldu, .msc, .scn] s t ∧ t.scn = { s.scn with motion := true } ∧
          t.msc.inForce.get a = some book ∧
          t.axis a = { s.axis a with
            state := .moving, tag := some x.tag, source := some .m, mode := some x.mode,
            target := some goal, start := some p, slot := some .slot0, drvEn := true,
            rate := some (axisRate s a), segment := 0, phase := some .travel, endAction := none,
            dwell := none,
            direction := if p < goal then .positive else .negative, dirHigh := decide (p < goal),
            legEnd := if p < goal then goal else approach,
            remaining := if p < goal then goal - p else (p - approach) + (goal - approach) }))

/-- HOME: NO_POWER in OFF; an empty set changes nothing; a HOME for an axis at rest with nothing
running or waiting begins at once, with SEEK or, with the switch asserted, with the dwell before
RELEASE (R76, R87). For a set of any size whose axes neither run nor wait: with every slot in use each
HOME joins the list, with consecutive stamps in axis order; with nothing running or waiting as many as
there are slots begin, and the others wait (R63, R87, R91). For a running axis it is passed on: a homing goes on under the new request, a move
ends SUPERSEDED and its ramp or dwell leads to the homing (R72, R75, R88). For an axis that waits, with
every slot in use, it takes the place of what waits (R74, R88). The fields of a homing in force are the
model's reading (log 19), and so are the steps remaining after a HOME taken in REVERSE (log 21) and
the fields that a record keeps after an end: rate and grant mode (log 18) and the level of DIR_x (log
20). -/
def Obligations.HomeBeginsTheHoming : Prop :=
  ∀ (x g : Byte) (s : State), s.inReset = false →
    let named := fun a : Axis => x.getLsbD (axisNumber a)
    let waiting := fun a : Axis => (⟨a, .home, .held, none, g, .m, ⟨some .m, s.msc.nextStamp +
      (allAxes.filter (fun b => named b && decide (axisNumber b < axisNumber a))).length,
      false, none⟩⟩ : Request)
    (s.lps.power = .off → x.toNat < 16 → ∃ t, exec (.home .m [x, g]) s = .next t ∧
      Answered .m 0x21 [x, g] .noPower [] s t ∧ Unchanged [.ports] s t) ∧
    (s.lps.power ≠ .off → x = 0 → ∃ t, exec (.home .m [x, g]) s = .next t ∧
      Answered .m 0x21 [x, g] .ok [] s t ∧ Unchanged [.ports] s t) ∧
    (∀ a, s.lps.power ≠ .off → x.toNat = 2 ^ axisNumber a → (∀ b, running s b = false) →
      NonePending s → yielded s a = false → liveMember s a = false →
      ∃ t, exec (.home .m [x, g]) s = .next t ∧ Answered .m 0x21 [x, g] .ok [] s t ∧
        Unchanged [.ports, .ldu, .msc, .scn] s t ∧ OnlyAxes [a] s t ∧
        t.scn = { s.scn with motion := true } ∧ NonePending t ∧
        t.msc.favoured = nextAxis a ∧
        ((s.axis a).switch = false → t.axis a = { s.axis a with
          state := .homing, position := some 0, target := none, start := none, tag := some g,
          source := some .m, mode := some .held, rate := some 600, slot := some .slot0,
          drvEn := true, direction := .negative, dirHigh := false, phase := some .seek,
          endAction := none, dwell := none, segment := 0,
          remaining := axisMaximum s a + divTrunc (axisMaximum s a) 8 }) ∧
        ((s.axis a).switch = true → t.axis a = { s.axis a with
          state := .homing, position := some 0, target := none, start := none, tag := some g,
          source := some .m, mode := some .held, rate := some 600, slot := some .slot0,
          drvEn := true, dirHigh := (s.axis a).direction == .positive, phase := some .reverse,
          endAction := none, dwell := some .release, segment := 0, remaining := 200 })) ∧
    (s.lps.power ≠ .off → x.toNat < 16 →
      (∀ a, named a = true → running s a = false ∧ yielded s a = false ∧
        s.msc.pending.get a = none ∧ liveMember s a = false) →
      ∃ t, exec (.home .m [x, g]) s = .next t ∧ Answered .m 0x21 [x, g] .ok [] s t ∧
        (slotCount s ≤ runningCount s → Unchanged [.ports, .msc] s t ∧
          ∀ a, t.msc.pending.get a =
            if named a then some (waiting a) else s.msc.pending.get a) ∧
        ((∀ a, running s a = false) → NonePending s →
          runningCount t = min (allAxes.filter named).length (slotCount s) ∧
          ∀ a, (named a = false → t.axis a = s.axis a ∧ t.msc.pending.get a = none) ∧
            (named a = true →
              (running t a = true ∧ (t.axis a).state = .homing ∧ (t.axis a).tag = some g ∧
                (t.axis a).source = some .m ∧ t.msc.pending.get a = none) ∨
              (t.axis a = s.axis a ∧ t.msc.pending.get a = some (waiting a))))) ∧
    (∀ a, s.lps.power ≠ .off → x.toNat = 2 ^ axisNumber a → liveMember s a = false →
      let r := s.axis a
      let book : Book := ⟨some .m, s.msc.nextStamp, false, none⟩
      let new : AxisRecord := { r with
        tag := some g, source := some .m, mode := some .held, target := none, start := none }
      ∃ t, exec (.home .m [x, g]) s = .next t ∧ Answered .m 0x21 [x, g] .ok [] s t ∧
        (running s a = true → NonePending s → r.state = .homing →
          OnlyAxes [a] s t ∧ NonePending t ∧ t.axis a = new ∧ t.msc.inForce.get a = some book ∧
          t.msc.last.get a = ⟨r.tag, r.source, some .superseded, none⟩) ∧
        (∀ p, running s a = true → NonePending s → r.state = .moving → r.position = some p →
          let steps : Prop := r.phase = some .travel ∨ r.phase = some .overshootReturn
          (steps ∧ p ≠ r.legEnd ∨ r.phase = some .stopRamp ∨ r.phase = some .reverse →
            OnlyAxes [a] s t ∧ NonePending t ∧ t.msc.inForce.get a = some book ∧
            t.msc.last.get a = ⟨r.tag, r.source, some .superseded, some p⟩) ∧
          (steps → p ≠ r.legEnd → t.axis a = { new with
            phase := some .stopRamp, endAction := some .home,
            remaining := min 32 (((r.legEnd - p).natAbs : Int)) }) ∧
          (r.phase = some .stopRamp → t.axis a = { new with endAction := some .home }) ∧
          (r.phase = some .reverse → t.axis a = { new with dwell := some .homing })) ∧
        (∀ q, running s a = false → s.msc.pending.get a = some q → q.axis = a →
          slotCount s ≤ runningCount s →
          t.msc.pending.get a = some ⟨a, .home, .held, none, g, .m, book⟩ ∧
          (yielded s a = false → t.ldu = s.ldu ∧ t.msc.last.get a =
            ⟨some q.tag, some q.source, some .superseded, shownPosition s a⟩) ∧
          (∀ p, yielded s a = true → r.state = .moving → r.position = some p →
            OnlyAxes [a] s t ∧ t.axis a = restingAt s a p ∧
            t.msc.last.get a = ⟨r.tag, r.source, some .superseded, some p⟩)))

/-- STOP: no effect on axes that neither run nor wait; a stop ramp for a move that steps, of at most
32 steps and at most the leg; CANCEL for a ramp in progress; the end of a move in its dwell; an
interrupted homing is LOST and ends CANCELLED (R70, R72, R73); a waiting record leaves the list
CANCELLED, and a yielded move ends CANCELLED where it stands (R74, R89). The fields that a record keeps
after a CANCELLED end are the model's reading: rate and grant mode, with no steps remaining (log 18),
and the level of DIR_x (log 20). -/
def Obligations.StopRampsMovesAndCancelsHomings : Prop :=
  ∀ (p : Port) (x : Byte) (s : State), s.inReset = false → p = .m ∨ p = .s → x.toNat < 16 →
    ∃ t, exec (.stop p [x]) s = .next t ∧ Answered p 0x22 [x] .ok [] s t ∧
      ((∀ a, x.getLsbD (axisNumber a) = true → running s a = false ∧ yielded s a = false ∧
          s.msc.pending.get a = none ∧ liveMember s a = false) → Unchanged [.ports] s t) ∧
      (∀ a n, x.toNat = 2 ^ axisNumber a → running s a = true → liveMember s a = false →
        (s.axis a).state = .moving → (s.axis a).position = some n → n ≠ (s.axis a).legEnd →
        ((s.axis a).phase = some .travel ∨ (s.axis a).phase = some .overshootReturn) →
        Unchanged [.ports, .ldu] s t ∧ OnlyAxes [a] s t ∧
        t.axis a = { s.axis a with
          phase := some .stopRamp, endAction := some .cancel,
          remaining := min 32 (((s.axis a).legEnd - n).natAbs : Int) }) ∧
      (∀ a, x.toNat = 2 ^ axisNumber a → running s a = true → liveMember s a = false →
        (s.axis a).state = .homing → NonePending s →
        OnlyAxes [a] s t ∧ (t.axis a).state = .lost ∧ (t.axis a).position = none ∧
        (t.axis a).slot = none ∧ (t.axis a).drvEn = false ∧
        t.msc.last.get a = ⟨(s.axis a).tag, (s.axis a).source, some .cancelled, none⟩) ∧
      (∀ a, x.toNat = 2 ^ axisNumber a → running s a = true → liveMember s a = false →
        (s.axis a).state = .moving → (s.axis a).phase = some .stopRamp →
        Unchanged [.ports, .ldu] s t ∧ OnlyAxes [a] s t ∧
        t.axis a = { s.axis a with endAction := some .cancel }) ∧
      (∀ a p, x.toNat = 2 ^ axisNumber a → running s a = true → liveMember s a = false →
        (s.axis a).state = .moving → (s.axis a).phase = some .reverse →
        (s.axis a).position = some p → NonePending s →
        OnlyAxes [a] s t ∧ t.axis a = restingAt s a p ∧
        t.msc.last.get a = ⟨(s.axis a).tag, (s.axis a).source, some .cancelled, some p⟩) ∧
      (∀ a q, x.toNat = 2 ^ axisNumber a → running s a = false → liveMember s a = false →
        s.msc.pending.get a = some q → q.axis = a → (∀ b, b ≠ a → s.msc.pending.get b = none) →
        NonePending t ∧
        (yielded s a = false → t.ldu = s.ldu ∧ t.msc.last.get a =
          ⟨some q.tag, some q.source, some .cancelled, shownPosition s a⟩) ∧
        (∀ p, yielded s a = true → (s.axis a).state = .moving → (s.axis a).position = some p →
          OnlyAxes [a] s t ∧ t.axis a = restingAt s a p ∧
          t.msc.last.get a = ⟨(s.axis a).tag, (s.axis a).source, some .cancelled, some p⟩))

/-- A step moves a position-known axis by one; the last step of a plan ends the move DONE, and with it
its recall group when it was the last member to end; a negative leg that is followed by a return leg
ends in the reversal dwell; a segment boundary yields when an eligible record waits and no slot is
left for it, also one at the end of a negative leg, where the ramp has no steps and the remainder goes
back at once; the end of a stop ramp with CANCEL ends the move CANCELLED, with YIELD it hands the
remainder back and lets the waiting record go first; a homing counts its steps and fails at its limit
(R65, R68, R69, R70, R74, R76, R77, R93, R96). The fields that a record keeps after a DONE end are the
model's reading: rate and grant mode (log 18) and, as in a YIELDED record, the level of DIR_x (log
20). -/
def Obligations.StepMovesTheAxisAndEndsItsMove : Prop :=
  ∀ (a : Axis) (s : State), s.inReset = false →
    let r := s.axis a
    let one : Int := if r.direction = .positive then 1 else -1
    let counts : Prop := r.phase = some .travel ∧ r.mode = some .shared
    let boundary : Prop := counts ∧ (r.segment + 1) % 256 = 0
    let legs : Prop := r.phase = some .travel ∨ r.phase = some .overshootReturn
    let yields : Prop := slotCount s ≤ runningCount s ∧
      ∃ b q, s.msc.pending.get b = some q ∧ Eligible s q
    let handedBack := fun (p n : Int) (segment : Nat) (rest : Request) (t : State) =>
      let record : AxisRecord := { r with
        position := some p, lastStep := r.direction, segment := segment, phase := some .yielded,
        endAction := none, slot := none, drvEn := false,
        remaining := stepsTo p n (max 0 (n - axisBacklash s a)) }
      (slotCount s < runningCount s →
        Unchanged [.ldu, .msc, .geo, .bkm] s t ∧ OnlyAxes [a] s t ∧ t.axis a = record ∧
        t.msc.last = s.msc.last ∧ t.msc.pending = s.msc.pending.set a (some rest)) ∧
      (∀ b q, b ≠ a → s.msc.pending.get b = some q → q.axis = b →
        (∀ c, c ≠ b → s.msc.pending.get c = none) → Eligible s q →
        StartsWhenGranted s b q → slotCount s = runningCount s →
        OnlyAxes [a, b] s t ∧ t.axis a = record ∧ running t b = true ∧
        t.msc.last = s.msc.last ∧ t.msc.pending.get a = some rest ∧
        t.msc.pending.get b = none)
    ∃ t, exec (.step a) s = .next t ∧
      (∀ p, r.state = .moving → r.slot.isSome = true → r.position = some p → legs →
        p + one ≠ r.legEnd → ¬boundary →
        Unchanged [.ldu, .geo, .bkm] s t ∧ OnlyAxes [a] s t ∧
        (a = .hs ∨ a = .fc → Unchanged [.ldu] s t) ∧
        (counts → t.axis a = { r with
          position := some (p + one), remaining := r.remaining - 1,
          segment := (r.segment + 1) % 256, lastStep := r.direction }) ∧
        (¬counts → t.axis a = { r with
          position := some (p + one), remaining := r.remaining - 1, lastStep := r.direction })) ∧
      (∀ p, r.state = .moving → r.slot.isSome = true → r.position = some p → boundary →
        p + one ≠ r.legEnd →
        Unchanged [.ldu, .geo, .bkm] s t ∧ OnlyAxes [a] s t ∧
        (yields → t.axis a = { r with
          position := some (p + one), segment := 0, lastStep := r.direction,
          phase := some .stopRamp, endAction := some .yield,
          remaining := min 32 (((r.legEnd - (p + one)).natAbs : Int)) }) ∧
        (¬yields → t.axis a = { r with
          position := some (p + one), segment := 0, lastStep := r.direction,
          remaining := r.remaining - 1 })) ∧
      (∀ p n, r.state = .moving → r.slot.isSome = true → r.position = some p → legs →
        r.direction = .negative → p - 1 = r.legEnd → r.target = some n → n ≠ r.legEnd →
        ¬boundary →
        Unchanged [.ldu, .geo, .bkm] s t ∧ OnlyAxes [a] s t ∧ t.axis a = { r with
          position := some (p - 1), lastStep := .negative, segment := (t.axis a).segment,
          phase := some .reverse, endAction := none, dwell := some .returnLeg,
          remaining := n - r.legEnd }) ∧
      (∀ p n g source x, r.state = .moving → r.slot.isSome = true → r.position = some p →
        boundary → r.direction = .negative → p - 1 = r.legEnd → r.target = some n →
        n ≠ r.legEnd → r.tag = some g → r.source = some source →
        s.msc.inForce.get a = some x →
        (¬yields → Unchanged [.ldu, .geo, .bkm] s t ∧ OnlyAxes [a] s t ∧ t.axis a = { r with
          position := some (p - 1), lastStep := .negative, segment := 0,
          phase := some .reverse, endAction := none, dwell := some .returnLeg,
          remaining := n - r.legEnd }) ∧
        (yields → handedBack (p - 1) n 0 ⟨a, .absolute n, .shared, none, g, source, x⟩ t)) ∧
      (∀ p, r.state = .moving → r.slot.isSome = true → r.position = some p → legs →
        (r.direction = .positive ∨ r.target = some r.legEnd) → p + one = r.legEnd →
        NonePending s →
        OnlyAxes [a] s t ∧ t.axis a = { r with
          state := .idle, position := some (p + one), phase := none, endAction := none,
          remaining := 0, dwell := none, slot := none, drvEn := false, lastStep := r.direction,
          maxInForce := max (axisMaximum s a) (p + one), segment := (t.axis a).segment } ∧
        t.msc.last.get a = ⟨r.tag, r.source, some .done, some (p + one)⟩ ∧
        (∀ b, s.msc.inForce.get a = some b → b.port = some .m →
          causeHeld t.pif.attnM.pending .move = true) ∧
        ∀ b g, s.msc.inForce.get a = some b → b.member = true → s.msc.group = some g →
          g.outcome = .inProgress →
          ((∀ c, c ≠ a → g.members.get c = none ∨ g.members.get c = some .done) →
            t.msc.group = some { g with
              members := g.members.set a (some .done), outcome := .done } ∧
            (g.port = .m → causeHeld t.pif.attnM.pending .recall = true) ∧
            (g.port = .s → causeHeld t.pif.attnS.pending .recall = true)) ∧
          ((∃ c, c ≠ a ∧ g.members.get c ≠ none ∧ g.members.get c ≠ some .done) →
            t.msc.group = some { g with members := g.members.set a (some .done) })) ∧
      (∀ p, r.state = .moving → r.slot.isSome = true → r.position = some p →
        r.phase = some .stopRamp → r.endAction = some .cancel → r.remaining ≤ 1 →
        NonePending s →
        OnlyAxes [a] s t ∧ (t.axis a).state = .idle ∧ (t.axis a).position = some (p + one) ∧
        (t.axis a).slot = none ∧ (t.axis a).drvEn = false ∧ (t.axis a).phase = none ∧
        t.msc.last.get a = ⟨r.tag, r.source, some .cancelled, some (p + one)⟩) ∧
      (∀ p n g source x, r.state = .moving → r.slot.isSome = true → r.position = some p →
        r.phase = some .stopRamp → r.endAction = some .yield → r.remaining ≤ 1 →
        r.target = some n → r.tag = some g → r.source = some source →
        s.msc.inForce.get a = some x → n ≠ p + one →
        handedBack (p + one) n r.segment ⟨a, .absolute n, .shared, none, g, source, x⟩ t) ∧
      (r.state = .homing → (r.phase = some .seek ∨ r.phase = some .release) →
        (1 < r.remaining → Unchanged [.ldu] s t ∧ OnlyAxes [a] s t ∧
          t.axis a = { r with remaining := r.remaining - 1, lastStep := r.direction }) ∧
        (r.remaining ≤ 1 → NonePending s → OnlyAxes [a] s t ∧ (t.axis a).state = .lost ∧
          (t.axis a).position = none ∧ (t.axis a).slot = none ∧ (t.axis a).drvEn = false ∧
          t.msc.last.get a = ⟨r.tag, r.source, some .homeNotFound, none⟩))

/-- The reversal dwell: before a return leg it leads to OVERSHOOT_RETURN, after a stop ramp or a
retarget to the first leg of the plan from where the axis stands, or to the end of the move when that
plan has no steps (R67, R68, R72), after a HOME to the homing, before SEEK to that stage, or past it
with the switch asserted, before RELEASE to that stage or, with the switch released by then, to the end
of the homing (R75, R76). Without a dwell nothing expires (log 4). The direction of the last step after
a retarget and the loop with a backlash of 0 rest on log 15 and 16, the switch at the dwells on log 17,
the fields of a homing in force on log 19, and those kept after an end on log 18 and 20. -/
def Obligations.DwellExpiryStartsTheNextLeg : Prop :=
  ∀ (a : Axis) (s : State), s.inReset = false →
    let r := s.axis a
    ∃ t, exec (.dwellExpiry a) s = .next t ∧ (r.dwell = none → t = s) ∧
      (∀ n, r.dwell = some .returnLeg → r.target = some n →
        Unchanged [.ldu] s t ∧ OnlyAxes [a] s t ∧ t.axis a = { r with
          phase := some .overshootReturn, direction := .positive, dirHigh := true,
          dwell := none, legEnd := n }) ∧
      (∀ p n, r.dwell = some .firstLeg ∨ r.dwell = some .replan → r.position = some p →
        r.target = some n →
        let approach := max 0 (n - axisBacklash s a)
        let still : Prop := p = n ∧ (n = 0 ∨ approach = n ∨
          (r.dwell = some .firstLeg ∧ r.lastStep = .positive))
        (still → NonePending s → OnlyAxes [a] s t ∧ t.axis a = restingAt s a p ∧
          t.msc.last.get a = ⟨r.tag, r.source, some .done, some p⟩) ∧
        (p < n → Unchanged [.ldu] s t ∧ OnlyAxes [a] s t ∧ t.axis a = { r with
          phase := some .travel, direction := .positive, dirHigh := true, endAction := none,
          dwell := none, legEnd := n, remaining := n - p }) ∧
        (n ≤ p → ¬still → Unchanged [.ldu] s t ∧ OnlyAxes [a] s t ∧ t.axis a = { r with
          phase := some .travel, direction := .negative, dirHigh := false, endAction := none,
          dwell := none, legEnd := approach, remaining := (p - approach) + (n - approach) })) ∧
      (r.dwell = some .homing →
        Unchanged [.ldu, .scn] s t ∧ t.scn = { s.scn with motion := true } ∧ OnlyAxes [a] s t ∧
        let homing : AxisRecord := { r with
          state := .homing, position := some 0, target := none, start := none,
          mode := some .held, rate := some 600 }
        (r.switch = false → t.axis a = { homing with
          phase := some .seek, endAction := none, dwell := none, direction := .negative,
          dirHigh := false,
          remaining := axisMaximum s a + divTrunc (axisMaximum s a) 8 }) ∧
        (r.switch = true → t.axis a = { homing with
          phase := some .reverse, endAction := none, dwell := some .release,
          remaining := 200 })) ∧
      (r.dwell = some .seek → r.switch = false →
        Unchanged [.ldu] s t ∧ OnlyAxes [a] s t ∧ t.axis a = { r with
          phase := some .seek, endAction := none, dwell := none, direction := .negative,
          dirHigh := false,
          remaining := axisMaximum s a + divTrunc (axisMaximum s a) 8 }) ∧
      (r.dwell = some .seek → r.switch = true →
        Unchanged [.ldu] s t ∧ OnlyAxes [a] s t ∧ t.axis a = { r with
          phase := some .reverse, endAction := none, dwell := some .release,
          remaining := 200 }) ∧
      (r.dwell = some .release → r.switch = true →
        Unchanged [.ldu] s t ∧ OnlyAxes [a] s t ∧ t.axis a = { r with
          phase := some .release, direction := .positive, dirHigh := true, dwell := none }) ∧
      (r.dwell = some .release → r.switch = false → NonePending s →
        OnlyAxes [a] s t ∧ (t.axis a).state = .idle ∧ (t.axis a).position = some 0 ∧
        (t.axis a).direction = .positive ∧ (t.axis a).slot = none ∧
        (t.axis a).drvEn = false ∧
        t.msc.last.get a = ⟨r.tag, r.source, some .done, some 0⟩)

/-- An accepted change of a home switch: the watch on a stepping move beyond the home window, which
ends the recall group LOST when the move is a member of it, the end of SEEK, the end of RELEASE;
otherwise only the debounced level changes (R76, R78, R79, R96). A level that is no change does
nothing (log 4). The direction after a homing without a step of RELEASE rests on log 18. -/
def Obligations.HomeSwitchChangeWatchesAndHomes : Prop :=
  ∀ (a : Axis) (b : Bool) (s : State), s.inReset = false →
    let r := s.axis a
    let steps : Prop := r.phase = some .travel ∨ r.phase = some .overshootReturn ∨
      r.phase = some .stopRamp
    ∃ t, exec (.homeSwitchChange a b) s = .next t ∧ (b = r.switch → t = s) ∧
      (∀ p, b = true → r.switch = false → r.state = .moving → steps → r.position = some p →
        200 < p → NonePending s →
        OnlyAxes [a] s t ∧ (t.axis a).state = .lost ∧ (t.axis a).position = none ∧
        (t.axis a).slot = none ∧ (t.axis a).drvEn = false ∧ (t.axis a).switch = true ∧
        t.msc.last.get a = ⟨r.tag, r.source, some .limitHit, none⟩ ∧
        ∀ x g, s.msc.inForce.get a = some x → x.member = true → s.msc.group = some g →
          g.outcome = .inProgress → t.msc.group = some { g with
            members := g.members.set a (some .limitHit), outcome := .lost } ∧
          (g.port = .m → causeHeld t.pif.attnM.pending .recall = true) ∧
          (g.port = .s → causeHeld t.pif.attnS.pending .recall = true)) ∧
      (b ≠ r.switch →
        (r.state = .idle ∨ r.state = .lost ∨ (r.state = .moving ∧
          (b = false ∨ ¬steps ∨ ∃ p, r.position = some p ∧ p ≤ 200)) ∨
          (r.state = .homing ∧ r.phase = some .reverse)) →
        Unchanged [.ldu] s t ∧ OnlyAxes [a] s t ∧ t.axis a = { r with switch := b }) ∧
      (b = true → r.switch = false → r.state = .homing → r.phase = some .seek →
        Unchanged [.ldu] s t ∧ OnlyAxes [a] s t ∧ t.axis a = { r with
          switch := true, phase := some .reverse, endAction := none, dwell := some .release,
          remaining := 200 }) ∧
      (b = false → r.switch = true → r.state = .homing → r.phase = some .release →
        NonePending s → OnlyAxes [a] s t ∧ (t.axis a).state = .idle ∧
        (t.axis a).position = some 0 ∧ (t.axis a).direction = .positive ∧
        (t.axis a).slot = none ∧ (t.axis a).drvEn = false ∧ (t.axis a).switch = false ∧
        t.msc.last.get a = ⟨r.tag, r.source, some .done, some 0⟩)

/-! ## Lens memories and drift tracking -/

/-- PRESET_SAVE by the checks of R98 in their order, and the record it builds; PRESET_ERASE erases a
record and marks its item, and leaves an EMPTY slot as it is (R98, R99). -/
def Obligations.PresetSaveAndEraseChangeTheSlot : Prop :=
  (∀ (b : Byte) (n : Fin 10) (s : State), s.inReset = false → slotOfByte b = some n →
    ∃ t, exec (.presetErase .m [b]) s = .next t ∧ Answered .m 0x29 [b] .ok [] s t ∧
      (s.ptb.slots.get n = none → Unchanged [.ports] s t) ∧
      (s.ptb.slots.get n ≠ none → Unchanged [.ports, .ptb, .nvs] s t ∧
        t.ptb.slots.get n = none ∧ (∀ m, m ≠ n → t.ptb.slots.get m = s.ptb.slots.get m) ∧
        Marked (.preset n) t ∧ t.nvs.slots = s.nvs.slots ∧ t.nvs.geometry = s.nvs.geometry)) ∧
  ∀ (d : List Byte) (x : SaveOperands) (s : State), s.inReset = false → d.length = 11 →
    parseSave d = some x →
    let busy : Prop := ∃ a, x.axes.get a = true ∧
      (running s a = true ∨ yielded s a = true ∨ (s.msc.pending.get a).isSome = true)
    let lost : Prop := ∃ a, x.axes.get a = true ∧ (s.axis a).state = .lost
    let unread : Prop := x.axes.fc = true ∧ normalTemp s .lns = none
    ∃ t, exec (.presetSave .m d) s = .next t ∧
      (busy → Answered .m 0x28 d .busy [] s t ∧ Unchanged [.ports] s t) ∧
      (¬busy → lost → Answered .m 0x28 d .axisLost [] s t ∧ Unchanged [.ports] s t) ∧
      (¬busy → ¬lost → unread → Answered .m 0x28 d .notReady [] s t ∧ Unchanged [.ports] s t) ∧
      (¬busy → ¬lost → ¬unread → Answered .m 0x28 d .ok [] s t ∧
        Unchanged [.ports, .ptb, .nvs] s t ∧ Marked (.preset x.slot) t ∧
        t.nvs.slots = s.nvs.slots ∧ t.nvs.geometry = s.nvs.geometry ∧
        (∀ n, n ≠ x.slot → t.ptb.slots.get n = s.ptb.slots.get n) ∧
        ∃ y, t.ptb.slots.get x.slot = some y ∧ y.label = x.label ∧
          (∀ a, y.positions.get a = if x.axes.get a then shownPosition s a else none) ∧
          y.anchor = (if x.axes.fc then normalTemp s .lns else none) ∧
          y.correction = (if x.axes.fc then some s.fdt.correction else none) ∧
          y.trims = if x.trims then some ⟨s.geo.settings.trims, s.geo.settings.keystone⟩
            else none)

/-- PRESET_RECALL by the checks of R100 in their order; an accepted one forms a new group and applies
the trims; without positions the group ends DONE at once; with every slot in use its members wait,
the focus with its compensation behind the zoom (R96, R100, R101, R102). -/
def Obligations.PresetRecallFormsTheGroup : Prop :=
  ∀ (p : Port) (b g : Byte) (n : Fin 10) (s : State), s.inReset = false → p = .m ∨ p = .s →
    slotOfByte b = some n →
    ∃ t, exec (.presetRecall p [b, g]) s = .next t ∧
      (s.lps.power = .off →
        Answered p 0x2A [b, g] .noPower [] s t ∧ Unchanged [.ports] s t) ∧
      (s.lps.power ≠ .off → s.ptb.slots.get n = none →
        Answered p 0x2A [b, g] .slotEmpty [] s t ∧ Unchanged [.ports] s t) ∧
      ∀ x, s.lps.power ≠ .off → s.ptb.slots.get n = some x →
        ((∃ a, (x.positions.get a).isSome = true ∧ positionKnown s a = false) →
          Answered p 0x2A [b, g] .axisLost [] s t ∧ Unchanged [.ports] s t) ∧
        ((∀ a, (x.positions.get a).isSome = true → positionKnown s a = true) →
          Answered p 0x2A [b, g] .ok [] s t ∧
          Unchanged [.ports, .attention, .scn, .ldu, .msc, .fdt, .geo, .bkm, .nvs] s t ∧
          (∃ y, t.msc.group = some y ∧ y.slot = n ∧ y.tag = g ∧ y.port = p) ∧
          (x.trims = none → t.geo.settings = s.geo.settings ∧ samePart .nvs s t) ∧
          (∀ z, x.trims = some z → Marked .geometry t ∧
            t.geo.settings = { s.geo.settings with trims := z.trims, keystone := z.keystone }) ∧
          ((∀ a, x.positions.get a = none) →
            (∃ y, t.msc.group = some y ∧ y.outcome = .done) ∧
            (p = .m → causeHeld t.pif.attnM.pending .recall = true) ∧
            (p = .s → causeHeld t.pif.attnS.pending .recall = true)) ∧
          (slotCount s ≤ runningCount s → groupInProgress s = false →
            (∀ a, (x.positions.get a).isSome = true → running s a = false ∧
              yielded s a = false ∧ s.msc.pending.get a = none) →
            ∀ a y, x.positions.get a = some y →
              (∃ w, t.msc.group = some w ∧ w.members.get a = some .waiting ∧
                w.outcome = .inProgress) ∧
              ∃ stamp, t.msc.pending.get a = some
                { axis := a,
                  kind := .absolute (if a = .fc then y + compensationOf s x else y),
                  mode := .shared,
                  follow := if a = .fc ∧ x.positions.zm.isSome then some .zm else none,
                  tag := g, source := .recall,
                  book := ⟨some p, stamp, true, if a = .fc
                    then x.anchor.map (fun v => ⟨compensationOf s x, v⟩) else none⟩ }))

/-- DRIFT: ON enables tracking and sets a missing anchor from a NORMAL LNS; OFF disables it and
suspends at once; nothing already issued is withdrawn; the answer is the record as it then stands
(R108). At a sweep end the first row of R109 that applies decides the tracker state, and in LIT
without a trip the correction due is issued as a request, or found too small or blocked (R110, R111).
The end of a focus move re-anchors the tracker, or accounts for the drift move (R106, R107, R112; the
tracker state after a re-anchoring end rests on log 25). -/
def Obligations.DriftCommandSetsTheTracker : Prop :=
  (∀ s : State, s.inReset = false →
    (∃ t, exec (.drift .m [1]) s = .next t ∧
      Answered .m 0x34 [1] .ok (trackerBytes t.fdt) s t ∧ Unchanged [.ports, .fdt] s t ∧
      (∀ x, s.fdt.anchor = none → normalTemp s .lns = some x →
        t.fdt = { s.fdt with enable := true, anchor := some x, correction := 0 }) ∧
      (s.fdt.anchor ≠ none ∨ normalTemp s .lns = none →
        t.fdt = { s.fdt with enable := true })) ∧
    (∃ t, exec (.drift .m [0]) s = .next t ∧
      Answered .m 0x34 [0] .ok (trackerBytes t.fdt) s t ∧ Unchanged [.ports, .fdt] s t ∧
      t.fdt = { s.fdt with enable := false, state := .suspended }) ∧
    (∀ b : Byte, 2 ≤ b.toNat → ∃ t, exec (.drift .m [b]) s = .next t ∧
      Answered .m 0x34 [b] .badValue [] s t ∧ Unchanged [.ports] s t)) ∧
  (∀ (k : BitVec 12) (s : State), s.inReset = false → s.scn.conversion = .sweep .acz →
    let r := s.axis .fc
    let warm := fun x : Int => (s.channel .lns).condition = .normal ∧ (s.channel .lns).temp = some x
    let possible : Prop := s.lps.power = .lit ∧ s.fdt.enable = true ∧ s.fdt.anchor ≠ none ∧
      ∃ x, warm x
    let free : Prop := r.state = .idle ∧ s.msc.pending.get .fc = none ∧
      (s.axis .zm).state ≠ .lost ∧ (s.axis .zm).state ≠ .homing
    ∃ t, exec (.conversionComplete .acz k) s = .next t ∧
      (¬possible → t.fdt = { s.fdt with state := .suspended }) ∧
      (possible → NoTripDue s →
        (s.fdt.outstanding ≠ none → t.fdt = { s.fdt with state := .correcting }) ∧
        (s.fdt.outstanding = none → ¬free → t.fdt = { s.fdt with state := .suspended }) ∧
        ∀ z p x c, s.fdt.outstanding = none → free → running s .fc = false →
          yielded s .fc = false → (s.axis .zm).position = some z → r.position = some p →
          warm x → s.fdt.anchor = some c →
          let desired := clamp (-120) 120 (divHalfAway (driftCoefficient s z * (x - c)) 100)
          let delta := desired - s.fdt.correction
          let q := clamp 0 (axisMaximum s .fc) (p + delta)
          let blocked : Prop := q = p ∨ (0 < delta ∧ q < p) ∨ (delta < 0 ∧ p < q)
          let issued : Prop := ¬(-2 < delta ∧ delta < 2) ∧ ¬blocked
          (¬issued → t.fdt = { s.fdt with state := .watching } ∧ t.msc = s.msc ∧
            t.ldu = s.ldu) ∧
          (issued → slotCount s ≤ runningCount s →
            t.fdt = { s.fdt with outstanding := some delta, state := .correcting } ∧
            t.ldu = s.ldu ∧ t.msc.pending = s.msc.pending.set .fc (some
              ⟨.fc, .relative delta, .held, none, 0, .drift,
                ⟨none, s.msc.nextStamp, false, none⟩⟩)) ∧
          (issued → (∀ a, running s a = false) → NonePending s →
            ¬(r.switch = true ∧ 200 < p) →
            t.fdt = { s.fdt with outstanding := some delta, state := .correcting } ∧
            NonePending t ∧ OnlyAxes [.fc] s t ∧ (t.axis .fc).state = .moving ∧
            (t.axis .fc).slot = some .slot0 ∧ (t.axis .fc).target = some q ∧
            (t.axis .fc).start = some p ∧ (t.axis .fc).tag = some 0 ∧
            (t.axis .fc).source = some .drift ∧ (t.axis .fc).mode = some .held))) ∧
  ∀ s : State, s.inReset = false →
    let r := s.axis .fc
    let watches := fun anchor : Option Int => s.lps.power = .lit ∧ s.fdt.enable = true ∧
      anchor ≠ none ∧ normalTemp s .lns ≠ none ∧
      ((s.axis .zm).state = .idle ∨ (s.axis .zm).state = .moving)
    let settled := fun (x : Fdt) (t : State) =>
      (watches x.anchor → t.fdt = { x with state := .watching }) ∧
      (¬watches x.anchor → t.fdt = { x with state := .suspended })
    ∃ t, exec (.step .fc) s = .next t ∧
      (∀ p, r.state = .moving → r.slot.isSome = true → r.position = some p →
        (r.phase = some .travel ∨ r.phase = some .overshootReturn) → r.direction = .positive →
        p + 1 = r.legEnd → NonePending s →
        (r.source = some .m → r.target ≠ none →
          settled { s.fdt with anchor := normalTemp s .lns, correction := 0 } t) ∧
        (∀ b c, r.source = some .recall → s.msc.inForce.get .fc = some b → b.comp = some c →
          settled { s.fdt with anchor := some c.saved, correction := c.steps } t) ∧
        (∀ q n delta, r.source = some .drift → r.start = some q → r.target = some n →
          s.fdt.outstanding = some delta →
          let added := if n = q ∨ (q < n ∧ 0 < delta) ∨ (n < q ∧ delta < 0) then n - q else 0
          settled { s.fdt with outstanding := none, correction := s.fdt.correction + added } t)) ∧
      (∀ p, r.state = .moving → r.slot.isSome = true → r.position = some p →
        r.phase = some .stopRamp → r.endAction = some .cancel → r.remaining ≤ 1 →
        NonePending s →
        (r.source = some .drift → settled { s.fdt with outstanding := none } t) ∧
        (r.source = some .m ∨ r.source = some .recall → t.fdt = s.fdt))

/-! ## Geometry, banks, profile, store -/

/-- TRIMS, KEYSTONE and ORIENTATION store a changed setting, mark the item and ask for a build, and
change nothing when the setting is the same; REBUILD asks for a build; each answers the geometry
record, whose layout is the model's choice (log 24, 33, 43; R117, R118, R119, R122). That an ORIENTATION that changes the stored mode and
the effective orientation at once asks for one build, and so leaves the pending flag clear in IDLE, is
the model's reading (log 27). -/
def Obligations.GeometryCommandsStoreSettingsAndAskForBuilds : Prop :=
  ∀ s : State, s.inReset = false →
    let stored := fun (code : Byte) (d : List Byte) (x : Settings) (t : State) =>
      Answered .m code d .ok (geometryBytes t) s t ∧ t.geo.settings = x ∧
      (x = s.geo.settings → Unchanged [.ports] s t) ∧
      (x ≠ s.geo.settings → Unchanged [.ports, .geo, .bkm, .nvs] s t ∧ BuildAsked s t ∧
        Marked .geometry t ∧ t.nvs.slots = s.nvs.slots ∧ t.nvs.geometry = s.nvs.geometry)
    let fit := fun z : Trim => (⟨clamp (-7680) 7680 z.dx, clamp (-4320) 4320 z.dy⟩ : Trim)
    (∀ d x, parseTrims d = some x → ∃ t, exec (.trims .m d) s = .next t ∧
      stored 0x30 d { s.geo.settings with trims := ⟨fit x.tl, fit x.tr, fit x.bl, fit x.br⟩ } t) ∧
    (∀ b on, flagOfByte b = some on → ∃ t, exec (.keystone .m [b]) s = .next t ∧
      stored 0x31 [b] { s.geo.settings with keystone := on } t) ∧
    (∀ b m, orientationModeOfByte b = some m → ∃ t, exec (.orientation .m [b]) s = .next t ∧
      stored 0x32 [b] { s.geo.settings with mode := m } t) ∧
    (∃ t, exec (.rebuild .m []) s = .next t ∧
      Answered .m 0x33 [] .ok (geometryBytes t) s t ∧ t.geo.settings = s.geo.settings ∧
      Unchanged [.ports, .geo, .bkm] s t ∧ BuildAsked s t)

/-- A build that starts takes the lowest-numbered IDLE bank, else the READY one withdrawn (R136); the
bytes of the bank stay until the build ends (log 14). -/
def Obligations.BuildTakesAnIdleBankOrTheReadyOne : Prop :=
  ∀ s : State, s.inReset = false → BankLaw s → s.geo.building = false →
    ∃ t, exec (.rebuild .m []) s = .next t ∧ ∃ i,
      t.bkm.banks = s.bkm.banks.set i ⟨.build, 0, (s.bkm.banks.get i).image⟩ ∧
      t.bkm.counter = s.bkm.counter ∧ t.bkm.loan = s.bkm.loan ∧
      ((∃ j, (s.bkm.banks.get j).role = .idle) →
        bankIn s.bkm.banks .idle = some i ∧ t.bkm.tblRdy = s.bkm.tblRdy) ∧
      ((∀ j, (s.bkm.banks.get j).role ≠ .idle) →
        (s.bkm.banks.get i).role = .ready ∧ t.bkm.tblRdy = false)

/-- The end of a build: its verdict, GEOMETRY on Port M, the published table with the next generation
in the place of the older READY one, or the bank handed back; a pending request starts the next build
(R121, R133, R137, R138). That the image is written whole here is the model's choice (log 14). -/
def Obligations.BuildEndPublishesOrHandsBack : Prop :=
  ∀ (x : Snapshot) (i : BankId) (s : State), s.inReset = false → s.geo.building = true →
    s.geo.snapshot = some x → bankIn s.bkm.banks .build = some i →
    let gen := if s.bkm.counter < 65535 then s.bkm.counter + 1 else 1
    ∃ t, exec .buildEnd s = .next t ∧ Unchanged [.geo, .bkm, .attention] s t ∧
      JoinedM (causeBit .geometry) s t ∧ t.geo.lastReject = buildVerdict x ∧
      t.geo.settings = s.geo.settings ∧ t.geo.pendingBuild = false ∧
      t.bkm.counter = (if buildVerdict x = .none then gen else s.bkm.counter) ∧
      t.bkm.loan = s.bkm.loan ∧
      (s.geo.pendingBuild = true →
        t.geo.building = true ∧ t.geo.snapshot = some (takeSnapshot t)) ∧
      (s.geo.pendingBuild = false → t.geo.building = false ∧ t.geo.snapshot = some x ∧
        (buildVerdict x = .none → t.bkm.tblRdy = true ∧
          (t.bkm.banks.get i).role = .ready ∧ (t.bkm.banks.get i).gen = gen ∧
          (∀ k, k < 3776 →
            (t.bkm.banks.get i).image.read k = (imageBytes gen x).getD k 0) ∧
          (∀ j, bankIn s.bkm.banks .ready = some j →
            (t.bkm.banks.get j).role = .idle ∧ (t.bkm.banks.get j).gen = 0) ∧
          ∀ j, j ≠ i → bankIn s.bkm.banks .ready ≠ some j →
            t.bkm.banks.get j = s.bkm.banks.get j) ∧
        (buildVerdict x ≠ .none →
          t.bkm.banks = s.bkm.banks.set i ⟨.idle, 0, (s.bkm.banks.get i).image⟩))

/-- OPEN releases a loan, then lends the READY table, or answers NO_TABLE (R142). -/
def Obligations.OpenLendsTheReadyTable : Prop :=
  ∀ s : State, s.inReset = false → BankLaw s →
    ∃ t, exec (.openTable .v []) s = .next t ∧ Unchanged [.ports, .bkm] s t ∧
      t.bkm.counter = s.bkm.counter ∧ t.bkm.expiries = s.bkm.expiries ∧
      t.bkm.tblRdy = false ∧
      (s.bkm.loan = none → bankIn s.bkm.banks .ready = none →
        Answered .v 0x40 [] .noTable [] s t ∧ t.bkm.loan = none ∧
        t.bkm.banks = s.bkm.banks) ∧
      (∀ i, bankIn s.bkm.banks .ready = some i →
        t.bkm.loan = some ⟨i, (s.bkm.banks.get i).gen, 200⟩ ∧
        t.bkm.banks.get i = { s.bkm.banks.get i with role := .loaned } ∧
        Answered .v 0x40 [] .ok (bytes2 (s.bkm.banks.get i).gen ++ bytes2 3776 ++
          bytes2 (imageCheck (s.bkm.banks.get i).image)) s t ∧
        ∀ l, s.bkm.loan = some l → t.bkm.banks.get l.bank =
          ⟨.idle, 0, (s.bkm.banks.get l.bank).image⟩) ∧
      (∀ l, s.bkm.loan = some l → bankIn s.bkm.banks .ready = none →
        t.bkm.loan = some ⟨l.bank, l.gen, 200⟩ ∧ t.bkm.banks = s.bkm.banks ∧
        Answered .v 0x40 [] .ok (bytes2 l.gen ++ bytes2 3776 ++
          bytes2 (imageCheck (s.bkm.banks.get l.bank).image)) s t)

/-- READ: its two checks in order, then the bytes of the loaned image (R144). -/
def Obligations.ReadAnswersTheBytesOfTheLoanedImage : Prop :=
  ∀ (a b c d : Byte) (s : State), s.inReset = false →
    let offset := word2 a b
    let count := word2 c d
    let outside : Prop := count < 1 ∨ 256 < count ∨ 3776 < offset + count
    ∃ t, exec (.readTable .v [a, b, c, d]) s = .next t ∧ Unchanged [.ports] s t ∧
      (outside → Answered .v 0x41 [a, b, c, d] .badValue [] s t) ∧
      (¬outside → s.bkm.loan = none → Answered .v 0x41 [a, b, c, d] .noLoan [] s t) ∧
      (∀ l, ¬outside → s.bkm.loan = some l → Answered .v 0x41 [a, b, c, d] .ok
        ((List.range count).map (fun k => (s.bkm.banks.get l.bank).image.read (offset + k))) s t)

/-- TAKE by the loan and the check value offered (R145). -/
def Obligations.TakePutsTheLoanedTableLive : Prop :=
  ∀ (a b c d : Byte) (s : State), s.inReset = false → BankLaw s →
    let gen := word2 a b
    ∃ t, exec (.takeTable .v [a, b, c, d]) s = .next t ∧
      ((∀ l, s.bkm.loan = some l → l.gen ≠ gen) →
        Answered .v 0x42 [a, b, c, d] .stale [] s t ∧ Unchanged [.ports] s t) ∧
      ∀ l, s.bkm.loan = some l → l.gen = gen →
        (imageCheck (s.bkm.banks.get l.bank).image ≠ word2 c d →
          Answered .v 0x42 [a, b, c, d] .checkFail [] s t ∧ Unchanged [.ports] s t) ∧
        (imageCheck (s.bkm.banks.get l.bank).image = word2 c d →
          Answered .v 0x42 [a, b, c, d] .ok (bytes2 gen) s t ∧
          Unchanged [.ports, .attention, .bkm] s t ∧ JoinedM (causeBit .live) s t ∧
          t.bkm.loan = none ∧ t.bkm.counter = s.bkm.counter ∧ t.bkm.tblRdy = s.bkm.tblRdy ∧
          t.bkm.banks.get l.bank = { s.bkm.banks.get l.bank with role := .live } ∧
          ∀ j, j ≠ l.bank →
            ((s.bkm.banks.get j).role = .live →
              t.bkm.banks.get j = ⟨.idle, 0, (s.bkm.banks.get j).image⟩) ∧
            ((s.bkm.banks.get j).role ≠ .live → t.bkm.banks.get j = s.bkm.banks.get j))

/-- DROP and the expiry of the loan release the table: READY again when no newer one is, else IDLE;
DROP answers STALE for any other generation, an expiry counts, and an expiry without a loan has no
effect (R143, R146). -/
def Obligations.DropAndExpiryReleaseTheLoan : Prop :=
  ∀ s : State, s.inReset = false → BankLaw s →
    let released := fun (l : Loan) (t : State) =>
      t.bkm.loan = none ∧ t.bkm.counter = s.bkm.counter ∧ t.bkm.tblRdy = true ∧
      (bankIn s.bkm.banks .ready = none → t.bkm.banks = s.bkm.banks.set l.bank
        { s.bkm.banks.get l.bank with role := .ready }) ∧
      (bankIn s.bkm.banks .ready ≠ none → t.bkm.banks = s.bkm.banks.set l.bank
        ⟨.idle, 0, (s.bkm.banks.get l.bank).image⟩)
    (∀ a b : Byte, ∃ t, exec (.dropTable .v [a, b]) s = .next t ∧
      ((∀ l, s.bkm.loan = some l → l.gen ≠ word2 a b) →
        Answered .v 0x43 [a, b] .stale [] s t ∧ Unchanged [.ports] s t) ∧
      ∀ l, s.bkm.loan = some l → l.gen = word2 a b →
        Answered .v 0x43 [a, b] .ok [] s t ∧ Unchanged [.ports, .bkm] s t ∧
        t.bkm.expiries = s.bkm.expiries ∧ released l t) ∧
    (∃ t, exec .loanExpiry s = .next t ∧ Unchanged [.bkm] s t ∧
      (s.bkm.loan = none → t = s) ∧
      ∀ l, s.bkm.loan = some l →
        t.bkm.expiries = min 65535 (s.bkm.expiries + 1) ∧ released l t)

/-- PROFILE_WRITE by the steps of R170: whole parameters, no covered axis in use, the clamped values
laid over the section, its conditions, then the new values. An axis maximum acts on the maximum in
force (R60, R82); a change of Ts, Te, Lf or H in LIT takes the derate update with the presented LSH
temperature and the limits at once (R57); a write of OPTICS or of VS's centre asks for a build
(R122). That a write changes a parameter when its value differs, that a condition is tested when one of
its parameters is covered, and that an unwritten centre is not clamped are the model's reading (log
32). In LIT the presented LSH is NORMAL (R53); for another LSH the model leaves the derate limit and
computes the limits again (log 35). -/
def Obligations.ProfileWriteFollowsItsSteps : Prop :=
  ∀ (b hi lo : Byte) (data : List Byte) (k : ProfileSection) (s : State), s.inReset = false →
    1 ≤ data.length → data.length ≤ 252 → profileSectionOfByte b = some k →
    let d := b :: hi :: lo :: data
    ∃ t, exec (.profileWrite .m d) s = .next t ∧
      (writeTarget k (word2 hi lo) data = none →
        Answered .m 0x38 d .badValue [] s t ∧ Unchanged [.ports] s t) ∧
      ∀ i raw, writeTarget k (word2 hi lo) data = some (i, raw) →
        let inUse : Prop := k = .axis ∧ ∃ a, i < 5 * axisNumber a + 5 ∧
          5 * axisNumber a < i + raw.length ∧ (running s a = true ∨ yielded s a = true)
        let new := overlay (s.prf.section_ k) i (clampWrite (s.prf.section_ k) k i raw)
        (inUse → Answered .m 0x38 d .busy [] s t ∧ Unchanged [.ports] s t) ∧
        (¬inUse → conditionsHold k new i raw.length = false →
          Answered .m 0x38 d .badValue [] s t ∧ Unchanged [.ports] s t) ∧
        (¬inUse → conditionsHold k new i raw.length = true →
          Answered .m 0x38 d .ok [] s t ∧ t.prf = s.prf.setSection k new ∧
          Unchanged [.ports, .attention, .prf, .lps, .ldu, .geo, .bkm] s t ∧
          (k = .sensor ∨ k = .fan → Unchanged [.ports, .prf] s t) ∧
          (k = .light → Unchanged [.ports, .attention, .prf, .lps] s t) ∧
          (k = .light → s.lps.power ≠ .lit ∨
            (s.prf.light.drop 16).take 4 = (new.drop 16).take 4 → t.lps = s.lps) ∧
          (∀ x, k = .light → s.lps.power = .lit →
            (s.prf.light.drop 16).take 4 ≠ (new.drop 16).take 4 →
            normalTemp s .lsh = some x → LightFollows x s t) ∧
          (k = .light → s.lps.power = .lit →
            (s.prf.light.drop 16).take 4 ≠ (new.drop 16).take 4 → normalTemp s .lsh = none →
            let e := limitUnder t s.lps.derate
            t.lps = { s.lps with
              effLimit := e, lightLevel := min (s.lps.request.getD 0) e }) ∧
          (k = .axis → i ≤ 6 → 6 < i + raw.length → BuildAsked s t) ∧
          (k = .axis → ¬(i ≤ 6 ∧ 6 < i + raw.length) → samePart .geo s t ∧ samePart .bkm s t) ∧
          (k = .axis → Unchanged [.ports, .prf, .ldu, .geo, .bkm] s t ∧
            ∀ a, t.axis a = { s.axis a with
              maxInForce := if axisMaximum t a = axisMaximum s a then (s.axis a).maxInForce
                else max (axisMaximum t a) ((s.axis a).position.getD (axisMaximum t a)) }) ∧
          (k = .optics → Unchanged [.ports, .prf, .geo, .bkm] s t ∧ BuildAsked s t))

/-- PROFILE_READ answers the bytes of the section from the offset on, or BAD_VALUE when the range runs
beyond it (R170). -/
def Obligations.ProfileReadAnswersTheSectionBytes : Prop :=
  ∀ (b hi lo n : Byte) (k : ProfileSection) (s : State), s.inReset = false →
    profileSectionOfByte b = some k → 1 ≤ n.toNat → n.toNat ≤ 252 →
    let bytes := sectionBytes s.prf k
    let d := [b, hi, lo, n]
    ∃ t, exec (.profileRead .m d) s = .next t ∧ Unchanged [.ports] s t ∧
      (word2 hi lo + n.toNat ≤ bytes.length → Answered .m 0x39 d .ok
        ((List.range n.toNat).map (fun j => bytes.getD (word2 hi lo + j) 0)) s t) ∧
      (bytes.length < word2 hi lo + n.toNat → Answered .m 0x39 d .badValue [] s t)

/-- The end of a store write: the item holds the copy taken at its start with the check value of its
bytes, whose layout is free (log 8), NV is raised, and the lowest-numbered dirty item is written next
(R171, R172); without a write nothing ends (log 4). -/
def Obligations.StoreWriteEndKeepsTheCopyAndStartsTheNext : Prop :=
  ∀ s : State, s.inReset = false →
    ∃ t, exec .nvWriteEnd s = .next t ∧ (s.nvs.inFlight = none → t = s) ∧
      ∀ f, s.nvs.inFlight = some f →
        Unchanged [.nvs, .attention] s t ∧ JoinedBoth (causeBit .nv) s t ∧
        (∀ n c, f = .preset n c → t.nvs.geometry = s.nvs.geometry ∧
          t.nvs.slots.get n = .written c (presetCheck c) ∧
          ∀ m, m ≠ n → t.nvs.slots.get m = s.nvs.slots.get m) ∧
        (∀ c, f = .geometry c → t.nvs.geometry = .written c (settingsCheck c) ∧
          t.nvs.slots = s.nvs.slots) ∧
        (s.nvs.dirty = [] → t.nvs.dirty = [] ∧ t.nvs.inFlight = none) ∧
        (∀ i rest, s.nvs.dirty = i :: rest →
          t.nvs.dirty = rest ∧ t.nvs.inFlight = some (copyItem s i))
end

