-- ==== Sys2Proof/Laws/State.lean ====
section
/-! SUPPORT. What each setter of the state changes and leaves, field by field; the numbered records
inside it. -/

namespace Sys2Proof.Machine

variable (s : State)

@[simp] theorem State.withPending_pending (x : List Instr) : (s.withPending x).pending = x := rfl
@[simp] theorem State.withPending_choices (x : List Instr) : (s.withPending x).choices = s.choices := rfl
@[simp] theorem State.withPending_inReset (x : List Instr) : (s.withPending x).inReset = s.inReset := rfl
@[simp] theorem State.withPending_scn (x : List Instr) : (s.withPending x).scn = s.scn := rfl
@[simp] theorem State.withPending_afc (x : List Instr) : (s.withPending x).afc = s.afc := rfl
@[simp] theorem State.withPending_lps (x : List Instr) : (s.withPending x).lps = s.lps := rfl
@[simp] theorem State.withPending_ldu (x : List Instr) : (s.withPending x).ldu = s.ldu := rfl
@[simp] theorem State.withPending_msc (x : List Instr) : (s.withPending x).msc = s.msc := rfl
@[simp] theorem State.withPending_ptb (x : List Instr) : (s.withPending x).ptb = s.ptb := rfl
@[simp] theorem State.withPending_fdt (x : List Instr) : (s.withPending x).fdt = s.fdt := rfl
@[simp] theorem State.withPending_geo (x : List Instr) : (s.withPending x).geo = s.geo := rfl
@[simp] theorem State.withPending_bkm (x : List Instr) : (s.withPending x).bkm = s.bkm := rfl
@[simp] theorem State.withPending_pif (x : List Instr) : (s.withPending x).pif = s.pif := rfl
@[simp] theorem State.withPending_nvs (x : List Instr) : (s.withPending x).nvs = s.nvs := rfl
@[simp] theorem State.withPending_prf (x : List Instr) : (s.withPending x).prf = s.prf := rfl
@[simp] theorem State.withPending_self : s.withPending s.pending = s := rfl
@[simp] theorem State.withPending_withPending (x y : List Instr) : (s.withPending x).withPending y = s.withPending y := rfl
@[simp] theorem State.withPending_axis (x : List Instr) (a : Axis) : (s.withPending x).axis a = s.axis a := rfl
@[simp] theorem State.withPending_channel (x : List Instr) (c : Channel) : (s.withPending x).channel c = s.channel c := rfl
@[simp] theorem State.withPending_port (x : List Instr) (p : Port) : (s.withPending x).port p = s.port p := rfl

@[simp] theorem State.withChoices_pending (x : Nat) : (s.withChoices x).pending = s.pending := rfl
@[simp] theorem State.withChoices_choices (x : Nat) : (s.withChoices x).choices = x := rfl
@[simp] theorem State.withChoices_inReset (x : Nat) : (s.withChoices x).inReset = s.inReset := rfl
@[simp] theorem State.withChoices_scn (x : Nat) : (s.withChoices x).scn = s.scn := rfl
@[simp] theorem State.withChoices_afc (x : Nat) : (s.withChoices x).afc = s.afc := rfl
@[simp] theorem State.withChoices_lps (x : Nat) : (s.withChoices x).lps = s.lps := rfl
@[simp] theorem State.withChoices_ldu (x : Nat) : (s.withChoices x).ldu = s.ldu := rfl
@[simp] theorem State.withChoices_msc (x : Nat) : (s.withChoices x).msc = s.msc := rfl
@[simp] theorem State.withChoices_ptb (x : Nat) : (s.withChoices x).ptb = s.ptb := rfl
@[simp] theorem State.withChoices_fdt (x : Nat) : (s.withChoices x).fdt = s.fdt := rfl
@[simp] theorem State.withChoices_geo (x : Nat) : (s.withChoices x).geo = s.geo := rfl
@[simp] theorem State.withChoices_bkm (x : Nat) : (s.withChoices x).bkm = s.bkm := rfl
@[simp] theorem State.withChoices_pif (x : Nat) : (s.withChoices x).pif = s.pif := rfl
@[simp] theorem State.withChoices_nvs (x : Nat) : (s.withChoices x).nvs = s.nvs := rfl
@[simp] theorem State.withChoices_prf (x : Nat) : (s.withChoices x).prf = s.prf := rfl
@[simp] theorem State.withChoices_self : s.withChoices s.choices = s := rfl
@[simp] theorem State.withChoices_withChoices (x y : Nat) : (s.withChoices x).withChoices y = s.withChoices y := rfl
@[simp] theorem State.withChoices_axis (x : Nat) (a : Axis) : (s.withChoices x).axis a = s.axis a := rfl
@[simp] theorem State.withChoices_channel (x : Nat) (c : Channel) : (s.withChoices x).channel c = s.channel c := rfl
@[simp] theorem State.withChoices_port (x : Nat) (p : Port) : (s.withChoices x).port p = s.port p := rfl

@[simp] theorem State.withInReset_pending (x : Bool) : (s.withInReset x).pending = s.pending := rfl
@[simp] theorem State.withInReset_choices (x : Bool) : (s.withInReset x).choices = s.choices := rfl
@[simp] theorem State.withInReset_inReset (x : Bool) : (s.withInReset x).inReset = x := rfl
@[simp] theorem State.withInReset_scn (x : Bool) : (s.withInReset x).scn = s.scn := rfl
@[simp] theorem State.withInReset_afc (x : Bool) : (s.withInReset x).afc = s.afc := rfl
@[simp] theorem State.withInReset_lps (x : Bool) : (s.withInReset x).lps = s.lps := rfl
@[simp] theorem State.withInReset_ldu (x : Bool) : (s.withInReset x).ldu = s.ldu := rfl
@[simp] theorem State.withInReset_msc (x : Bool) : (s.withInReset x).msc = s.msc := rfl
@[simp] theorem State.withInReset_ptb (x : Bool) : (s.withInReset x).ptb = s.ptb := rfl
@[simp] theorem State.withInReset_fdt (x : Bool) : (s.withInReset x).fdt = s.fdt := rfl
@[simp] theorem State.withInReset_geo (x : Bool) : (s.withInReset x).geo = s.geo := rfl
@[simp] theorem State.withInReset_bkm (x : Bool) : (s.withInReset x).bkm = s.bkm := rfl
@[simp] theorem State.withInReset_pif (x : Bool) : (s.withInReset x).pif = s.pif := rfl
@[simp] theorem State.withInReset_nvs (x : Bool) : (s.withInReset x).nvs = s.nvs := rfl
@[simp] theorem State.withInReset_prf (x : Bool) : (s.withInReset x).prf = s.prf := rfl
@[simp] theorem State.withInReset_self : s.withInReset s.inReset = s := rfl
@[simp] theorem State.withInReset_withInReset (x y : Bool) : (s.withInReset x).withInReset y = s.withInReset y := rfl
@[simp] theorem State.withInReset_axis (x : Bool) (a : Axis) : (s.withInReset x).axis a = s.axis a := rfl
@[simp] theorem State.withInReset_channel (x : Bool) (c : Channel) : (s.withInReset x).channel c = s.channel c := rfl
@[simp] theorem State.withInReset_port (x : Bool) (p : Port) : (s.withInReset x).port p = s.port p := rfl

@[simp] theorem State.withScn_pending (x : Scn) : (s.withScn x).pending = s.pending := rfl
@[simp] theorem State.withScn_choices (x : Scn) : (s.withScn x).choices = s.choices := rfl
@[simp] theorem State.withScn_inReset (x : Scn) : (s.withScn x).inReset = s.inReset := rfl
@[simp] theorem State.withScn_scn (x : Scn) : (s.withScn x).scn = x := rfl
@[simp] theorem State.withScn_afc (x : Scn) : (s.withScn x).afc = s.afc := rfl
@[simp] theorem State.withScn_lps (x : Scn) : (s.withScn x).lps = s.lps := rfl
@[simp] theorem State.withScn_ldu (x : Scn) : (s.withScn x).ldu = s.ldu := rfl
@[simp] theorem State.withScn_msc (x : Scn) : (s.withScn x).msc = s.msc := rfl
@[simp] theorem State.withScn_ptb (x : Scn) : (s.withScn x).ptb = s.ptb := rfl
@[simp] theorem State.withScn_fdt (x : Scn) : (s.withScn x).fdt = s.fdt := rfl
@[simp] theorem State.withScn_geo (x : Scn) : (s.withScn x).geo = s.geo := rfl
@[simp] theorem State.withScn_bkm (x : Scn) : (s.withScn x).bkm = s.bkm := rfl
@[simp] theorem State.withScn_pif (x : Scn) : (s.withScn x).pif = s.pif := rfl
@[simp] theorem State.withScn_nvs (x : Scn) : (s.withScn x).nvs = s.nvs := rfl
@[simp] theorem State.withScn_prf (x : Scn) : (s.withScn x).prf = s.prf := rfl
@[simp] theorem State.withScn_self : s.withScn s.scn = s := rfl
@[simp] theorem State.withScn_withScn (x y : Scn) : (s.withScn x).withScn y = s.withScn y := rfl
@[simp] theorem State.withScn_axis (x : Scn) (a : Axis) : (s.withScn x).axis a = s.axis a := rfl
@[simp] theorem State.withScn_port (x : Scn) (p : Port) : (s.withScn x).port p = s.port p := rfl

@[simp] theorem State.withAfc_pending (x : Afc) : (s.withAfc x).pending = s.pending := rfl
@[simp] theorem State.withAfc_choices (x : Afc) : (s.withAfc x).choices = s.choices := rfl
@[simp] theorem State.withAfc_inReset (x : Afc) : (s.withAfc x).inReset = s.inReset := rfl
@[simp] theorem State.withAfc_scn (x : Afc) : (s.withAfc x).scn = s.scn := rfl
@[simp] theorem State.withAfc_afc (x : Afc) : (s.withAfc x).afc = x := rfl
@[simp] theorem State.withAfc_lps (x : Afc) : (s.withAfc x).lps = s.lps := rfl
@[simp] theorem State.withAfc_ldu (x : Afc) : (s.withAfc x).ldu = s.ldu := rfl
@[simp] theorem State.withAfc_msc (x : Afc) : (s.withAfc x).msc = s.msc := rfl
@[simp] theorem State.withAfc_ptb (x : Afc) : (s.withAfc x).ptb = s.ptb := rfl
@[simp] theorem State.withAfc_fdt (x : Afc) : (s.withAfc x).fdt = s.fdt := rfl
@[simp] theorem State.withAfc_geo (x : Afc) : (s.withAfc x).geo = s.geo := rfl
@[simp] theorem State.withAfc_bkm (x : Afc) : (s.withAfc x).bkm = s.bkm := rfl
@[simp] theorem State.withAfc_pif (x : Afc) : (s.withAfc x).pif = s.pif := rfl
@[simp] theorem State.withAfc_nvs (x : Afc) : (s.withAfc x).nvs = s.nvs := rfl
@[simp] theorem State.withAfc_prf (x : Afc) : (s.withAfc x).prf = s.prf := rfl
@[simp] theorem State.withAfc_self : s.withAfc s.afc = s := rfl
@[simp] theorem State.withAfc_withAfc (x y : Afc) : (s.withAfc x).withAfc y = s.withAfc y := rfl
@[simp] theorem State.withAfc_axis (x : Afc) (a : Axis) : (s.withAfc x).axis a = s.axis a := rfl
@[simp] theorem State.withAfc_channel (x : Afc) (c : Channel) : (s.withAfc x).channel c = s.channel c := rfl
@[simp] theorem State.withAfc_port (x : Afc) (p : Port) : (s.withAfc x).port p = s.port p := rfl

@[simp] theorem State.withLps_pending (x : Lps) : (s.withLps x).pending = s.pending := rfl
@[simp] theorem State.withLps_choices (x : Lps) : (s.withLps x).choices = s.choices := rfl
@[simp] theorem State.withLps_inReset (x : Lps) : (s.withLps x).inReset = s.inReset := rfl
@[simp] theorem State.withLps_scn (x : Lps) : (s.withLps x).scn = s.scn := rfl
@[simp] theorem State.withLps_afc (x : Lps) : (s.withLps x).afc = s.afc := rfl
@[simp] theorem State.withLps_lps (x : Lps) : (s.withLps x).lps = x := rfl
@[simp] theorem State.withLps_ldu (x : Lps) : (s.withLps x).ldu = s.ldu := rfl
@[simp] theorem State.withLps_msc (x : Lps) : (s.withLps x).msc = s.msc := rfl
@[simp] theorem State.withLps_ptb (x : Lps) : (s.withLps x).ptb = s.ptb := rfl
@[simp] theorem State.withLps_fdt (x : Lps) : (s.withLps x).fdt = s.fdt := rfl
@[simp] theorem State.withLps_geo (x : Lps) : (s.withLps x).geo = s.geo := rfl
@[simp] theorem State.withLps_bkm (x : Lps) : (s.withLps x).bkm = s.bkm := rfl
@[simp] theorem State.withLps_pif (x : Lps) : (s.withLps x).pif = s.pif := rfl
@[simp] theorem State.withLps_nvs (x : Lps) : (s.withLps x).nvs = s.nvs := rfl
@[simp] theorem State.withLps_prf (x : Lps) : (s.withLps x).prf = s.prf := rfl
@[simp] theorem State.withLps_self : s.withLps s.lps = s := rfl
@[simp] theorem State.withLps_withLps (x y : Lps) : (s.withLps x).withLps y = s.withLps y := rfl
@[simp] theorem State.withLps_axis (x : Lps) (a : Axis) : (s.withLps x).axis a = s.axis a := rfl
@[simp] theorem State.withLps_channel (x : Lps) (c : Channel) : (s.withLps x).channel c = s.channel c := rfl
@[simp] theorem State.withLps_port (x : Lps) (p : Port) : (s.withLps x).port p = s.port p := rfl

@[simp] theorem State.withLdu_pending (x : Ldu) : (s.withLdu x).pending = s.pending := rfl
@[simp] theorem State.withLdu_choices (x : Ldu) : (s.withLdu x).choices = s.choices := rfl
@[simp] theorem State.withLdu_inReset (x : Ldu) : (s.withLdu x).inReset = s.inReset := rfl
@[simp] theorem State.withLdu_scn (x : Ldu) : (s.withLdu x).scn = s.scn := rfl
@[simp] theorem State.withLdu_afc (x : Ldu) : (s.withLdu x).afc = s.afc := rfl
@[simp] theorem State.withLdu_lps (x : Ldu) : (s.withLdu x).lps = s.lps := rfl
@[simp] theorem State.withLdu_ldu (x : Ldu) : (s.withLdu x).ldu = x := rfl
@[simp] theorem State.withLdu_msc (x : Ldu) : (s.withLdu x).msc = s.msc := rfl
@[simp] theorem State.withLdu_ptb (x : Ldu) : (s.withLdu x).ptb = s.ptb := rfl
@[simp] theorem State.withLdu_fdt (x : Ldu) : (s.withLdu x).fdt = s.fdt := rfl
@[simp] theorem State.withLdu_geo (x : Ldu) : (s.withLdu x).geo = s.geo := rfl
@[simp] theorem State.withLdu_bkm (x : Ldu) : (s.withLdu x).bkm = s.bkm := rfl
@[simp] theorem State.withLdu_pif (x : Ldu) : (s.withLdu x).pif = s.pif := rfl
@[simp] theorem State.withLdu_nvs (x : Ldu) : (s.withLdu x).nvs = s.nvs := rfl
@[simp] theorem State.withLdu_prf (x : Ldu) : (s.withLdu x).prf = s.prf := rfl
@[simp] theorem State.withLdu_self : s.withLdu s.ldu = s := rfl
@[simp] theorem State.withLdu_withLdu (x y : Ldu) : (s.withLdu x).withLdu y = s.withLdu y := rfl
@[simp] theorem State.withLdu_channel (x : Ldu) (c : Channel) : (s.withLdu x).channel c = s.channel c := rfl
@[simp] theorem State.withLdu_port (x : Ldu) (p : Port) : (s.withLdu x).port p = s.port p := rfl

@[simp] theorem State.withMsc_pending (x : Msc) : (s.withMsc x).pending = s.pending := rfl
@[simp] theorem State.withMsc_choices (x : Msc) : (s.withMsc x).choices = s.choices := rfl
@[simp] theorem State.withMsc_inReset (x : Msc) : (s.withMsc x).inReset = s.inReset := rfl
@[simp] theorem State.withMsc_scn (x : Msc) : (s.withMsc x).scn = s.scn := rfl
@[simp] theorem State.withMsc_afc (x : Msc) : (s.withMsc x).afc = s.afc := rfl
@[simp] theorem State.withMsc_lps (x : Msc) : (s.withMsc x).lps = s.lps := rfl
@[simp] theorem State.withMsc_ldu (x : Msc) : (s.withMsc x).ldu = s.ldu := rfl
@[simp] theorem State.withMsc_msc (x : Msc) : (s.withMsc x).msc = x := rfl
@[simp] theorem State.withMsc_ptb (x : Msc) : (s.withMsc x).ptb = s.ptb := rfl
@[simp] theorem State.withMsc_fdt (x : Msc) : (s.withMsc x).fdt = s.fdt := rfl
@[simp] theorem State.withMsc_geo (x : Msc) : (s.withMsc x).geo = s.geo := rfl
@[simp] theorem State.withMsc_bkm (x : Msc) : (s.withMsc x).bkm = s.bkm := rfl
@[simp] theorem State.withMsc_pif (x : Msc) : (s.withMsc x).pif = s.pif := rfl
@[simp] theorem State.withMsc_nvs (x : Msc) : (s.withMsc x).nvs = s.nvs := rfl
@[simp] theorem State.withMsc_prf (x : Msc) : (s.withMsc x).prf = s.prf := rfl
@[simp] theorem State.withMsc_self : s.withMsc s.msc = s := rfl
@[simp] theorem State.withMsc_withMsc (x y : Msc) : (s.withMsc x).withMsc y = s.withMsc y := rfl
@[simp] theorem State.withMsc_axis (x : Msc) (a : Axis) : (s.withMsc x).axis a = s.axis a := rfl
@[simp] theorem State.withMsc_channel (x : Msc) (c : Channel) : (s.withMsc x).channel c = s.channel c := rfl
@[simp] theorem State.withMsc_port (x : Msc) (p : Port) : (s.withMsc x).port p = s.port p := rfl

@[simp] theorem State.withPtb_pending (x : Ptb) : (s.withPtb x).pending = s.pending := rfl
@[simp] theorem State.withPtb_choices (x : Ptb) : (s.withPtb x).choices = s.choices := rfl
@[simp] theorem State.withPtb_inReset (x : Ptb) : (s.withPtb x).inReset = s.inReset := rfl
@[simp] theorem State.withPtb_scn (x : Ptb) : (s.withPtb x).scn = s.scn := rfl
@[simp] theorem State.withPtb_afc (x : Ptb) : (s.withPtb x).afc = s.afc := rfl
@[simp] theorem State.withPtb_lps (x : Ptb) : (s.withPtb x).lps = s.lps := rfl
@[simp] theorem State.withPtb_ldu (x : Ptb) : (s.withPtb x).ldu = s.ldu := rfl
@[simp] theorem State.withPtb_msc (x : Ptb) : (s.withPtb x).msc = s.msc := rfl
@[simp] theorem State.withPtb_ptb (x : Ptb) : (s.withPtb x).ptb = x := rfl
@[simp] theorem State.withPtb_fdt (x : Ptb) : (s.withPtb x).fdt = s.fdt := rfl
@[simp] theorem State.withPtb_geo (x : Ptb) : (s.withPtb x).geo = s.geo := rfl
@[simp] theorem State.withPtb_bkm (x : Ptb) : (s.withPtb x).bkm = s.bkm := rfl
@[simp] theorem State.withPtb_pif (x : Ptb) : (s.withPtb x).pif = s.pif := rfl
@[simp] theorem State.withPtb_nvs (x : Ptb) : (s.withPtb x).nvs = s.nvs := rfl
@[simp] theorem State.withPtb_prf (x : Ptb) : (s.withPtb x).prf = s.prf := rfl
@[simp] theorem State.withPtb_self : s.withPtb s.ptb = s := rfl
@[simp] theorem State.withPtb_withPtb (x y : Ptb) : (s.withPtb x).withPtb y = s.withPtb y := rfl
@[simp] theorem State.withPtb_axis (x : Ptb) (a : Axis) : (s.withPtb x).axis a = s.axis a := rfl
@[simp] theorem State.withPtb_channel (x : Ptb) (c : Channel) : (s.withPtb x).channel c = s.channel c := rfl
@[simp] theorem State.withPtb_port (x : Ptb) (p : Port) : (s.withPtb x).port p = s.port p := rfl

@[simp] theorem State.withFdt_pending (x : Fdt) : (s.withFdt x).pending = s.pending := rfl
@[simp] theorem State.withFdt_choices (x : Fdt) : (s.withFdt x).choices = s.choices := rfl
@[simp] theorem State.withFdt_inReset (x : Fdt) : (s.withFdt x).inReset = s.inReset := rfl
@[simp] theorem State.withFdt_scn (x : Fdt) : (s.withFdt x).scn = s.scn := rfl
@[simp] theorem State.withFdt_afc (x : Fdt) : (s.withFdt x).afc = s.afc := rfl
@[simp] theorem State.withFdt_lps (x : Fdt) : (s.withFdt x).lps = s.lps := rfl
@[simp] theorem State.withFdt_ldu (x : Fdt) : (s.withFdt x).ldu = s.ldu := rfl
@[simp] theorem State.withFdt_msc (x : Fdt) : (s.withFdt x).msc = s.msc := rfl
@[simp] theorem State.withFdt_ptb (x : Fdt) : (s.withFdt x).ptb = s.ptb := rfl
@[simp] theorem State.withFdt_fdt (x : Fdt) : (s.withFdt x).fdt = x := rfl
@[simp] theorem State.withFdt_geo (x : Fdt) : (s.withFdt x).geo = s.geo := rfl
@[simp] theorem State.withFdt_bkm (x : Fdt) : (s.withFdt x).bkm = s.bkm := rfl
@[simp] theorem State.withFdt_pif (x : Fdt) : (s.withFdt x).pif = s.pif := rfl
@[simp] theorem State.withFdt_nvs (x : Fdt) : (s.withFdt x).nvs = s.nvs := rfl
@[simp] theorem State.withFdt_prf (x : Fdt) : (s.withFdt x).prf = s.prf := rfl
@[simp] theorem State.withFdt_self : s.withFdt s.fdt = s := rfl
@[simp] theorem State.withFdt_withFdt (x y : Fdt) : (s.withFdt x).withFdt y = s.withFdt y := rfl
@[simp] theorem State.withFdt_axis (x : Fdt) (a : Axis) : (s.withFdt x).axis a = s.axis a := rfl
@[simp] theorem State.withFdt_channel (x : Fdt) (c : Channel) : (s.withFdt x).channel c = s.channel c := rfl
@[simp] theorem State.withFdt_port (x : Fdt) (p : Port) : (s.withFdt x).port p = s.port p := rfl

@[simp] theorem State.withGeo_pending (x : Geo) : (s.withGeo x).pending = s.pending := rfl
@[simp] theorem State.withGeo_choices (x : Geo) : (s.withGeo x).choices = s.choices := rfl
@[simp] theorem State.withGeo_inReset (x : Geo) : (s.withGeo x).inReset = s.inReset := rfl
@[simp] theorem State.withGeo_scn (x : Geo) : (s.withGeo x).scn = s.scn := rfl
@[simp] theorem State.withGeo_afc (x : Geo) : (s.withGeo x).afc = s.afc := rfl
@[simp] theorem State.withGeo_lps (x : Geo) : (s.withGeo x).lps = s.lps := rfl
@[simp] theorem State.withGeo_ldu (x : Geo) : (s.withGeo x).ldu = s.ldu := rfl
@[simp] theorem State.withGeo_msc (x : Geo) : (s.withGeo x).msc = s.msc := rfl
@[simp] theorem State.withGeo_ptb (x : Geo) : (s.withGeo x).ptb = s.ptb := rfl
@[simp] theorem State.withGeo_fdt (x : Geo) : (s.withGeo x).fdt = s.fdt := rfl
@[simp] theorem State.withGeo_geo (x : Geo) : (s.withGeo x).geo = x := rfl
@[simp] theorem State.withGeo_bkm (x : Geo) : (s.withGeo x).bkm = s.bkm := rfl
@[simp] theorem State.withGeo_pif (x : Geo) : (s.withGeo x).pif = s.pif := rfl
@[simp] theorem State.withGeo_nvs (x : Geo) : (s.withGeo x).nvs = s.nvs := rfl
@[simp] theorem State.withGeo_prf (x : Geo) : (s.withGeo x).prf = s.prf := rfl
@[simp] theorem State.withGeo_self : s.withGeo s.geo = s := rfl
@[simp] theorem State.withGeo_withGeo (x y : Geo) : (s.withGeo x).withGeo y = s.withGeo y := rfl
@[simp] theorem State.withGeo_axis (x : Geo) (a : Axis) : (s.withGeo x).axis a = s.axis a := rfl
@[simp] theorem State.withGeo_channel (x : Geo) (c : Channel) : (s.withGeo x).channel c = s.channel c := rfl
@[simp] theorem State.withGeo_port (x : Geo) (p : Port) : (s.withGeo x).port p = s.port p := rfl

@[simp] theorem State.withBkm_pending (x : Bkm) : (s.withBkm x).pending = s.pending := rfl
@[simp] theorem State.withBkm_choices (x : Bkm) : (s.withBkm x).choices = s.choices := rfl
@[simp] theorem State.withBkm_inReset (x : Bkm) : (s.withBkm x).inReset = s.inReset := rfl
@[simp] theorem State.withBkm_scn (x : Bkm) : (s.withBkm x).scn = s.scn := rfl
@[simp] theorem State.withBkm_afc (x : Bkm) : (s.withBkm x).afc = s.afc := rfl
@[simp] theorem State.withBkm_lps (x : Bkm) : (s.withBkm x).lps = s.lps := rfl
@[simp] theorem State.withBkm_ldu (x : Bkm) : (s.withBkm x).ldu = s.ldu := rfl
@[simp] theorem State.withBkm_msc (x : Bkm) : (s.withBkm x).msc = s.msc := rfl
@[simp] theorem State.withBkm_ptb (x : Bkm) : (s.withBkm x).ptb = s.ptb := rfl
@[simp] theorem State.withBkm_fdt (x : Bkm) : (s.withBkm x).fdt = s.fdt := rfl
@[simp] theorem State.withBkm_geo (x : Bkm) : (s.withBkm x).geo = s.geo := rfl
@[simp] theorem State.withBkm_bkm (x : Bkm) : (s.withBkm x).bkm = x := rfl
@[simp] theorem State.withBkm_pif (x : Bkm) : (s.withBkm x).pif = s.pif := rfl
@[simp] theorem State.withBkm_nvs (x : Bkm) : (s.withBkm x).nvs = s.nvs := rfl
@[simp] theorem State.withBkm_prf (x : Bkm) : (s.withBkm x).prf = s.prf := rfl
@[simp] theorem State.withBkm_self : s.withBkm s.bkm = s := rfl
@[simp] theorem State.withBkm_withBkm (x y : Bkm) : (s.withBkm x).withBkm y = s.withBkm y := rfl
@[simp] theorem State.withBkm_axis (x : Bkm) (a : Axis) : (s.withBkm x).axis a = s.axis a := rfl
@[simp] theorem State.withBkm_channel (x : Bkm) (c : Channel) : (s.withBkm x).channel c = s.channel c := rfl
@[simp] theorem State.withBkm_port (x : Bkm) (p : Port) : (s.withBkm x).port p = s.port p := rfl

@[simp] theorem State.withPif_pending (x : Pif) : (s.withPif x).pending = s.pending := rfl
@[simp] theorem State.withPif_choices (x : Pif) : (s.withPif x).choices = s.choices := rfl
@[simp] theorem State.withPif_inReset (x : Pif) : (s.withPif x).inReset = s.inReset := rfl
@[simp] theorem State.withPif_scn (x : Pif) : (s.withPif x).scn = s.scn := rfl
@[simp] theorem State.withPif_afc (x : Pif) : (s.withPif x).afc = s.afc := rfl
@[simp] theorem State.withPif_lps (x : Pif) : (s.withPif x).lps = s.lps := rfl
@[simp] theorem State.withPif_ldu (x : Pif) : (s.withPif x).ldu = s.ldu := rfl
@[simp] theorem State.withPif_msc (x : Pif) : (s.withPif x).msc = s.msc := rfl
@[simp] theorem State.withPif_ptb (x : Pif) : (s.withPif x).ptb = s.ptb := rfl
@[simp] theorem State.withPif_fdt (x : Pif) : (s.withPif x).fdt = s.fdt := rfl
@[simp] theorem State.withPif_geo (x : Pif) : (s.withPif x).geo = s.geo := rfl
@[simp] theorem State.withPif_bkm (x : Pif) : (s.withPif x).bkm = s.bkm := rfl
@[simp] theorem State.withPif_pif (x : Pif) : (s.withPif x).pif = x := rfl
@[simp] theorem State.withPif_nvs (x : Pif) : (s.withPif x).nvs = s.nvs := rfl
@[simp] theorem State.withPif_prf (x : Pif) : (s.withPif x).prf = s.prf := rfl
@[simp] theorem State.withPif_self : s.withPif s.pif = s := rfl
@[simp] theorem State.withPif_withPif (x y : Pif) : (s.withPif x).withPif y = s.withPif y := rfl
@[simp] theorem State.withPif_axis (x : Pif) (a : Axis) : (s.withPif x).axis a = s.axis a := rfl
@[simp] theorem State.withPif_channel (x : Pif) (c : Channel) : (s.withPif x).channel c = s.channel c := rfl

@[simp] theorem State.withNvs_pending (x : Nvs) : (s.withNvs x).pending = s.pending := rfl
@[simp] theorem State.withNvs_choices (x : Nvs) : (s.withNvs x).choices = s.choices := rfl
@[simp] theorem State.withNvs_inReset (x : Nvs) : (s.withNvs x).inReset = s.inReset := rfl
@[simp] theorem State.withNvs_scn (x : Nvs) : (s.withNvs x).scn = s.scn := rfl
@[simp] theorem State.withNvs_afc (x : Nvs) : (s.withNvs x).afc = s.afc := rfl
@[simp] theorem State.withNvs_lps (x : Nvs) : (s.withNvs x).lps = s.lps := rfl
@[simp] theorem State.withNvs_ldu (x : Nvs) : (s.withNvs x).ldu = s.ldu := rfl
@[simp] theorem State.withNvs_msc (x : Nvs) : (s.withNvs x).msc = s.msc := rfl
@[simp] theorem State.withNvs_ptb (x : Nvs) : (s.withNvs x).ptb = s.ptb := rfl
@[simp] theorem State.withNvs_fdt (x : Nvs) : (s.withNvs x).fdt = s.fdt := rfl
@[simp] theorem State.withNvs_geo (x : Nvs) : (s.withNvs x).geo = s.geo := rfl
@[simp] theorem State.withNvs_bkm (x : Nvs) : (s.withNvs x).bkm = s.bkm := rfl
@[simp] theorem State.withNvs_pif (x : Nvs) : (s.withNvs x).pif = s.pif := rfl
@[simp] theorem State.withNvs_nvs (x : Nvs) : (s.withNvs x).nvs = x := rfl
@[simp] theorem State.withNvs_prf (x : Nvs) : (s.withNvs x).prf = s.prf := rfl
@[simp] theorem State.withNvs_self : s.withNvs s.nvs = s := rfl
@[simp] theorem State.withNvs_withNvs (x y : Nvs) : (s.withNvs x).withNvs y = s.withNvs y := rfl
@[simp] theorem State.withNvs_axis (x : Nvs) (a : Axis) : (s.withNvs x).axis a = s.axis a := rfl
@[simp] theorem State.withNvs_channel (x : Nvs) (c : Channel) : (s.withNvs x).channel c = s.channel c := rfl
@[simp] theorem State.withNvs_port (x : Nvs) (p : Port) : (s.withNvs x).port p = s.port p := rfl

@[simp] theorem State.withPrf_pending (x : Profile) : (s.withPrf x).pending = s.pending := rfl
@[simp] theorem State.withPrf_choices (x : Profile) : (s.withPrf x).choices = s.choices := rfl
@[simp] theorem State.withPrf_inReset (x : Profile) : (s.withPrf x).inReset = s.inReset := rfl
@[simp] theorem State.withPrf_scn (x : Profile) : (s.withPrf x).scn = s.scn := rfl
@[simp] theorem State.withPrf_afc (x : Profile) : (s.withPrf x).afc = s.afc := rfl
@[simp] theorem State.withPrf_lps (x : Profile) : (s.withPrf x).lps = s.lps := rfl
@[simp] theorem State.withPrf_ldu (x : Profile) : (s.withPrf x).ldu = s.ldu := rfl
@[simp] theorem State.withPrf_msc (x : Profile) : (s.withPrf x).msc = s.msc := rfl
@[simp] theorem State.withPrf_ptb (x : Profile) : (s.withPrf x).ptb = s.ptb := rfl
@[simp] theorem State.withPrf_fdt (x : Profile) : (s.withPrf x).fdt = s.fdt := rfl
@[simp] theorem State.withPrf_geo (x : Profile) : (s.withPrf x).geo = s.geo := rfl
@[simp] theorem State.withPrf_bkm (x : Profile) : (s.withPrf x).bkm = s.bkm := rfl
@[simp] theorem State.withPrf_pif (x : Profile) : (s.withPrf x).pif = s.pif := rfl
@[simp] theorem State.withPrf_nvs (x : Profile) : (s.withPrf x).nvs = s.nvs := rfl
@[simp] theorem State.withPrf_prf (x : Profile) : (s.withPrf x).prf = x := rfl
@[simp] theorem State.withPrf_self : s.withPrf s.prf = s := rfl
@[simp] theorem State.withPrf_withPrf (x y : Profile) : (s.withPrf x).withPrf y = s.withPrf y := rfl
@[simp] theorem State.withPrf_axis (x : Profile) (a : Axis) : (s.withPrf x).axis a = s.axis a := rfl
@[simp] theorem State.withPrf_channel (x : Profile) (c : Channel) : (s.withPrf x).channel c = s.channel c := rfl
@[simp] theorem State.withPrf_port (x : Profile) (p : Port) : (s.withPrf x).port p = s.port p := rfl

@[simp] theorem State.setAxis_pending (a : Axis) (x : AxisRecord) : (s.setAxis a x).pending = s.pending := rfl
@[simp] theorem State.setAxis_choices (a : Axis) (x : AxisRecord) : (s.setAxis a x).choices = s.choices := rfl
@[simp] theorem State.setAxis_inReset (a : Axis) (x : AxisRecord) : (s.setAxis a x).inReset = s.inReset := rfl
@[simp] theorem State.setAxis_scn (a : Axis) (x : AxisRecord) : (s.setAxis a x).scn = s.scn := rfl
@[simp] theorem State.setAxis_afc (a : Axis) (x : AxisRecord) : (s.setAxis a x).afc = s.afc := rfl
@[simp] theorem State.setAxis_lps (a : Axis) (x : AxisRecord) : (s.setAxis a x).lps = s.lps := rfl
@[simp] theorem State.setAxis_msc (a : Axis) (x : AxisRecord) : (s.setAxis a x).msc = s.msc := rfl
@[simp] theorem State.setAxis_ptb (a : Axis) (x : AxisRecord) : (s.setAxis a x).ptb = s.ptb := rfl
@[simp] theorem State.setAxis_fdt (a : Axis) (x : AxisRecord) : (s.setAxis a x).fdt = s.fdt := rfl
@[simp] theorem State.setAxis_geo (a : Axis) (x : AxisRecord) : (s.setAxis a x).geo = s.geo := rfl
@[simp] theorem State.setAxis_bkm (a : Axis) (x : AxisRecord) : (s.setAxis a x).bkm = s.bkm := rfl
@[simp] theorem State.setAxis_pif (a : Axis) (x : AxisRecord) : (s.setAxis a x).pif = s.pif := rfl
@[simp] theorem State.setAxis_nvs (a : Axis) (x : AxisRecord) : (s.setAxis a x).nvs = s.nvs := rfl
@[simp] theorem State.setAxis_prf (a : Axis) (x : AxisRecord) : (s.setAxis a x).prf = s.prf := rfl
@[simp] theorem State.setAxis_channel (a : Axis) (x : AxisRecord) (b : Channel) : (s.setAxis a x).channel b = s.channel b := rfl
@[simp] theorem State.setAxis_port (a : Axis) (x : AxisRecord) (b : Port) : (s.setAxis a x).port b = s.port b := rfl

@[simp] theorem State.setChannel_pending (c : Channel) (x : ChannelRecord) : (s.setChannel c x).pending = s.pending := rfl
@[simp] theorem State.setChannel_choices (c : Channel) (x : ChannelRecord) : (s.setChannel c x).choices = s.choices := rfl
@[simp] theorem State.setChannel_inReset (c : Channel) (x : ChannelRecord) : (s.setChannel c x).inReset = s.inReset := rfl
@[simp] theorem State.setChannel_afc (c : Channel) (x : ChannelRecord) : (s.setChannel c x).afc = s.afc := rfl
@[simp] theorem State.setChannel_lps (c : Channel) (x : ChannelRecord) : (s.setChannel c x).lps = s.lps := rfl
@[simp] theorem State.setChannel_ldu (c : Channel) (x : ChannelRecord) : (s.setChannel c x).ldu = s.ldu := rfl
@[simp] theorem State.setChannel_msc (c : Channel) (x : ChannelRecord) : (s.setChannel c x).msc = s.msc := rfl
@[simp] theorem State.setChannel_ptb (c : Channel) (x : ChannelRecord) : (s.setChannel c x).ptb = s.ptb := rfl
@[simp] theorem State.setChannel_fdt (c : Channel) (x : ChannelRecord) : (s.setChannel c x).fdt = s.fdt := rfl
@[simp] theorem State.setChannel_geo (c : Channel) (x : ChannelRecord) : (s.setChannel c x).geo = s.geo := rfl
@[simp] theorem State.setChannel_bkm (c : Channel) (x : ChannelRecord) : (s.setChannel c x).bkm = s.bkm := rfl
@[simp] theorem State.setChannel_pif (c : Channel) (x : ChannelRecord) : (s.setChannel c x).pif = s.pif := rfl
@[simp] theorem State.setChannel_nvs (c : Channel) (x : ChannelRecord) : (s.setChannel c x).nvs = s.nvs := rfl
@[simp] theorem State.setChannel_prf (c : Channel) (x : ChannelRecord) : (s.setChannel c x).prf = s.prf := rfl
@[simp] theorem State.setChannel_axis (c : Channel) (x : ChannelRecord) (b : Axis) : (s.setChannel c x).axis b = s.axis b := rfl
@[simp] theorem State.setChannel_port (c : Channel) (x : ChannelRecord) (b : Port) : (s.setChannel c x).port b = s.port b := rfl

@[simp] theorem State.setPort_pending (p : Port) (x : PortIO) : (s.setPort p x).pending = s.pending := rfl
@[simp] theorem State.setPort_choices (p : Port) (x : PortIO) : (s.setPort p x).choices = s.choices := rfl
@[simp] theorem State.setPort_inReset (p : Port) (x : PortIO) : (s.setPort p x).inReset = s.inReset := rfl
@[simp] theorem State.setPort_scn (p : Port) (x : PortIO) : (s.setPort p x).scn = s.scn := rfl
@[simp] theorem State.setPort_afc (p : Port) (x : PortIO) : (s.setPort p x).afc = s.afc := rfl
@[simp] theorem State.setPort_lps (p : Port) (x : PortIO) : (s.setPort p x).lps = s.lps := rfl
@[simp] theorem State.setPort_ldu (p : Port) (x : PortIO) : (s.setPort p x).ldu = s.ldu := rfl
@[simp] theorem State.setPort_msc (p : Port) (x : PortIO) : (s.setPort p x).msc = s.msc := rfl
@[simp] theorem State.setPort_ptb (p : Port) (x : PortIO) : (s.setPort p x).ptb = s.ptb := rfl
@[simp] theorem State.setPort_fdt (p : Port) (x : PortIO) : (s.setPort p x).fdt = s.fdt := rfl
@[simp] theorem State.setPort_geo (p : Port) (x : PortIO) : (s.setPort p x).geo = s.geo := rfl
@[simp] theorem State.setPort_bkm (p : Port) (x : PortIO) : (s.setPort p x).bkm = s.bkm := rfl
@[simp] theorem State.setPort_nvs (p : Port) (x : PortIO) : (s.setPort p x).nvs = s.nvs := rfl
@[simp] theorem State.setPort_prf (p : Port) (x : PortIO) : (s.setPort p x).prf = s.prf := rfl
@[simp] theorem State.setPort_axis (p : Port) (x : PortIO) (b : Axis) : (s.setPort p x).axis b = s.axis b := rfl
@[simp] theorem State.setPort_channel (p : Port) (x : PortIO) (b : Channel) : (s.setPort p x).channel b = s.channel b := rfl

/-! ## Numbered records -/

@[simp] theorem PerAxis.get_set_self {α : Type} (x : PerAxis α) (a : Axis) (y : α) :
    (x.set a y).get a = y := by cases a <;> rfl

theorem PerAxis.get_set_of_ne {α : Type} (x : PerAxis α) {a b : Axis} (y : α) (h : b ≠ a) :
    (x.set a y).get b = x.get b := by cases a <;> cases b <;> first | rfl | exact absurd rfl h

@[simp] theorem PerAxis.get_map {α β : Type} (f : α → β) (x : PerAxis α) (a : Axis) :
    (x.map f).get a = f (x.get a) := by cases a <;> rfl

@[simp] theorem PerAxis.get_same {α : Type} (y : α) (a : Axis) : (PerAxis.same y).get a = y := by
  cases a <;> rfl

@[simp] theorem PerFan.get_set_self {α : Type} (x : PerFan α) (f : Fan) (y : α) :
    (x.set f y).get f = y := by cases f <;> rfl

theorem PerFan.get_set_of_ne {α : Type} (x : PerFan α) {f g : Fan} (y : α) (h : g ≠ f) :
    (x.set f y).get g = x.get g := by cases f <;> cases g <;> first | rfl | exact absurd rfl h

@[simp] theorem PerFan.get_map {α β : Type} (h : α → β) (x : PerFan α) (f : Fan) :
    (x.map h).get f = h (x.get f) := by cases f <;> rfl

@[simp] theorem PerChannel.get_set_self {α : Type} (x : PerChannel α) (c : Channel) (y : α) :
    (x.set c y).get c = y := by cases c <;> rfl

theorem PerChannel.get_set_of_ne {α : Type} (x : PerChannel α) {c d : Channel} (y : α)
    (h : d ≠ c) : (x.set c y).get d = x.get d := by
  cases c <;> cases d <;> first | rfl | exact absurd rfl h

@[simp] theorem PerChannel.get_map {α β : Type} (f : α → β) (x : PerChannel α) (c : Channel) :
    (x.map f).get c = f (x.get c) := by cases c <;> rfl

@[simp] theorem PerPort.get_set_self {α : Type} (x : PerPort α) (p : Port) (y : α) :
    (x.set p y).get p = y := by cases p <;> rfl

theorem PerPort.get_set_of_ne {α : Type} (x : PerPort α) {p q : Port} (y : α) (h : q ≠ p) :
    (x.set p y).get q = x.get q := by cases p <;> cases q <;> first | rfl | exact absurd rfl h

@[simp] theorem PerPort.set_set {α : Type} (x : PerPort α) (p : Port) (y z : α) :
    (x.set p y).set p z = x.set p z := by cases p <;> rfl

@[simp] theorem PerAxis.set_set {α : Type} (x : PerAxis α) (a : Axis) (y z : α) :
    (x.set a y).set a z = x.set a z := by cases a <;> rfl

@[simp] theorem State.setAxis_axis_self (a : Axis) (x : AxisRecord) : (s.setAxis a x).axis a = x :=
  PerAxis.get_set_self _ a x

theorem State.setAxis_axis_of_ne {a b : Axis} (x : AxisRecord) (h : b ≠ a) :
    (s.setAxis a x).axis b = s.axis b := PerAxis.get_set_of_ne _ x h

@[simp] theorem State.setChannel_channel_self (c : Channel) (x : ChannelRecord) :
    (s.setChannel c x).channel c = x := PerChannel.get_set_self _ c x

theorem State.setChannel_channel_of_ne {c d : Channel} (x : ChannelRecord) (h : d ≠ c) :
    (s.setChannel c x).channel d = s.channel d := PerChannel.get_set_of_ne _ x h

@[simp] theorem State.setPort_port_self (p : Port) (x : PortIO) : (s.setPort p x).port p = x :=
  PerPort.get_set_self _ p x

theorem State.setPort_port_of_ne {p q : Port} (x : PortIO) (h : q ≠ p) :
    (s.setPort p x).port q = s.port q := PerPort.get_set_of_ne _ x h

@[simp] theorem State.setPort_attnM (p : Port) (x : PortIO) : (s.setPort p x).pif.attnM = s.pif.attnM :=
  rfl

@[simp] theorem State.setPort_attnS (p : Port) (x : PortIO) : (s.setPort p x).pif.attnS = s.pif.attnS :=
  rfl

end Sys2Proof.Machine
end

