-- ==== Sys2Proof/Laws/LensClosed.lean ====
section
/-! SUPPORT. What the operations of the lens, its requests and the builds they ask for can do to a
state, said once: each of them keeps every property that the few primitive changes of `LensClosed`
keep. Taking for the property "this block is as it was" gives the frame of the operation. -/

namespace Sys2Proof.Machine

/-- A change of an axis record that keeps it sound and takes no slot. -/
def RecordStep (old new : AxisRecord) : Prop :=
  (old.Sound → new.Sound) ∧ (new.slot = old.slot ∨ new.slot = none)

/-- A property that every primitive change at the end of a request keeps. The records of MSC change
only so that each pending one stays in its own axis's place. -/
structure EndClosed (P : State → Prop) : Prop where
  msc : ∀ s x, (s.msc.Placed → x.Placed) → P s → P (s.withMsc x)
  fdt : ∀ s x, P s → P (s.withFdt x)
  raise : ∀ s c p, P s → P (raiseOn c p s)
  build : ∀ s, P s → P (requestBuild s)

/-- A property that every primitive change of the lens operations keeps. -/
structure LensClosed (P : State → Prop) : Prop extends EndClosed P where
  axis : ∀ s a r, RecordStep (s.axis a) r → P s → P (s.setAxis a r)
  take : ∀ s a r d, freeSlot s = some d → r.slot = some d → (r.position.isSome → r.Sound) →
    ((s.axis a).Sound → r.position.isSome) → P s → P (s.setAxis a r)
  mark : ∀ s, P s → P (markMotion s)

variable {P : State → Prop} {s : State}

/-! ## Pending records in their places -/

theorem Msc.Placed.set {x : Msc} {a : Axis} {r : Option Request} (h : x.Placed)
    (hr : ∀ q, r = some q → q.axis = a) :
    Msc.Placed { x with pending := x.pending.set a r } := by
  intro b q hq
  by_cases hb : b = a
  · subst hb
    exact hr q (by simpa using hq)
  · exact h b q (by simpa [PerAxis.get_set_of_ne _ _ hb] using hq)

theorem Msc.Placed.clearMembers {x : Msc} (h : x.Placed) : (clearMembers x).Placed := by
  intro a q hq
  simp only [Machine.clearMembers, PerAxis.get_map, Option.map_eq_some_iff] at hq
  obtain ⟨r, hr, rfl⟩ := hq
  exact h a r hr

theorem Msc.Placed.dropRemainders {s : State} (h : s.msc.Placed) :
    (Machine.dropRemainders s).msc.Placed := by
  intro a q hq
  refine h a q ?_
  cases a <;> (simp only [Machine.dropRemainders, State.withMsc, PerAxis.get] at hq ⊢; split at hq) <;>
    first | exact hq | cases hq

/-! ## Record steps -/

theorem RecordStep.of_same {old new : AxisRecord} (hd : new.drvEn = old.drvEn)
    (hl : new.slot = old.slot) (hs : new.state = old.state) (hp : new.position = old.position) :
    RecordStep old new := by
  refine ⟨fun h => ?_, Or.inl hl⟩
  unfold AxisRecord.Sound at *
  rw [hd, hl, hs, hp]
  exact h

theorem RecordStep.idleAt (r : AxisRecord) (m p : Int) : RecordStep r (r.idleAt m p) :=
  ⟨fun _ => by simp [AxisRecord.Sound, AxisRecord.idleAt, AxisRecord.resting, AxisRecord.released],
    Or.inr rfl⟩

theorem RecordStep.becomeLost (r : AxisRecord) : RecordStep r r.becomeLost :=
  ⟨fun _ => by
    simp [AxisRecord.Sound, AxisRecord.becomeLost, AxisRecord.resting, AxisRecord.released],
    Or.inr rfl⟩

theorem RecordStep.released (r : AxisRecord) (f : AxisRecord → AxisRecord)
    (hd : (f r.released).drvEn = false) (hl : (f r.released).slot = none)
    (hs : (f r.released).state = r.state) (hp : (f r.released).position = r.position) :
    RecordStep r (f r.released) := by
  refine ⟨fun h => ?_, Or.inr hl⟩
  unfold AxisRecord.Sound at *
  rw [hd, hl, hs, hp]
  exact ⟨rfl, by simp, h.2.2⟩

/-! ## Ends of requests -/

theorem setInForce_keeps (h : EndClosed P) (a : Axis) (b : Option Book) (hs : P s) :
    P (setInForce a b s) := h.msc _ _ id hs

theorem setRequest_keeps (h : EndClosed P) (a : Axis) (r : Option Request)
    (hr : ∀ q, r = some q → q.axis = a) (hs : P s) : P (setRequest a r s) :=
  h.msc _ _ (fun k => k.set hr) hs

theorem removeRequest_keeps (h : EndClosed P) (a : Axis) (hs : P s) : P (setRequest a none s) :=
  setRequest_keeps h a none (fun _ k => by cases k) hs

theorem setProgress_keeps (h : EndClosed P) (a : Axis) (p : Progress) (hs : P s) :
    P (setProgress a p s) := by
  unfold setProgress
  split
  · exact hs
  · exact h.msc _ _ id hs

theorem endGroup_keeps (h : EndClosed P) (o : GroupOutcome) (hs : P s) : P (endGroup o s) := by
  unfold endGroup
  split
  · exact hs
  · exact h.raise _ _ _ (h.msc _ _ (fun k => k.clearMembers) hs)

theorem settleGroup_keeps (h : EndClosed P) (hs : P s) : P (settleGroup s) := by
  unfold settleGroup
  split
  · exact hs
  · split
    · exact endGroup_keeps h _ hs
    · exact hs

theorem memberEnd_keeps (h : EndClosed P) (a : Axis) (o : MoveOutcome) (hs : P s) :
    P (memberEnd a o s) := by
  have hp := setProgress_keeps h a (progressOf o) hs
  unfold memberEnd
  dsimp only
  split
  · exact settleGroup_keeps h hp
  · split
    · exact endGroup_keeps h _ hp
    · exact hp

theorem endGroupFor_keeps (h : EndClosed P) (o : GroupOutcome) (axes : PerAxis Bool) (hs : P s) :
    P (endGroupFor o axes s) := by
  unfold endGroupFor
  split
  · exact endGroup_keeps h o hs
  · exact hs

theorem settleTracker_keeps (h : EndClosed P) (hs : P s) : P (settleTracker s) := h.fdt _ _ hs

theorem focusEnd_keeps (h : EndClosed P) (e : MoveEnd) (hs : P s) : P (focusEnd e s) := by
  unfold focusEnd
  split
  · exact settleTracker_keeps h (h.fdt _ _ hs)
  · exact settleTracker_keeps h (h.fdt _ _ hs)
  · exact settleTracker_keeps h (h.fdt _ _ hs)
  · exact hs

theorem raiseOnIssuer_keeps (h : EndClosed P) (c : Cause) (p : Option Port) (hs : P s) :
    P (raiseOnIssuer c p s) := by
  cases p with
  | none => exact hs
  | some p => exact h.raise s c p hs

theorem geoMoveEnd_keeps (h : EndClosed P) (a : Axis) (b : Bool) (f : Option Int) (hs : P s) :
    P (geoMoveEnd a b f s) := by
  unfold geoMoveEnd
  split
  · exact hs
  · split
    · exact h.build _ hs
    · exact hs

theorem geoStepReport_keeps (h : EndClosed P) (a : Axis) (p : Int) (hs : P s) :
    P (geoStepReport a p s) := by
  unfold geoStepReport
  split
  · exact h.build _ hs
  · exact hs

theorem tellGroup_keeps (h : EndClosed P) (a : Axis) (e : MoveEnd) (hs : P s) :
    P (tellGroup a e s) := by
  unfold tellGroup
  split
  · exact memberEnd_keeps h _ _ hs
  · exact hs

theorem tellFocus_keeps (h : EndClosed P) (a : Axis) (e : MoveEnd) (hs : P s) :
    P (tellFocus a e s) := by
  unfold tellFocus
  split
  · exact focusEnd_keeps h e hs
  · exact hs

/-- The end of a request: the result, the cause, the group, the tracker, a build. -/
theorem recordEnd_keeps (h : EndClosed P) (a : Axis) (e : MoveEnd) (hs : P s) :
    P (recordEnd a e s) :=
  geoMoveEnd_keeps h _ _ _ (tellFocus_keeps h _ _ (tellGroup_keeps h _ _
    (raiseOnIssuer_keeps h _ _ (h.msc _ _ id hs))))

theorem dropRequest_keeps (h : EndClosed P) (a : Axis) (o : MoveOutcome) (hs : P s) :
    P (dropRequest a o s) := by
  unfold dropRequest
  split
  · exact hs
  · exact recordEnd_keeps h _ _ (removeRequest_keeps h _ hs)

/-! ## LDU -/

theorem markMotion_keeps (h : LensClosed P) (hs : P s) : P (markMotion s) := h.mark _ hs

theorem finishForce_keeps (h : LensClosed P) (a : Axis) (r : AxisRecord) (o : MoveOutcome)
    (f : Option Int) (hr : RecordStep (s.axis a) r) (hs : P s) : P (finishForce a r o f s) := by
  unfold finishForce
  exact recordEnd_keeps h.toEndClosed _ _ (setInForce_keeps h.toEndClosed _ _ (h.axis _ _ _ hr hs))

theorem finishIdle_keeps (h : LensClosed P) (a : Axis) (o : MoveOutcome) (p : Int) (hs : P s) :
    P (finishIdle a o p s) := finishForce_keeps h _ _ _ _ (RecordStep.idleAt _ _ _) hs

theorem finishLost_keeps (h : LensClosed P) (a : Axis) (o : MoveOutcome) (hs : P s) :
    P (finishLost a o s) := finishForce_keeps h _ _ _ _ (RecordStep.becomeLost _) hs

theorem finishDone_keeps (h : LensClosed P) (a : Axis) (hs : P s) : P (finishDone a s) := by
  unfold finishDone
  split
  · exact finishIdle_keeps h _ _ _ hs
  · exact hs

theorem replanAfterRamp_keeps (h : LensClosed P) (a : Axis) (hs : P s) :
    P (replanAfterRamp a s) := by
  unfold replanAfterRamp
  dsimp only
  split
  · exact finishDone_keeps h a hs
  · split
    · exact h.axis _ _ _ (RecordStep.of_same rfl rfl rfl rfl) hs
    · exact h.axis _ _ _ (RecordStep.of_same rfl rfl rfl rfl) hs

theorem replanAfterDwell_keeps (h : LensClosed P) (a : Axis) (d : Direction) (hs : P s) :
    P (replanAfterDwell a d s) := by
  unfold replanAfterDwell
  split
  · exact finishDone_keeps h a hs
  · exact h.axis _ _ _ (RecordStep.of_same rfl rfl rfl rfl) hs

/-- The first stage of a homing changes neither slot nor state nor position. -/
theorem firstStage_fields (r : AxisRecord) (limit : Int) :
    (r.firstStage limit).drvEn = r.drvEn ∧ (r.firstStage limit).slot = r.slot ∧
      (r.firstStage limit).state = r.state ∧ (r.firstStage limit).position = r.position := by
  unfold AxisRecord.firstStage
  split <;> exact ⟨rfl, rfl, rfl, rfl⟩

theorem RecordStep.homing {old new : AxisRecord} (hd : new.drvEn = old.drvEn)
    (hl : new.slot = old.slot) (hs : new.state = .homing) (hp : new.position = some 0) :
    RecordStep old new := by
  refine ⟨fun h => ?_, Or.inl hl⟩
  unfold AxisRecord.Sound at *
  rw [hd, hl, hs, hp]
  exact ⟨h.1, fun _ => Or.inr rfl, by simp⟩

theorem RecordStep.firstStage (r : AxisRecord) (limit : Int) :
    RecordStep r (r.enterHoming.firstStage limit) :=
  have f := firstStage_fields r.enterHoming limit
  RecordStep.homing f.1 f.2.1 f.2.2.1 f.2.2.2

theorem beginHoming_keeps (h : LensClosed P) (a : Axis) (hs : P s) : P (beginHoming a s) :=
  markMotion_keeps h (h.axis _ _ _ (RecordStep.firstStage _ _) hs)

theorem homeAfterRamp_keeps (h : LensClosed P) (a : Axis) (hs : P s) :
    P (homeAfterRamp a s) := by
  unfold homeAfterRamp
  dsimp only
  split
  · exact h.axis _ _ _ (RecordStep.homing rfl rfl rfl rfl) hs
  · exact h.axis _ _ _ (RecordStep.firstStage _ _) hs

theorem completeHoming_keeps (h : LensClosed P) (a : Axis) (hs : P s) :
    P (completeHoming a s) := by
  unfold completeHoming
  refine finishForce_keeps h _ _ _ _ ⟨fun _ => ?_, Or.inr rfl⟩ hs
  simp [AxisRecord.Sound, AxisRecord.idleAt, AxisRecord.resting, AxisRecord.released]

theorem becomeYielded_keeps (h : LensClosed P) (a : Axis) (hs : P s) :
    P (becomeYielded a s) := by
  have ht : P (setRequest a (some (remainderOf a (s.axis a) (bookOf s a)))
      (s.setAxis a { (s.axis a).released with
        phase := some .yielded, endAction := none,
        remaining := planLength (planOf s a (s.axis a).lastStep) })) :=
    setRequest_keeps h.toEndClosed _ _ (fun _ k => by cases k; rfl) (h.axis _ _ _
      (RecordStep.released _
      (fun r => { r with phase := some .yielded, endAction := none,
                         remaining := planLength (planOf s a (s.axis a).lastStep) })
      rfl rfl rfl rfl) hs)
  unfold becomeYielded
  dsimp only
  split
  · exact setProgress_keeps h.toEndClosed _ _ ht
  · exact ht

theorem rampEnd_keeps (h : LensClosed P) (a : Axis) (hs : P s) : P (rampEnd a s) := by
  unfold rampEnd
  split
  · exact replanAfterRamp_keeps h a hs
  · exact finishIdle_keeps h _ _ _ hs
  · exact becomeYielded_keeps h a hs
  · exact homeAfterRamp_keeps h a hs
  · exact hs

theorem endEmptyRamp_keeps (h : LensClosed P) (a : Axis) (hs : P s) : P (endEmptyRamp a s) := by
  unfold endEmptyRamp
  split
  · exact rampEnd_keeps h a hs
  · exact hs

theorem startRamp_keeps (h : LensClosed P) (a : Axis) (e : EndAction) (hs : P s) :
    P (startRamp a e s) :=
  endEmptyRamp_keeps h a (h.axis _ _ _ (RecordStep.of_same rfl rfl rfl rfl) hs)

/-! ## Grants -/

theorem freeSlot_eq {t : State} (h : ∀ a, (t.axis a).slot = (s.axis a).slot) :
    freeSlot t = freeSlot s := by
  unfold freeSlot slotHeld
  simp only [h]

theorem freeSlot_setAxis {a : Axis} {r : AxisRecord} (hl : r.slot = (s.axis a).slot) :
    freeSlot (s.setAxis a r) = freeSlot s := by
  refine freeSlot_eq fun b => ?_
  by_cases hb : b = a
  · subst hb
    rw [State.setAxis_axis_self, hl]
  · rw [State.setAxis_axis_of_ne s r hb]

theorem grantHome_keeps (h : LensClosed P) (a : Axis) (q : Request) (d : DriveSlot)
    (hf : freeSlot s = some d) (hs : P s) : P (grantHome a q d s) := by
  unfold grantHome
  dsimp only
  have f := firstStage_fields
    (((s.axis a).granted q none none).holding d).enterHoming (homingLimit s a)
  refine markMotion_keeps h (h.take _ _ _ d hf (by rw [f.2.1]; rfl) (fun _ => ?_) (fun _ => ?_) hs)
  · unfold AxisRecord.Sound
    rw [f.1, f.2.1, f.2.2.1, f.2.2.2]
    exact ⟨rfl, fun _ => Or.inr rfl, by simp [AxisRecord.enterHoming]⟩
  · rw [f.2.2.2]; rfl

theorem startMove_keeps (h : LensClosed P) (a : Axis) (p t : Int) (d : DriveSlot)
    (hf : freeSlot s = some d) (hp : (s.axis a).position = some p) (hs : P s) :
    P (startMove a p t d s) := by
  unfold startMove
  dsimp only
  split
  · exact hs
  · refine markMotion_keeps h (h.take _ _ _ d hf rfl (fun _ => ⟨rfl, fun _ => Or.inl rfl, ?_⟩)
      (fun _ => ?_) hs)
    · show AxisState.moving = AxisState.lost ↔ (s.axis a).position = none
      simp [hp]
    · show ((s.axis a).position).isSome
      simp [hp]

theorem grantMove_keeps (h : LensClosed P) (a : Axis) (q : Request) (p : Int) (d : DriveSlot)
    (hf : freeSlot s = some d) (hp : (s.axis a).position = some p) (hs : P s) :
    P (grantMove a q p d s) := by
  unfold grantMove
  dsimp only
  have h1 := h.axis s a ((s.axis a).granted q (some (resolve (axisMaximum s a) p q.kind))
    (some p)) (RecordStep.of_same rfl rfl rfl rfl) hs
  split
  · exact finishLost_keeps h a _ h1
  · split
    · exact finishIdle_keeps h a _ _ h1
    · refine startMove_keeps h a _ _ d ?_ ?_ h1
      · rw [freeSlot_setAxis (by rfl), hf]
      · simp [AxisRecord.granted, AxisRecord.takingOver, hp]

theorem lduGrant_keeps (h : LensClosed P) (a : Axis) (q : Request) (d : DriveSlot)
    (hf : freeSlot s = some d) (hs : P s) : P (lduGrant a q d s) := by
  unfold lduGrant
  split
  · exact grantHome_keeps h a q d hf hs
  · rename_i p hp _
    exact grantMove_keeps h a q p d hf hp hs
  · exact finishLost_keeps h a _ (h.axis _ _ _ (RecordStep.of_same rfl rfl rfl rfl) hs)

theorem freeSlot_withMsc (x : Msc) : freeSlot (s.withMsc x) = freeSlot s := rfl

theorem freeSlot_setProgress (a : Axis) (p : Progress) : freeSlot (setProgress a p s) = freeSlot s := by
  unfold setProgress
  split <;> rfl

theorem grantOne_keeps (h : LensClosed P) (a : Axis) (d : DriveSlot) (hf : freeSlot s = some d)
    (hs : P s) : P (grantOne a d s) := by
  unfold grantOne
  split
  · exact hs
  · dsimp only
    split
    · exact lduGrant_keeps h _ _ d (by rw [freeSlot_setProgress, freeSlot_withMsc, hf])
        (setProgress_keeps h.toEndClosed _ _
          (h.msc _ _ (fun k => k.set (r := none) (fun _ c => by cases c)) hs))
    · exact lduGrant_keeps h _ _ d (by rw [freeSlot_withMsc, hf])
        (h.msc _ _ (fun k => k.set (r := none) (fun _ c => by cases c)) hs)

theorem grantLoop_keeps (h : LensClosed P) (x : Option Axis) (n : Nat) (hs : P s) :
    P (grantLoop x n s) := by
  induction n generalizing s with
  | zero => exact hs
  | succ n ih =>
    unfold grantLoop
    split
    · exact hs
    · split
      · rename_i d _ hd
        exact ih (grantOne_keeps h _ d hd hs)
      · exact hs

/-- A grant occasion. -/
theorem grantOccasion_keeps (h : LensClosed P) (x : Option Axis) (hs : P s) :
    P (grantOccasion x s) := grantLoop_keeps h x 4 hs

/-! ## Orders -/

theorem replaceForce_keeps (h : LensClosed P) (a : Axis) (r : AxisRecord) (b : Book)
    (f : Option Int) (hr : RecordStep (s.axis a) r) (hs : P s) :
    P (replaceForce a r b f s) := by
  unfold replaceForce
  exact setInForce_keeps h.toEndClosed _ _ (recordEnd_keeps h.toEndClosed _ _ (h.axis _ _ _ hr hs))

theorem extendLeg_fields (r : AxisRecord) (p t b : Int) :
    (r.extendLeg p t b).drvEn = r.drvEn ∧ (r.extendLeg p t b).slot = r.slot ∧
      (r.extendLeg p t b).state = r.state ∧ (r.extendLeg p t b).position = r.position := by
  unfold AxisRecord.extendLeg
  split <;> exact ⟨rfl, rfl, rfl, rfl⟩

theorem retarget_keeps (h : LensClosed P) (a : Axis) (q : Request) (hs : P s) :
    P (retarget a q s) := by
  unfold retarget
  split
  · exact hs
  · dsimp only
    split
    · exact replaceForce_keeps h _ _ _ _ (RecordStep.of_same rfl rfl rfl rfl) hs
    · exact replaceForce_keeps h _ _ _ _ (RecordStep.of_same rfl rfl rfl rfl) hs
    · split
      · refine replaceForce_keeps h _ _ _ _ ?_ hs
        have f := extendLeg_fields
        exact RecordStep.of_same (f _ _ _ _).1 (f _ _ _ _).2.1 (f _ _ _ _).2.2.1 (f _ _ _ _).2.2.2
      · exact endEmptyRamp_keeps h a
          (replaceForce_keeps h _ _ _ _ (RecordStep.of_same rfl rfl rfl rfl) hs)

theorem passHome_keeps (h : LensClosed P) (a : Axis) (q : Request) (hs : P s) :
    P (passHome a q s) := by
  unfold passHome
  dsimp only
  split
  · exact replaceForce_keeps h _ _ _ _ (RecordStep.of_same rfl rfl rfl rfl) hs
  · exact replaceForce_keeps h _ _ _ _ (RecordStep.of_same rfl rfl rfl rfl) hs
  · exact replaceForce_keeps h _ _ _ _ (RecordStep.of_same rfl rfl rfl rfl) hs
  · exact endEmptyRamp_keeps h a
      (replaceForce_keeps h _ _ _ _ (RecordStep.of_same rfl rfl rfl rfl) hs)

theorem stopRunning_keeps (h : LensClosed P) (a : Axis) (hs : P s) : P (stopRunning a s) := by
  unfold stopRunning
  split
  · exact finishLost_keeps h a _ hs
  · exact h.axis _ _ _ (RecordStep.of_same rfl rfl rfl rfl) hs
  · exact finishIdle_keeps h a _ _ hs
  · exact startRamp_keeps h a _ hs
  · exact hs

theorem endYielded_keeps (h : LensClosed P) (a : Axis) (o : MoveOutcome) (hs : P s) :
    P (endYielded a o s) := by
  unfold endYielded
  split
  · exact removeRequest_keeps h.toEndClosed _ hs
  · exact finishIdle_keeps h _ _ _ (removeRequest_keeps h.toEndClosed _ hs)

theorem stopAxis_keeps (h : LensClosed P) (a : Axis) (hs : P s) : P (stopAxis a s) := by
  unfold stopAxis
  split
  · exact stopRunning_keeps h a hs
  · split
    · exact endYielded_keeps h a _ hs
    · exact dropRequest_keeps h.toEndClosed a _ hs

theorem supersedePending_keeps (h : LensClosed P) (a : Axis) (hs : P s) :
    P (supersedePending a s) := by
  unfold supersedePending
  split
  · exact endYielded_keeps h a _ hs
  · exact dropRequest_keeps h.toEndClosed a _ hs

theorem passToRunning_keeps (h : LensClosed P) (q : Request) (hs : P s) :
    P (passToRunning q s) := by
  have ht : P (match q.kind with
    | .home => passHome q.axis q s
    | _ => if (s.axis q.axis).state = .moving then retarget q.axis q s else s) := by
    split
    · exact passHome_keeps h _ _ hs
    · split
      · exact retarget_keeps h _ _ hs
      · exact hs
  unfold passToRunning
  dsimp only
  split
  · exact setProgress_keeps h.toEndClosed _ _ ht
  · exact ht

/-- The placing of a request. -/
theorem place_keeps (h : LensClosed P) (n : NewRequest) (hs : P s) : P (place n s) := by
  unfold place
  dsimp only
  split
  · exact passToRunning_keeps h _ (h.msc _ _ id hs)
  · exact setRequest_keeps h.toEndClosed _ _ (fun _ k => by cases k; rfl)
      (supersedePending_keeps h _ (h.msc _ _ id hs))

theorem forAxes_keeps {f : Axis → State → State} (hf : ∀ a t, P t → P (f a t))
    (axes : PerAxis Bool) (hs : P s) : P (forAxes axes f s) := by
  unfold forAxes allAxes
  simp only [List.foldl]
  repeat' split
  all_goals first | exact hs | skip
  all_goals repeat (first | exact hs | apply hf)

/-! ## Rows of the lens -/

theorem occasionAfter_keeps (h : LensClosed P) (a : Axis) (b : State) (hs : P s) :
    P (occasionAfter a b s) := by
  unfold occasionAfter
  split
  · exact hs
  · exact grantOccasion_keeps h _ hs

theorem legEnd_keeps (h : LensClosed P) (a : Axis) (hs : P s) : P (legEnd a s) := by
  unfold legEnd
  dsimp only
  split
  · exact finishDone_keeps h a hs
  · exact h.axis _ _ _ (RecordStep.of_same rfl rfl rfl rfl) hs

theorem afterStep_keeps (h : LensClosed P) (a : Axis) (b : Bool) (hs : P s) :
    P (afterStep a b s) := by
  unfold afterStep
  dsimp only
  split
  · split
    · exact rampEnd_keeps h a hs
    · exact hs
  · split
    · exact finishDone_keeps h a hs
    · split
      · exact startRamp_keeps h a _ hs
      · split
        · exact legEnd_keeps h a hs
        · exact hs

theorem homingStep_keeps (h : LensClosed P) (a : Axis) (hs : P s) : P (homingStep a s) := by
  have ht := h.axis s a
    { s.axis a with remaining := (s.axis a).remaining - 1, lastStep := (s.axis a).direction }
    (RecordStep.of_same rfl rfl rfl rfl) hs
  unfold homingStep
  dsimp only
  split
  · exact finishLost_keeps h a _ ht
  · exact ht

theorem RecordStep.stepped (r : AxisRecord) {p : Int} (hp : r.position.isSome) :
    RecordStep r (r.stepped p) := by
  refine ⟨fun h => ⟨h.1, h.2.1, ?_⟩, Or.inl rfl⟩
  have hl := h.2.2
  have hn : r.position ≠ none := by
    intro hc
    rw [hc] at hp
    exact absurd hp (by simp)
  constructor
  · intro hc
    exact absurd (hl.mp hc) hn
  · intro hc
    exact absurd hc (by simp [AxisRecord.stepped])

theorem axisStep_keeps (h : LensClosed P) (a : Axis) (hs : P s) : P (axisStep a s) := by
  unfold axisStep
  dsimp only
  split
  · exact occasionAfter_keeps h _ _ (homingStep_keeps h a hs)
  · split
    · rename_i hc
      have hp : ((s.axis a).position).isSome := by
        unfold canStep at hc
        simp only [Bool.and_eq_true] at hc
        exact hc.2
      exact occasionAfter_keeps h _ _ (afterStep_keeps h _ _ (geoStepReport_keeps h.toEndClosed _ _
        (h.axis _ _ _ (RecordStep.stepped _ hp) hs)))
    · exact hs

theorem dwellEnd_keeps (h : LensClosed P) (a : Axis) (hs : P s) : P (dwellEnd a s) := by
  unfold dwellEnd
  dsimp only
  split
  · exact hs
  · exact h.axis _ _ _ (RecordStep.of_same rfl rfl rfl rfl) hs
  · exact replanAfterDwell_keeps h _ _ hs
  · exact replanAfterDwell_keeps h _ _ hs
  · exact beginHoming_keeps h a hs
  · have f := firstStage_fields
    exact h.axis _ _ _ (RecordStep.of_same (f _ _).1 (f _ _).2.1 (f _ _).2.2.1 (f _ _).2.2.2) hs
  · split
    · exact h.axis _ _ _ (RecordStep.of_same rfl rfl rfl rfl) hs
    · exact completeHoming_keeps h a hs

theorem switchChange_keeps (h : LensClosed P) (a : Axis) (b : Bool) (hs : P s) :
    P (switchChange a b s) := by
  have ht := h.axis s a { s.axis a with switch := b } (RecordStep.of_same rfl rfl rfl rfl) hs
  unfold switchChange
  dsimp only
  split
  · exact hs
  · split
    · exact h.axis _ _ _ (RecordStep.of_same rfl rfl rfl rfl) ht
    · exact completeHoming_keeps h a ht
    · split
      · exact finishLost_keeps h a _ ht
      · exact ht
    · exact ht

theorem dropAxis_keeps (h : LensClosed P) (a : Axis) (hs : P s) : P (dropAxis a s) := by
  unfold dropAxis
  split
  · exact h.axis _ _ _ (RecordStep.becomeLost _) hs
  · exact hs

theorem lossEnd_keeps (h : LensClosed P) (b : State) (a : Axis) (hs : P s) :
    P (lossEnd b a s) := by
  unfold lossEnd
  split
  · exact recordEnd_keeps h.toEndClosed _ _ (setInForce_keeps h.toEndClosed _ _ hs)
  · exact dropRequest_keeps h.toEndClosed _ _ hs

theorem overAxes_keeps {f : Axis → State → State} (hf : ∀ a t, P t → P (f a t)) (hs : P s) :
    P (allAxes.foldl (fun t a => f a t) s) := by
  unfold allAxes
  simp only [List.foldl]
  exact hf _ _ (hf _ _ (hf _ _ (hf _ _ hs)))

theorem lensLoss_keeps (h : LensClosed P) (hs : P s) : P (lensLoss s) :=
  overAxes_keeps (fun a _ ht => lossEnd_keeps h s a ht)
    (overAxes_keeps (fun a _ ht => dropAxis_keeps h a ht)
      (h.msc _ _ (fun k => k.dropRemainders) hs))

/-! ## Drift and recall -/

theorem setTracker_keeps (h : LensClosed P) (x : TrackerState) (hs : P s) : P (setTracker x s) :=
  h.fdt _ _ hs

theorem evaluateDrift_keeps (h : LensClosed P) (hs : P s) : P (evaluateDrift s) := by
  unfold evaluateDrift
  split
  · exact setTracker_keeps h _ hs
  · split
    · exact setTracker_keeps h _ hs
    · split
      · exact setTracker_keeps h _ hs
      · split
        · unfold computeDrift
          dsimp only
          split
          · exact setTracker_keeps h _ hs
          · split
            · exact setTracker_keeps h _ hs
            · exact place_keeps h _ (h.fdt _ _ hs)
        · exact setTracker_keeps h _ hs

theorem supersedeGroup_keeps (h : LensClosed P) (hs : P s) : P (supersedeGroup s) := by
  unfold supersedeGroup
  split
  · exact forAxes_keeps (fun a _ ht => supersedePending_keeps h a ht) _ (endGroup_keeps h.toEndClosed _ hs)
  · exact hs

theorem placeMember_keeps (h : LensClosed P) (x : Preset) (c : Int) (g : Byte) (p : Port) (a : Axis)
    (hs : P s) : P (placeMember x c g p a s) := by
  unfold placeMember
  split
  · exact hs
  · exact place_keeps h _ hs

end Sys2Proof.Machine
end

