-- ==== Sys2Proof/Laws/Machine.lean ====
section
/-! SUPPORT. What a command and a step can do, said once for the whole machine: every property that
the primitive changes of `MachineClosed` keep is kept by every command (`exec_keeps`) and by every
step (`step_keeps`, if a change of the queue alone keeps it); and every command answers a next state (`exec_next`). -/

namespace Sys2Proof.Machine

/-- A property that every primitive change of the machine keeps. -/
structure MachineClosed (P : State → Prop) : Prop extends LensClosed P where
  choices : ∀ s x, P s → P (s.withChoices x)
  scn : ∀ s x, P s → P (s.withScn x)
  awake : ∀ s, P s → P (s.withInReset false)
  afc : ∀ s x, P s → P (s.withAfc x)
  lps : ∀ s x, P s → P (s.withLps x)
  ptb : ∀ s x, P s → P (s.withPtb x)
  nvs : ∀ s x, P s → P (s.withNvs x)
  prf : ∀ s x, P s → P (s.withPrf x)
  settings : ∀ s x, P s → P (s.withGeo { s.geo with settings := x })
  port : ∀ s p x, P s → P (s.setPort p x)
  clear : ∀ s p, P s → P (clearCauses p s)
  mask : ∀ s p m, P s → P (setMask p m s)
  announce : ∀ s, P s → P (announceReset s)
  finish : ∀ s, P s → P (finishBuild s)
  openLoan : ∀ s, P s → P (s.withBkm s.bkm.openLoan)
  takeLive : ∀ s g l, s.bkm.loanOf g = some l → P s → P (s.withBkm (s.bkm.takeLive l))
  release : ∀ s, P s → P (s.withBkm s.bkm.release)
  expire : ∀ s, P s → P (s.withBkm s.bkm.expire)
  railLoss : ∀ s, P s → P (s.withBkm s.bkm.railLoss)
  bankTick : ∀ s, P s → P (s.withBkm s.bkm.tick)
  reset : ∀ s, P s → P (partReset s)

variable {P : State → Prop} {s : State}

theorem raiseBoth_keeps (h : LensClosed P) (c : Cause) (hs : P s) : P (raiseBoth c s) :=
  h.raise _ c .s (h.raise _ c .m hs)

theorem eitherOrder_keeps (h : MachineClosed P) {f g : State → State} (hf : P (f s)) (hg : P (g s)) :
    P (eitherOrder f g s) := by
  unfold eitherOrder
  dsimp only
  split
  · exact hf
  · split
    · exact h.choices _ _ hf
    · exact h.choices _ _ hg

/-! ## Taking a command -/

theorem shiftOut_keeps (h : MachineClosed P) (p : Port) (n : Nat) (hs : P s) :
    P (shiftOut p n s) := h.port _ _ _ hs

theorem respond_keeps (h : MachineClosed P) (p : Port) (c : Byte) (a : Answer) (hs : P s) :
    P (respond p c a s) := h.port _ _ _ hs

theorem checkCommand_keeps {α : Type} {c : Cmd} {parse : List Byte → Option α}
    {run : α → State → State × Answer} (hr : ∀ x t, P t → P (run x t).1) (p : Port)
    (d : List Byte) (hs : P s) : P (checkCommand c parse run p d s).1 := by
  unfold checkCommand
  split
  · exact hs
  · split
    · exact hs
    · split
      · exact hs
      · exact hr _ _ hs

theorem takeCommand_keeps (h : MachineClosed P) {α : Type} {c : Cmd}
    {parse : List Byte → Option α} {run : α → State → State × Answer}
    (hr : ∀ x t, P t → P (run x t).1) (p : Port) (d : List Byte) (hs : P s) :
    P (takeCommand c parse run p d s) := by
  unfold takeCommand
  split
  · exact hs
  · exact respond_keeps h _ _ _ (checkCommand_keeps hr _ _ (shiftOut_keeps h _ _ hs))

/-! ## Store and settings -/

theorem startWrite_keeps (h : MachineClosed P) (hs : P s) : P (startWrite s) := by
  unfold startWrite
  split
  · exact h.nvs _ _ hs
  · exact hs

theorem markDirty_keeps (h : MachineClosed P) (i : Item) (hs : P s) : P (markDirty i s) :=
  startWrite_keeps h (h.nvs _ _ hs)

theorem writeEnd_keeps (h : MachineClosed P) (hs : P s) : P (writeEnd s) := by
  unfold writeEnd
  split
  · exact hs
  · exact startWrite_keeps h (raiseBoth_keeps h.toLensClosed _ (h.nvs _ _ hs))

theorem changeSettings_keeps (h : MachineClosed P) (x : Settings) (hs : P s) :
    P (changeSettings x s) := h.build _ (markDirty_keeps h _ (h.settings _ _ hs))

theorem changeSlot_keeps (h : MachineClosed P) (n : Fin 10) (x : Option Preset) (hs : P s) :
    P (changeSlot n x s) := markDirty_keeps h _ (h.ptb _ _ hs)

/-! ## Light and fans -/

theorem enterPower_keeps (h : MachineClosed P) (p : Power) (hs : P s) : P (enterPower p s) :=
  raiseBoth_keeps h.toLensClosed _ (h.lps _ _ hs)

theorem enterStarting_keeps (h : MachineClosed P) (hs : P s) : P (enterStarting s) :=
  h.afc _ _ (enterPower_keeps h _ hs)

theorem updateDerate_keeps (h : MachineClosed P) (hs : P s) : P (updateDerate s) := by
  unfold updateDerate
  split
  · exact hs
  · exact h.lps _ _ hs

theorem recomputeLight_keeps (h : MachineClosed P) (hs : P s) : P (recomputeLight s) := by
  unfold recomputeLight
  dsimp only
  split
  · split
    · exact raiseBoth_keeps h.toLensClosed _ (h.lps _ _ hs)
    · exact h.lps _ _ hs
  · exact hs

theorem enterLit_keeps (h : MachineClosed P) (l : Int) (hs : P s) : P (enterLit l s) :=
  grantOccasion_keeps h.toLensClosed _ (recomputeLight_keeps h (updateDerate_keeps h
    (h.lps _ _ (enterPower_keeps h _ hs))))

theorem takeTrip_keeps (h : MachineClosed P) (c : TripCause) (hs : P s) : P (takeTrip c s) := by
  unfold takeTrip
  dsimp only
  refine h.afc _ _ ?_
  have h1 := raiseBoth_keeps h.toLensClosed .trip
    (h.lps s { s.lps with latch := true, lastTrip := some c } hs)
  split
  · exact h1
  · exact enterPower_keeps h _ h1

theorem tripIf_keeps (h : MachineClosed P) (c : Option TripCause) (hs : P s) : P (tripIf c s) := by
  unfold tripIf
  split
  · exact hs
  · split
    · exact takeTrip_keeps h _ hs
    · exact hs

theorem lightSweep_keeps (h : MachineClosed P) (hs : P s) : P (lightSweep s) := by
  have ht := tripIf_keeps h (sweepTrip s) hs
  unfold lightSweep
  dsimp only
  split
  · split
    · exact h.lps _ _ (enterPower_keeps h _ ht)
    · exact ht
  · exact recomputeLight_keeps h (updateDerate_keeps h ht)
  · exact ht

theorem lightGate_keeps (h : MachineClosed P) (hs : P s) : P (lightGate s) := by
  have ht := tripIf_keeps h (gateTrip s) hs
  unfold lightGate
  dsimp only
  split
  · split
    · exact h.lps _ _ (enterPower_keeps h _ ht)
    · exact ht
  · exact recomputeLight_keeps h ht
  · exact ht

theorem fanGate_keeps (h : MachineClosed P) (hs : P s) : P (fanGate s) := by
  unfold fanGate
  dsimp only
  split
  · exact raiseBoth_keeps h.toLensClosed _ (h.afc _ _ hs)
  · exact h.afc _ _ hs

theorem provingExpiry_keeps (h : MachineClosed P) (hs : P s) : P (provingExpiry s) := by
  unfold provingExpiry
  split
  · exact tripIf_keeps h _ hs
  · exact hs

theorem lightLoss_keeps (h : MachineClosed P) (hs : P s) : P (lightLoss s) :=
  h.lps _ _ (enterPower_keeps h _ hs)

theorem lightOffNow_keeps (h : MachineClosed P) (hs : P s) : P (lightOffNow s) := by
  unfold lightOffNow
  split
  · exact enterPower_keeps h _ hs
  · exact hs

theorem coverTo_keeps (h : MachineClosed P) (c : Cover) (hs : P s) : P (coverTo c s) := by
  have ht := raiseBoth_keeps h.toLensClosed .state (h.lps s { s.lps with cover := c } hs)
  unfold coverTo
  dsimp only
  split
  · exact hs
  · split
    · exact lightOffNow_keeps h ht
    · exact ht

theorem powerDownNow_keeps (h : MachineClosed P) (hs : P s) : P (powerDownNow s) := by
  unfold powerDownNow
  split <;> first | exact hs | exact h.lps _ _ (enterPower_keeps h _ hs)

theorem powerUpNow_keeps (h : MachineClosed P) (hs : P s) : P (powerUpNow s).1 := by
  unfold powerUpNow
  split
  all_goals first | exact hs | skip
  all_goals
    dsimp only
    split
    · exact h.lps _ _ (enterPower_keeps h _ hs)
    · split
      · exact h.lps _ _ (enterPower_keeps h _ hs)
      · exact h.lps _ _ (enterStarting_keeps h hs)

theorem clearTripNow_keeps (h : MachineClosed P) (hs : P s) : P (clearTripNow s).1 := by
  unfold clearTripNow
  split
  · split
    · exact enterStarting_keeps h (h.lps _ _ hs)
    · exact hs
  · exact hs

theorem lightOnNow_keeps (h : MachineClosed P) (l : Nat) (hs : P s) : P (lightOnNow l s).1 := by
  unfold lightOnNow
  split
  · split
    · exact enterLit_keeps h _ hs
    · exact hs
  · exact h.lps _ _ hs
  all_goals exact hs

/-! ## Sensing -/

theorem setConversion_keeps (h : MachineClosed P) (x : Conversion) (hs : P s) :
    P (setConversion x s) := h.scn _ _ hs

theorem applyConversion_keeps (h : MachineClosed P) (c : Channel) (k : Int) (hs : P s) :
    P (applyConversion c k s) := h.scn _ _ hs

theorem joinPair_keeps (h : MachineClosed P) (hs : P s) : P (joinPair s) := by
  unfold joinPair
  split
  · exact hs
  · dsimp only
    split
    · exact h.scn _ _ (h.scn _ _ hs)
    · exact h.scn _ _ hs

theorem presentAll_keeps (h : MachineClosed P) (hs : P s) : P (presentAll s) := by
  unfold presentAll
  dsimp only
  split
  · exact raiseBoth_keeps h.toLensClosed _ (h.scn _ _ hs)
  · exact h.scn _ _ hs

theorem buildIf_keeps (h : MachineClosed P) (c : Prop) [Decidable c] (hs : P s) :
    P (if c then requestBuild s else s) := by
  split
  · exact h.build _ hs
  · exact hs

theorem geoSweep_keeps (h : MachineClosed P) (o : Orientation) (hs : P s) :
    P (geoSweep o s) := by
  unfold geoSweep
  dsimp only
  exact eitherOrder_keeps h (buildIf_keeps h _ (buildIf_keeps h _ hs))
    (buildIf_keeps h _ (buildIf_keeps h _ hs))

theorem powerAndDrift_keeps (h : MachineClosed P) (hs : P s) : P (powerAndDrift s) := by
  have hb : P (eitherOrder (fun t => evaluateDrift (lightSweep t))
      (fun t => lightSweep (evaluateDrift t)) s) :=
    eitherOrder_keeps h (evaluateDrift_keeps h.toLensClosed (lightSweep_keeps h hs))
      (lightSweep_keeps h (evaluateDrift_keeps h.toLensClosed hs))
  unfold powerAndDrift
  dsimp only
  split
  · exact grantOccasion_keeps h.toLensClosed _ hb
  · exact hb

theorem presentAndAct_keeps (h : MachineClosed P) (o : Orientation) (hs : P s) :
    P (presentAndAct o s) :=
  powerAndDrift_keeps h (geoSweep_keeps h _ (presentAll_keeps h (h.scn _ _ hs)))

theorem completeConversion_keeps (h : MachineClosed P) (c : Channel) (k : Int) (hs : P s) :
    P (completeConversion c k s) := by
  have ha := applyConversion_keeps h c k hs
  unfold completeConversion
  dsimp only
  split
  · exact hs
  · split
    · split
      · exact setConversion_keeps h _ ha
      · exact presentAndAct_keeps h _ (joinPair_keeps h (setConversion_keeps h _ ha))
    · exact hs
  · split
    · exact presentAndAct_keeps h _ (setConversion_keeps h _ ha)
    · exact hs
  · split
    · exact setConversion_keeps h _ ha
    · exact hs

theorem startSweep_keeps (h : MachineClosed P) (hs : P s) : P (startSweep s) := by
  unfold startSweep
  split
  · exact setConversion_keeps h _ hs
  · exact hs

theorem startStandby_keeps (h : MachineClosed P) (hs : P s) : P (startStandby s) := by
  unfold startStandby
  split
  · exact hs
  · split <;> first | exact hs | exact setConversion_keeps h _ hs

/-! ## Rails and reset -/

theorem railRise_keeps (h : MachineClosed P) (hs : P s) : P (railRise s) := by
  unfold railRise
  split
  · exact hs
  · exact h.build _ (enterStarting_keeps h (h.scn _ _ hs))

theorem railLoss_keeps (h : MachineClosed P) (hs : P s) : P (railLoss s) := by
  unfold railLoss
  split
  · have h1 := lightLoss_keeps h (h.afc (scanLoss s) { (scanLoss s).afc with
      fans := (scanLoss s).afc.fans.map unpowered } (h.scn _ _ hs))
    exact setTracker_keeps h.toLensClosed _ (eitherOrder_keeps h
      (lensLoss_keeps h.toLensClosed (h.railLoss _ h1))
      (h.railLoss _ (lensLoss_keeps h.toLensClosed h1)))
  · exact hs

theorem takeInputs_keeps (h : MachineClosed P) (x : InputLevels) (hs : P s) :
    P (takeInputs x s) :=
  overAxes_keeps (f := fun a t => takeSwitch a (x.homes.get a) t)
    (fun _ _ ht => h.axis _ _ _ (RecordStep.of_same rfl rfl rfl rfl) ht) (h.lps _ _ hs)

theorem endReset_keeps (h : MachineClosed P) (x : InputLevels) (hs : P s) :
    P (endReset x s) := by
  unfold endReset
  split
  · refine h.build _ ?_
    have h1 := takeInputs_keeps h x (h.announce _ (h.awake _ hs))
    unfold powerStart
    split
    · exact enterStarting_keeps h (h.scn _ _ h1)
    · exact h.lps _ _ (h.scn _ _ h1)
  · exact hs

/-! ## Lens commands, presets, profile -/

theorem moveNow_keeps (h : LensClosed P) (p : Port) (x : MoveOperands) (hs : P s) :
    P (moveNow p x s).1 := by
  unfold moveNow
  split
  · exact hs
  · exact grantOccasion_keeps h _ (place_keeps h _ (endGroupFor_keeps h.toEndClosed _ _ hs))

theorem homeNow_keeps (h : LensClosed P) (p : Port) (axes : PerAxis Bool) (g : Byte) (hs : P s) :
    P (homeNow p axes g s).1 := by
  unfold homeNow
  split
  · exact hs
  · show P (acceptHome p axes g s)
    unfold acceptHome
    split
    · exact hs
    · exact grantOccasion_keeps h _ (forAxes_keeps (fun _ _ ht => place_keeps h _ ht) _
        (endGroupFor_keeps h.toEndClosed _ _ hs))

theorem stopNow_keeps (h : LensClosed P) (axes : PerAxis Bool) (hs : P s) : P (stopNow axes s) := by
  have ht : P (forAxes axes stopAxis (endGroupFor .cancelled axes s)) :=
    forAxes_keeps (fun a _ ht => stopAxis_keeps h a ht) _ (endGroupFor_keeps h.toEndClosed _ _ hs)
  unfold stopNow occasionIf
  split
  · exact ht
  · exact grantOccasion_keeps h _ ht

theorem driftNow_keeps (h : LensClosed P) (on : Bool) (hs : P s) : P (driftNow on s).1 := by
  unfold driftNow
  dsimp only
  split
  · unfold driftOn
    split <;> exact h.fdt _ _ hs
  · exact h.fdt _ _ hs

theorem savePreset_keeps (h : MachineClosed P) (x : SaveOperands) (hs : P s) :
    P (savePreset x s).1 := by
  unfold savePreset
  split
  · exact hs
  · exact changeSlot_keeps h _ _ hs

theorem erasePreset_keeps (h : MachineClosed P) (n : Fin 10) (hs : P s) :
    P (erasePreset n s).1 := by
  unfold erasePreset
  split
  · exact hs
  · exact changeSlot_keeps h _ _ hs

theorem acceptRecall_keeps (h : MachineClosed P) (n : Fin 10) (g : Byte) (p : Port) (x : Preset)
    (hs : P s) : P (acceptRecall n g p x s) := by
  have h1 : P (formGroup n g p x (supersedeGroup s)) :=
    h.msc _ _ id (supersedeGroup_keeps h.toLensClosed hs)
  unfold acceptRecall
  dsimp only
  refine grantOccasion_keeps h.toLensClosed _ (settleGroup_keeps h.toEndClosed
    (forAxes_keeps (fun _ _ ht => placeMember_keeps h.toLensClosed _ _ _ _ _ ht) _ ?_))
  split
  · exact h1
  · exact changeSettings_keeps h _ h1

theorem recallPreset_keeps (h : MachineClosed P) (p : Port) (n : Fin 10) (g : Byte) (hs : P s) :
    P (recallPreset p n g s).1 := by
  unfold recallPreset
  split
  · exact hs
  · exact acceptRecall_keeps h _ _ _ _ hs
  · exact hs

theorem storeSettings_keeps (h : MachineClosed P) (x : Settings) (hs : P s) :
    P (storeSettings x s) := by
  unfold storeSettings
  split
  · exact hs
  · exact changeSettings_keeps h _ hs

theorem refreshMaximum_keeps (h : LensClosed P) (b : State) (a : Axis) (hs : P s) :
    P (refreshMaximum b a s) := by
  unfold refreshMaximum
  split
  · exact hs
  · exact h.axis _ _ _ (RecordStep.of_same rfl rfl rfl rfl) hs

theorem applyWrite_keeps (h : MachineClosed P) (k : ProfileSection) (i n : Nat) (v : List Int)
    (hs : P s) : P (applyWrite k i n v s) := by
  have h1 : P (refreshMaxima s (s.withPrf (s.prf.setSection k v))) :=
    overAxes_keeps (f := fun a t => refreshMaximum s a t)
      (fun a _ ht => refreshMaximum_keeps h.toLensClosed s a ht) (h.prf _ _ hs)
  have h2 : P (refreshDerate s (refreshMaxima s (s.withPrf (s.prf.setSection k v)))) := by
    unfold refreshDerate
    split
    · exact recomputeLight_keeps h (updateDerate_keeps h h1)
    · exact h1
  unfold applyWrite
  dsimp only
  split
  · exact h.build _ h2
  · exact h2

theorem writeProfile_keeps (h : MachineClosed P) (k : ProfileSection) (o : Nat) (d : List Byte)
    (hs : P s) : P (writeProfile k o d s).1 := by
  unfold writeProfile
  split
  · exact hs
  · split
    · exact hs
    · dsimp only
      split
      · exact applyWrite_keeps h _ _ _ _ hs
      · exact hs

theorem readProfile_keeps (k : ProfileSection) (o n : Nat) (hs : P s) :
    P (readProfile k o n s).1 := by
  unfold readProfile
  dsimp only
  split <;> exact hs

theorem takeNow_keeps (h : MachineClosed P) (g c : Nat) (hs : P s) : P (takeNow g c s).1 := by
  unfold takeNow
  split
  · exact hs
  · rename_i l hl
    split
    · exact h.raise _ _ _ (h.takeLive _ g l hl hs)
    · exact hs

theorem dropNow_keeps (h : MachineClosed P) (g : Nat) (hs : P s) : P (dropNow g s).1 := by
  unfold dropNow
  split
  · exact hs
  · exact h.release _ hs

theorem setAcoustic_keeps (h : MachineClosed P) (m : AcousticMode) (hs : P s) :
    P (setAcoustic m s) := by
  unfold setAcoustic
  split
  · exact hs
  · exact grantOccasion_keeps h.toLensClosed _ (h.afc _ _ hs)

/-! ## Every command of the ports -/

theorem takeResetPart_keeps (h : MachineClosed P) (p : Port) (d : List Byte) (hs : P s) :
    P (takeResetPart p d s) := by
  unfold takeResetPart
  split
  · exact hs
  · split
    · exact h.reset _ hs
    · exact takeCommand_keeps h (fun _ _ ht => ht) _ _ hs

/-- The taking of any command of R160. -/
theorem takeKnown_keeps (h : MachineClosed P) (c : Cmd) (p : Port) (d : List Byte) (hs : P s) :
    P (takeKnown c p d s) := by
  have l := h.toLensClosed
  cases c
  case resetPart => exact takeResetPart_keeps h p d hs
  case events => exact takeCommand_keeps h (fun _ t ht => h.clear t p ht) p d hs
  case mask => exact takeCommand_keeps h (fun m t ht => h.mask t p m ht) p d hs
  case lightOn => exact takeCommand_keeps h (fun x _ ht => lightOnNow_keeps h x ht) p d hs
  case lightOff => exact takeCommand_keeps h (fun _ _ ht => lightOffNow_keeps h ht) p d hs
  case acoustic => exact takeCommand_keeps h (fun m _ ht => setAcoustic_keeps h m ht) p d hs
  case powerDown => exact takeCommand_keeps h (fun _ _ ht => powerDownNow_keeps h ht) p d hs
  case powerUp => exact takeCommand_keeps h (fun _ _ ht => powerUpNow_keeps h ht) p d hs
  case clearTrip => exact takeCommand_keeps h (fun _ _ ht => clearTripNow_keeps h ht) p d hs
  case move => exact takeCommand_keeps h (fun x _ ht => moveNow_keeps l p x ht) p d hs
  case home => exact takeCommand_keeps h (fun x _ ht => homeNow_keeps l p x.1 x.2 ht) p d hs
  case stop => exact takeCommand_keeps h (fun x _ ht => stopNow_keeps l x ht) p d hs
  case drift => exact takeCommand_keeps h (fun x _ ht => driftNow_keeps l x ht) p d hs
  case presetSave => exact takeCommand_keeps h (fun x _ ht => savePreset_keeps h x ht) p d hs
  case presetErase => exact takeCommand_keeps h (fun x _ ht => erasePreset_keeps h x ht) p d hs
  case presetRecall =>
    exact takeCommand_keeps h (fun x _ ht => recallPreset_keeps h p x.1 x.2 ht) p d hs
  case trims => exact takeCommand_keeps h (fun _ _ ht => storeSettings_keeps h _ ht) p d hs
  case keystone => exact takeCommand_keeps h (fun _ _ ht => storeSettings_keeps h _ ht) p d hs
  case orientation => exact takeCommand_keeps h (fun _ _ ht => storeSettings_keeps h _ ht) p d hs
  case rebuild => exact takeCommand_keeps h (fun _ t ht => h.build t ht) p d hs
  case profileWrite =>
    exact takeCommand_keeps h (fun x _ ht => writeProfile_keeps h x.1 x.2.1 x.2.2 ht) p d hs
  case profileRead =>
    exact takeCommand_keeps h (fun x _ ht => readProfile_keeps x.1 x.2.1 x.2.2 ht) p d hs
  case openTable => exact takeCommand_keeps h (fun _ t ht => h.openLoan t ht) p d hs
  case takeTable => exact takeCommand_keeps h (fun x _ ht => takeNow_keeps h x.1 x.2 ht) p d hs
  case dropTable => exact takeCommand_keeps h (fun x _ ht => dropNow_keeps h x ht) p d hs
  all_goals exact takeCommand_keeps h (fun _ _ ht => ht) p d hs

theorem loseFrame_keeps (h : MachineClosed P) (p : Port) (n : Nat) (hs : P s) :
    P (loseFrame p n s) := h.raise _ _ _ (h.port _ _ _ (shiftOut_keeps h _ _ hs))

theorem ignoreExchange_keeps (h : MachineClosed P) (p : Port) (hs : P s) :
    P (ignoreExchange p s) := by
  cases p
  case s => exact h.port _ _ _ hs
  all_goals exact hs

theorem exchange_keeps (h : MachineClosed P) (p : Port) (b : List Byte) (n : Nat) (hs : P s) :
    P (exchange p b n s) := by
  unfold exchange
  split
  · exact hs
  · split
    · exact ignoreExchange_keeps h _ hs
    · exact loseFrame_keeps h _ _ hs
    · exact h.port _ _ _ hs
    · unfold takeFrame
      split
      · exact takeKnown_keeps h _ _ _ hs
      · exact respond_keeps h _ _ _ (shiftOut_keeps h _ _ hs)

theorem outsideReset_keeps {f : State → State} (hf : P (f s)) (hs : P s) :
    P (outsideReset f s) := by
  unfold outsideReset
  split
  · exact hs
  · exact hf

/-! ## Every command -/

/-- The state that a command leads to. -/
def afterCommand (i : Instr) (s : State) : State :=
  match i with
  | .status p d => takeKnown .status p d s
  | .events p d => takeKnown .events p d s
  | .mask p d => takeKnown .mask p d s
  | .sensor p d => takeKnown .sensor p d s
  | .axis p d => takeKnown .axis p d s
  | .presetRead p d => takeKnown .presetRead p d s
  | .lightOn p d => takeKnown .lightOn p d s
  | .lightOff p d => takeKnown .lightOff p d s
  | .acoustic p d => takeKnown .acoustic p d s
  | .powerDown p d => takeKnown .powerDown p d s
  | .powerUp p d => takeKnown .powerUp p d s
  | .clearTrip p d => takeKnown .clearTrip p d s
  | .move p d => takeKnown .move p d s
  | .home p d => takeKnown .home p d s
  | .stop p d => takeKnown .stop p d s
  | .presetSave p d => takeKnown .presetSave p d s
  | .presetErase p d => takeKnown .presetErase p d s
  | .presetRecall p d => takeKnown .presetRecall p d s
  | .trims p d => takeKnown .trims p d s
  | .keystone p d => takeKnown .keystone p d s
  | .orientation p d => takeKnown .orientation p d s
  | .rebuild p d => takeKnown .rebuild p d s
  | .drift p d => takeKnown .drift p d s
  | .profileWrite p d => takeKnown .profileWrite p d s
  | .profileRead p d => takeKnown .profileRead p d s
  | .resetPart p d => takeKnown .resetPart p d s
  | .openTable p d => takeKnown .openTable p d s
  | .readTable p d => takeKnown .readTable p d s
  | .takeTable p d => takeKnown .takeTable p d s
  | .dropTable p d => takeKnown .dropTable p d s
  | .bankStatus p d => takeKnown .bankStatus p d s
  | .unknownCommand p code d => exchange p (frameBytes code d) 0 s
  | .brokenFrame p bytes bits => exchange p bytes bits s
  | .responseRead p count => outsideReset (readResponse p count) s
  | .partReset _ => partReset s
  | .resetEnd levels => endReset levels s
  | .mainRailRise => outsideReset railRise s
  | .mainRailLoss => outsideReset railLoss s
  | .coverChange cover => outsideReset (coverTo cover) s
  | .homeSwitchChange a b => outsideReset (fun t => occasionAfter a t (switchChange a b t)) s
  | .tachPulse fan width => outsideReset (countPulse fan width) s
  | .sweepStart => outsideReset startSweep s
  | .standbyBrdConversion => outsideReset startStandby s
  | .conversionComplete c code => outsideReset (completeConversion c code.toNat) s
  | .gateEnd => outsideReset (fun t => lightGate (fanGate t)) s
  | .provingDeadlineExpiry => outsideReset provingExpiry s
  | .step a => outsideReset (axisStep a) s
  | .dwellExpiry a => outsideReset (fun t => occasionAfter a t (dwellEnd a t)) s
  | .buildEnd => outsideReset finishBuild s
  | .loanExpiry => outsideReset loanExpires s
  | .nvWriteEnd => outsideReset writeEnd s

/-- Every command answers a next state. -/
theorem exec_next (i : Instr) (s : State) : exec i s = .next (afterCommand i s) := by
  cases i <;> rfl

/-- A command keeps every property that the primitive changes keep. -/
theorem exec_keeps (h : MachineClosed P) (i : Instr) (hs : P s) : P (afterCommand i s) := by
  have l := h.toLensClosed
  cases i
  case unknownCommand => exact exchange_keeps h _ _ _ hs
  case brokenFrame => exact exchange_keeps h _ _ _ hs
  case responseRead => exact outsideReset_keeps (h.port _ _ _ hs) hs
  case partReset => exact h.reset _ hs
  case resetEnd => exact endReset_keeps h _ hs
  case mainRailRise => exact outsideReset_keeps (railRise_keeps h hs) hs
  case mainRailLoss => exact outsideReset_keeps (railLoss_keeps h hs) hs
  case coverChange => exact outsideReset_keeps (coverTo_keeps h _ hs) hs
  case homeSwitchChange a b =>
    exact outsideReset_keeps (f := fun t => occasionAfter a t (switchChange a b t))
      (occasionAfter_keeps l _ _ (switchChange_keeps l _ _ hs)) hs
  case tachPulse =>
    refine outsideReset_keeps ?_ hs
    unfold countPulse
    split
    · exact h.afc _ _ hs
    · exact hs
  case sweepStart => exact outsideReset_keeps (startSweep_keeps h hs) hs
  case standbyBrdConversion => exact outsideReset_keeps (startStandby_keeps h hs) hs
  case conversionComplete => exact outsideReset_keeps (completeConversion_keeps h _ _ hs) hs
  case gateEnd =>
    exact outsideReset_keeps (f := fun t => lightGate (fanGate t))
      (lightGate_keeps h (fanGate_keeps h hs)) hs
  case provingDeadlineExpiry => exact outsideReset_keeps (provingExpiry_keeps h hs) hs
  case step => exact outsideReset_keeps (axisStep_keeps l _ hs) hs
  case dwellExpiry a =>
    exact outsideReset_keeps (f := fun t => occasionAfter a t (dwellEnd a t))
      (occasionAfter_keeps l _ _ (dwellEnd_keeps l _ hs)) hs
  case buildEnd => exact outsideReset_keeps (h.finish _ hs) hs
  case loanExpiry => exact outsideReset_keeps (h.expire _ hs) hs
  case nvWriteEnd => exact outsideReset_keeps (writeEnd_keeps h hs) hs
  case status => exact takeKnown_keeps h .status _ _ hs
  case events => exact takeKnown_keeps h .events _ _ hs
  case mask => exact takeKnown_keeps h .mask _ _ hs
  case sensor => exact takeKnown_keeps h .sensor _ _ hs
  case axis => exact takeKnown_keeps h .axis _ _ hs
  case presetRead => exact takeKnown_keeps h .presetRead _ _ hs
  case lightOn => exact takeKnown_keeps h .lightOn _ _ hs
  case lightOff => exact takeKnown_keeps h .lightOff _ _ hs
  case acoustic => exact takeKnown_keeps h .acoustic _ _ hs
  case powerDown => exact takeKnown_keeps h .powerDown _ _ hs
  case powerUp => exact takeKnown_keeps h .powerUp _ _ hs
  case clearTrip => exact takeKnown_keeps h .clearTrip _ _ hs
  case move => exact takeKnown_keeps h .move _ _ hs
  case home => exact takeKnown_keeps h .home _ _ hs
  case stop => exact takeKnown_keeps h .stop _ _ hs
  case presetSave => exact takeKnown_keeps h .presetSave _ _ hs
  case presetErase => exact takeKnown_keeps h .presetErase _ _ hs
  case presetRecall => exact takeKnown_keeps h .presetRecall _ _ hs
  case trims => exact takeKnown_keeps h .trims _ _ hs
  case keystone => exact takeKnown_keeps h .keystone _ _ hs
  case orientation => exact takeKnown_keeps h .orientation _ _ hs
  case rebuild => exact takeKnown_keeps h .rebuild _ _ hs
  case drift => exact takeKnown_keeps h .drift _ _ hs
  case profileWrite => exact takeKnown_keeps h .profileWrite _ _ hs
  case profileRead => exact takeKnown_keeps h .profileRead _ _ hs
  case resetPart => exact takeKnown_keeps h .resetPart _ _ hs
  case openTable => exact takeKnown_keeps h .openTable _ _ hs
  case readTable => exact takeKnown_keeps h .readTable _ _ hs
  case takeTable => exact takeKnown_keeps h .takeTable _ _ hs
  case dropTable => exact takeKnown_keeps h .dropTable _ _ hs
  case bankStatus => exact takeKnown_keeps h .bankStatus _ _ hs

/-- A step keeps every property that the primitive changes and a change of the queue keep. -/
theorem step_keeps (h : MachineClosed P) (hq : ∀ s x, P s → P (s.withPending x)) {t : State}
    (hs : P s) (ht : step s = .next t) : P t := by
  unfold step at ht
  split at ht
  · cases ht
    exact h.bankTick _ (h.lps _ _ hs)
  · rw [exec_next] at ht
    cases ht
    exact exec_keeps h _ (hq _ _ hs)

/-! ## The pending list -/

theorem afterBuild_msc (s : State) : (afterBuild s).msc = s.msc := by
  unfold afterBuild
  split <;> rfl

theorem requestBuild_msc (s : State) : (requestBuild s).msc = s.msc := by
  unfold requestBuild
  split <;> rfl

/-- The primitive changes keep every pending record in its own axis's place. -/
theorem placed_closed : MachineClosed (fun s => s.msc.Placed) where
  msc _ _ h hs := h hs
  fdt _ _ h := h
  raise _ _ _ h := h
  build s h := by rw [requestBuild_msc]; exact h
  axis _ _ _ _ h := h
  take _ _ _ _ _ _ _ _ h := h
  mark _ h := h
  choices _ _ h := h
  scn _ _ h := h
  awake _ h := h
  afc _ _ h := h
  lps _ _ h := h
  ptb _ _ h := h
  nvs _ _ h := h
  prf _ _ h := h
  settings _ _ h := h
  port _ _ _ h := h
  clear _ _ h := h
  mask _ _ _ h := h
  announce _ h := h
  finish s h := by
    unfold finishBuild
    split
    · dsimp only
      rw [afterBuild_msc]
      exact h
    · exact h
  openLoan _ h := h
  takeLive _ _ _ _ h := h
  release _ h := h
  expire _ h := h
  railLoss _ h := h
  bankTick _ h := h
  reset _ _ := fun a q hq => by cases a <;> cases hq

/-- A step keeps every pending record in its own axis's place (R85). -/
theorem step_placed {t : State} (hs : s.msc.Placed) (ht : step s = .next t) : t.msc.Placed :=
  step_keeps placed_closed (fun _ _ h => h) hs ht

end Sys2Proof.Machine
end

