-- ==== Sys2Proof/Laws/Memory.lean ====
section
/-! SUPPORT. Table images: every operation of Machine/Memory.lean keeps the canonical form, a byte read
is the byte stored, and a store keeps the bytes outside it. -/

namespace Sys2Proof.Machine

/-! ## The canonical form -/

theorem Memory.wfFrom_mono {lo hi : Nat} {m : Memory} (h : lo ≤ hi) (hm : Memory.wfFrom hi m = true) :
    Memory.wfFrom lo m = true := by
  cases m with
  | nil => rfl
  | cons c rest =>
    simp only [Memory.wfFrom, Bool.and_eq_true, decide_eq_true_eq] at hm ⊢
    exact ⟨⟨Nat.le_trans h hm.1.1, hm.1.2⟩, hm.2⟩

/-- An image starts in canonical form: nothing is listed. -/
theorem Memory.wf_nil : Memory.wf [] = true := rfl

theorem Memory.wfFrom_ofBytes (base : Nat) (bytes : List Byte) :
    Memory.wfFrom base (Memory.ofBytes base bytes) = true := by
  induction bytes generalizing base with
  | nil => rfl
  | cons b bytes ih =>
    unfold Memory.ofBytes
    split
    · exact Memory.wfFrom_mono (Nat.le_succ base) (ih (base + 1))
    · rename_i hb
      simp [Memory.wfFrom, hb, ih (base + 1)]

theorem Memory.mem_wfFrom {lo : Nat} {m : Memory} (hm : Memory.wfFrom lo m = true) :
    ∀ c ∈ m, lo ≤ c.1 ∧ c.2 ≠ blankByte := by
  induction m generalizing lo with
  | nil => simp
  | cons x rest ih =>
    simp only [Memory.wfFrom, Bool.and_eq_true, decide_eq_true_eq, bne_iff_ne] at hm
    intro c hc
    rcases List.mem_cons.mp hc with rfl | hc
    · exact hm.1
    · exact ⟨by have := (ih hm.2 c hc).1; omega, (ih hm.2 c hc).2⟩

theorem Memory.wfFrom_filter {lo : Nat} {m : Memory} (p : Host.Cell → Bool)
    (hm : Memory.wfFrom lo m = true) : Memory.wfFrom lo (m.filter p) = true := by
  induction m generalizing lo with
  | nil => rfl
  | cons x rest ih =>
    simp only [Memory.wfFrom, Bool.and_eq_true, decide_eq_true_eq] at hm
    rw [List.filter_cons]
    split
    · simp only [Memory.wfFrom, Bool.and_eq_true, decide_eq_true_eq]
      exact ⟨hm.1, ih hm.2⟩
    · exact Memory.wfFrom_mono (by omega) (ih hm.2)

/-- Two canonical lists of which the first ends before the second begins. -/
theorem Memory.wfFrom_append {lo mid : Nat} {m n : Memory} (hlo : lo ≤ mid)
    (hm : Memory.wfFrom lo m = true) (hb : ∀ c ∈ m, c.1 < mid)
    (hn : Memory.wfFrom mid n = true) : Memory.wfFrom lo (m ++ n) = true := by
  induction m generalizing lo with
  | nil => exact Memory.wfFrom_mono hlo hn
  | cons x rest ih =>
    simp only [Memory.wfFrom, Bool.and_eq_true, decide_eq_true_eq] at hm
    simp only [List.cons_append, Memory.wfFrom, Bool.and_eq_true, decide_eq_true_eq]
    exact ⟨hm.1, ih (hb x (by simp)) hm.2 (fun c hc => hb c (by simp [hc]))⟩

/-- The offsets that `ofBytes` lists. -/
theorem Memory.ofBytes_bound (base : Nat) (bytes : List Byte) :
    ∀ c ∈ Memory.ofBytes base bytes, base ≤ c.1 ∧ c.1 < base + bytes.length := by
  induction bytes generalizing base with
  | nil => simp [Memory.ofBytes]
  | cons b bytes ih =>
    intro c hc
    unfold Memory.ofBytes at hc
    split at hc
    · have := ih (base + 1) c hc
      simp only [List.length_cons]
      omega
    · rcases List.mem_cons.mp hc with rfl | hc
      · simp
      · have := ih (base + 1) c hc
        simp only [List.length_cons]
        omega

theorem Memory.wfFrom_of_bound {lo hi : Nat} {m : Memory} (hm : Memory.wfFrom lo m = true)
    (hb : ∀ c ∈ m, hi ≤ c.1) : Memory.wfFrom hi m = true := by
  cases m with
  | nil => rfl
  | cons x rest =>
    simp only [Memory.wfFrom, Bool.and_eq_true, decide_eq_true_eq] at hm ⊢
    exact ⟨⟨hb x (by simp), hm.1.2⟩, hm.2⟩

/-- A store keeps the canonical form. -/
theorem Memory.wf_writeBytes {m : Memory} (hm : Memory.wf m = true) (base : Nat)
    (bytes : List Byte) : Memory.wf (m.writeBytes base bytes) = true := by
  unfold Memory.wf Memory.writeBytes at *
  rw [List.append_assoc]
  refine Memory.wfFrom_append (Nat.zero_le base) (Memory.wfFrom_filter _ hm) ?_ ?_
  · intro c hc
    simpa using (List.mem_filter.mp hc).2
  · refine Memory.wfFrom_append (Nat.le_add_right base bytes.length)
      (Memory.wfFrom_ofBytes base bytes) (fun c hc => (Memory.ofBytes_bound base bytes c hc).2) ?_
    refine Memory.wfFrom_of_bound (Memory.wfFrom_filter _ hm) ?_
    intro c hc
    simpa using (List.mem_filter.mp hc).2

/-! ## Reading what was stored -/

theorem Memory.read_append_left {m : Memory} {x : Nat} (n : Memory) (h : ∀ c ∈ m, c.1 ≠ x) :
    Memory.read (m ++ n) x = Memory.read n x := by
  induction m with
  | nil => rfl
  | cons c rest ih =>
    simp only [List.cons_append, Memory.read]
    rw [if_neg (h c (by simp))]
    exact ih (fun d hd => h d (by simp [hd]))

theorem Memory.read_absent {m : Memory} {x : Nat} (h : ∀ c ∈ m, c.1 ≠ x) :
    Memory.read m x = blankByte := by
  have := Memory.read_append_left [] h
  rwa [List.append_nil] at this

theorem Memory.read_append_right {m n : Memory} {x : Nat} (h : ∀ c ∈ n, c.1 ≠ x) :
    Memory.read (m ++ n) x = Memory.read m x := by
  induction m with
  | nil => exact Memory.read_absent h
  | cons c rest ih =>
    simp only [List.cons_append, Memory.read]
    rw [ih]

theorem Memory.read_ofBytes (base : Nat) (bytes : List Byte) (k : Nat) :
    Memory.read (Memory.ofBytes base bytes) (base + k) = bytes.getD k blankByte := by
  induction bytes generalizing base k with
  | nil => simp [Memory.ofBytes, Memory.read]
  | cons b bytes ih =>
    unfold Memory.ofBytes
    cases k with
    | zero =>
      split
      · rename_i hb
        rw [Memory.read_absent]
        · simp [hb]
        · intro c hc
          have := Memory.ofBytes_bound (base + 1) bytes c hc
          omega
      · simp [Memory.read]
    | succ k =>
      have e : base + (k + 1) = base + 1 + k := by omega
      split
      · rw [e, ih]
        simp
      · simp only [Memory.read]
        rw [if_neg (by omega), e, ih]
        simp

theorem Memory.read_filter {p : Host.Cell → Bool} {m : Memory} {x : Nat}
    (h : ∀ b, p (x, b) = true) : Memory.read (m.filter p) x = Memory.read m x := by
  induction m with
  | nil => rfl
  | cons c rest ih =>
    obtain ⟨a, b⟩ := c
    rw [List.filter_cons]
    split
    · simp only [Memory.read, ih]
    · rename_i hp
      have ha : a ≠ x := by
        rintro rfl
        exact hp (h b)
      simp only [Memory.read]
      rw [if_neg ha, ih]

/-- The bytes stored are read back. -/
theorem Memory.read_writeBytes {m : Memory} {base k : Nat} {bytes : List Byte}
    (h : k < bytes.length) :
    (m.writeBytes base bytes).read (base + k) = bytes.getD k blankByte := by
  unfold Memory.writeBytes
  rw [Memory.read_append_right, Memory.read_append_left, Memory.read_ofBytes]
  · intro c hc
    have := (List.mem_filter.mp hc).2
    simp only [decide_eq_true_eq] at this
    omega
  · intro c hc
    have := (List.mem_filter.mp hc).2
    simp only [decide_eq_true_eq] at this
    omega

/-- A byte outside a store is read as before. -/
theorem Memory.read_writeBytes_outside {m : Memory} {base x : Nat} {bytes : List Byte}
    (h : x < base ∨ base + bytes.length ≤ x) : (m.writeBytes base bytes).read x = m.read x := by
  unfold Memory.writeBytes
  have hmid : ∀ c ∈ Memory.ofBytes base bytes, c.1 ≠ x := by
    intro c hc
    have := Memory.ofBytes_bound base bytes c hc
    omega
  rcases h with h | h
  · rw [Memory.read_append_right, Memory.read_append_right hmid]
    · exact Memory.read_filter (by intro b; simpa using h)
    · intro c hc
      have := (List.mem_filter.mp hc).2
      simp only [decide_eq_true_eq] at this
      omega
  · rw [List.append_assoc, Memory.read_append_left, Memory.read_append_left _ hmid]
    · exact Memory.read_filter (by intro b; simpa using h)
    · intro c hc
      have := (List.mem_filter.mp hc).2
      simp only [decide_eq_true_eq] at this
      omega

end Sys2Proof.Machine
end

