-- ==== Sys2Proof/Laws/Operations.lean ====
section
/-! SUPPORT. The shared operations in the vocabulary of Sys2Proof/Safety.lean, one lemma for what each
does and one for its frame: raising causes, answering, asking for a build, marking the store,
entering a power state, kicking the fans, the lens as a whole, and the length of an image. -/

namespace Sys2Proof.Machine

variable {s t u : State} {l m : List Part}

/-! ## Frames -/

theorem samePart_refl (x : Part) (s : State) : samePart x s s := by
  cases x <;> first | rfl | exact ⟨rfl, rfl⟩

theorem samePart_trans {x : Part} (h : samePart x s t) (k : samePart x t u) : samePart x s u := by
  cases x <;> first | exact Eq.trans k h | exact ⟨k.1.trans h.1, k.2.trans h.2⟩

theorem Unchanged.refl (l : List Part) (s : State) : Unchanged l s s := fun x _ => samePart_refl x s

theorem Unchanged.weaken (h : Unchanged l s t) (hl : ∀ x ∈ l, x ∈ m) : Unchanged m s t :=
  fun x hx => h x (fun k => hx (hl x k))

theorem Unchanged.trans (h : Unchanged l s t) (k : Unchanged l t u) : Unchanged l s u :=
  fun x hx => samePart_trans (h x hx) (k x hx)

theorem withPending_frame (s : State) (x : List Instr) : Unchanged [.queue] s (s.withPending x) := by
  intro p hp; cases p <;> first | rfl | exact ⟨rfl, rfl⟩ | simp at hp

theorem withChoices_frame (s : State) (x : Nat) : Unchanged [.choices] s (s.withChoices x) := by
  intro p hp; cases p <;> first | rfl | exact ⟨rfl, rfl⟩ | simp at hp

theorem withInReset_frame (s : State) (x : Bool) : Unchanged [.inReset] s (s.withInReset x) := by
  intro p hp; cases p <;> first | rfl | exact ⟨rfl, rfl⟩ | simp at hp

theorem withScn_frame (s : State) (x : Scn) : Unchanged [.scn] s (s.withScn x) := by
  intro p hp; cases p <;> first | rfl | exact ⟨rfl, rfl⟩ | simp at hp

theorem withAfc_frame (s : State) (x : Afc) : Unchanged [.afc] s (s.withAfc x) := by
  intro p hp; cases p <;> first | rfl | exact ⟨rfl, rfl⟩ | simp at hp

theorem withLps_frame (s : State) (x : Lps) : Unchanged [.lps] s (s.withLps x) := by
  intro p hp; cases p <;> first | rfl | exact ⟨rfl, rfl⟩ | simp at hp

theorem withLdu_frame (s : State) (x : Ldu) : Unchanged [.ldu] s (s.withLdu x) := by
  intro p hp; cases p <;> first | rfl | exact ⟨rfl, rfl⟩ | simp at hp

theorem withMsc_frame (s : State) (x : Msc) : Unchanged [.msc] s (s.withMsc x) := by
  intro p hp; cases p <;> first | rfl | exact ⟨rfl, rfl⟩ | simp at hp

theorem withPtb_frame (s : State) (x : Ptb) : Unchanged [.ptb] s (s.withPtb x) := by
  intro p hp; cases p <;> first | rfl | exact ⟨rfl, rfl⟩ | simp at hp

theorem withFdt_frame (s : State) (x : Fdt) : Unchanged [.fdt] s (s.withFdt x) := by
  intro p hp; cases p <;> first | rfl | exact ⟨rfl, rfl⟩ | simp at hp

theorem withGeo_frame (s : State) (x : Geo) : Unchanged [.geo] s (s.withGeo x) := by
  intro p hp; cases p <;> first | rfl | exact ⟨rfl, rfl⟩ | simp at hp

theorem withBkm_frame (s : State) (x : Bkm) : Unchanged [.bkm] s (s.withBkm x) := by
  intro p hp; cases p <;> first | rfl | exact ⟨rfl, rfl⟩ | simp at hp

theorem withNvs_frame (s : State) (x : Nvs) : Unchanged [.nvs] s (s.withNvs x) := by
  intro p hp; cases p <;> first | rfl | exact ⟨rfl, rfl⟩ | simp at hp

theorem withPrf_frame (s : State) (x : Profile) : Unchanged [.prf] s (s.withPrf x) := by
  intro p hp; cases p <;> first | rfl | exact ⟨rfl, rfl⟩ | simp at hp

theorem setChannel_frame (s : State) (c : Channel) (x : ChannelRecord) :
    Unchanged [.scn] s (s.setChannel c x) := withScn_frame _ _

theorem setAxis_frame (s : State) (a : Axis) (r : AxisRecord) :
    Unchanged [.ldu] s (s.setAxis a r) := withLdu_frame _ _

theorem setAxis_only (s : State) (a : Axis) (r : AxisRecord) : OnlyAxes [a] s (s.setAxis a r) := by
  intro b hb
  have hb : b ≠ a := fun h => hb (by simp [h])
  cases a <;> cases b <;> first | exact absurd rfl hb | rfl

theorem setPort_frame (s : State) (p : Port) (x : PortIO) : Unchanged [.ports] s (s.setPort p x) := by
  intro y hy; cases y <;> first | rfl | exact ⟨rfl, rfl⟩ | simp at hy

/-! ## Causes -/

theorem raiseOn_frame (c : Cause) (p : Port) (s : State) :
    Unchanged [.attention] s (raiseOn c p s) := by
  intro x hx
  cases x <;> first | rfl | (cases p <;> rfl) | simp at hx

theorem raiseBoth_frame (c : Cause) (s : State) : Unchanged [.attention] s (raiseBoth c s) :=
  (raiseOn_frame c .m s).trans (raiseOn_frame c .s (raiseOn c .m s))

theorem raiseBoth_joined (c : Cause) (s : State) : JoinedBoth (causeBit c) s (raiseBoth c s) :=
  ⟨⟨rfl, rfl, rfl⟩, ⟨rfl, rfl, rfl⟩⟩

theorem raiseOn_m_joined (c : Cause) (s : State) : JoinedM (causeBit c) s (raiseOn c .m s) :=
  ⟨⟨rfl, rfl, rfl⟩, rfl⟩

theorem JoinedBoth.trans {x y : CauseSet} (h : JoinedBoth x s t) (k : JoinedBoth y t u) :
    JoinedBoth (x ||| y) s u := by
  obtain ⟨⟨a1, a2, _⟩, b1, b2, _⟩ := h
  obtain ⟨⟨c1, c2, c3⟩, d1, d2, d3⟩ := k
  exact ⟨⟨by rw [c1, a1, BitVec.or_assoc], c2.trans a2, c3⟩,
    ⟨by rw [d1, b1, BitVec.or_assoc], d2.trans b2, d3⟩⟩

/-! ## Answers -/

/-- A taken command whose effect leaves the ports alone is answered as `Answered` says. -/
theorem respond_answered (p : Port) (c : Byte) (d : List Byte) (a : Answer)
    (h : u.pif.ports = (shiftOut p (d.length + 2) s).pif.ports) :
    Answered p c d a.result a.payload s (respond p c a u) := by
  unfold Answered respond
  have hp : u.port p = (shiftOut p (d.length + 2) s).port p := by
    unfold State.port; rw [h]
  simp only [State.setPort, State.withPif, h, hp]
  cases p <;> rfl

theorem respond_frame (p : Port) (c : Byte) (a : Answer) (s : State) :
    Unchanged [.ports] s (respond p c a s) := setPort_frame _ _ _

theorem shiftOut_frame (p : Port) (n : Nat) (s : State) : Unchanged [.ports] s (shiftOut p n s) :=
  setPort_frame _ _ _

/-! ## Builds -/

theorem requestBuild_frame (s : State) : Unchanged [.geo, .bkm] s (requestBuild s) := by
  unfold requestBuild
  split
  · exact (withGeo_frame _ _).weaken (by simp)
  · exact ((withGeo_frame s _).weaken (by simp)).trans ((withBkm_frame _ _).weaken (by simp))

theorem requestBuild_asked (s : State) : BuildAsked s (requestBuild s) := by
  unfold requestBuild
  split
  · rename_i h
    exact ⟨h, rfl, fun _ => ⟨rfl, rfl, rfl⟩, fun k => absurd (h.symm.trans k) (by decide)⟩
  · rename_i h
    exact ⟨rfl, rfl, fun k => absurd k h, fun _ => ⟨rfl, rfl, rfl⟩⟩

theorem requestBuild_settings (s : State) :
    (requestBuild s).geo.settings = s.geo.settings := by
  unfold requestBuild
  split <;> rfl

/-! ## The store -/

theorem startWrite_frame (s : State) : Unchanged [.nvs] s (startWrite s) := by
  unfold startWrite
  split
  · exact withNvs_frame _ _
  · exact .refl _ _

theorem markDirty_frame (i : Item) (s : State) : Unchanged [.nvs] s (markDirty i s) :=
  (withNvs_frame s _).trans (startWrite_frame _)

theorem mem_insertItem (i : Item) (d : List Item) : i ∈ insertItem i d := by
  induction d with
  | nil => simp [insertItem]
  | cons j rest ih =>
    unfold insertItem
    split
    · simp
    · split
      · rename_i h; simp [h]
      · simp [ih]

/-- Marking an item dirty, or starting the write of it at once. -/
theorem markDirty_marked (i : Item) (s : State) : Marked i (markDirty i s) := by
  have h : i ∈ insertItem i s.nvs.dirty := mem_insertItem i _
  unfold Marked markDirty startWrite
  generalize hd : insertItem i s.nvs.dirty = d at h
  cases hf : s.nvs.inFlight <;> cases d with
  | nil => simp at h
  | cons j rest =>
    simp only [State.withNvs, hf]
    rcases List.mem_cons.mp h with rfl | h
    · first | exact Or.inr rfl | exact Or.inl (by simp)
    · exact Or.inl (by simp [h])

/-- Marking changes no stored item. -/
theorem markDirty_stored (i : Item) (s : State) :
    (markDirty i s).nvs.slots = s.nvs.slots ∧ (markDirty i s).nvs.geometry = s.nvs.geometry := by
  unfold markDirty startWrite
  split <;> exact ⟨rfl, rfl⟩

/-! ## Power states and fans -/

theorem enterPower_frame (p : Power) (s : State) :
    Unchanged [.attention, .lps] s (enterPower p s) :=
  ((withLps_frame s _).weaken (by simp)).trans ((raiseBoth_frame _ _).weaken (by simp))

theorem enterPower_lps (p : Power) (s : State) : (enterPower p s).lps = s.lps.entering p := rfl

theorem enterPower_joined (p : Power) (s : State) :
    JoinedBoth (causeBit .state) s (enterPower p s) := raiseBoth_joined _ _

/-- Entering a state that is neither LIT nor STARTING. -/
theorem Lps.entering_dark (x : Lps) (p : Power) (h : p ≠ .lit) (k : p ≠ .starting) :
    x.entering p = darkIn x p := by
  cases p <;> first | exact absurd rfl h | exact absurd rfl k | rfl

theorem Lps.entering_starting (x : Lps) : x.entering .starting = startingFrom x := rfl

theorem kickFans_frame (s : State) : Unchanged [.afc] s (kickFans s) := withAfc_frame _ _

theorem kickFans_kicked (s : State) : FansKicked s (kickFans s) :=
  ⟨rfl, rfl, fun f => by cases f <;> rfl, fun f => by cases f <;> rfl⟩

/-! ## The lens as a whole -/

/-- The operations of the lens change no other part of the state than these. -/
theorem lens_frame (s : State) :
    LensClosed (Unchanged [.attention, .scn, .ldu, .msc, .fdt, .geo, .bkm] s) where
  msc _ _ _ h := h.trans ((withMsc_frame _ _).weaken (by simp))
  fdt _ _ h := h.trans ((withFdt_frame _ _).weaken (by simp))
  raise _ _ _ h := h.trans ((raiseOn_frame _ _ _).weaken (by simp))
  build _ h := h.trans ((requestBuild_frame _).weaken (by simp))
  axis _ _ _ _ h := h.trans ((setAxis_frame _ _ _).weaken (by simp))
  take _ _ _ _ _ _ _ _ h := h.trans ((setAxis_frame _ _ _).weaken (by simp))
  mark _ h := h.trans ((withScn_frame _ _).weaken (by simp))

/-- The operations of the lens store no geometry setting. -/
theorem lens_settings (x : Settings) : LensClosed (fun t => t.geo.settings = x) where
  msc _ _ _ h := h
  fdt _ _ h := h
  raise _ _ _ h := h
  build _ h := (requestBuild_settings _).trans h
  axis _ _ _ _ h := h
  take _ _ _ _ _ _ _ _ h := h
  mark _ h := h

/-- What follows the end of a request changes no axis record. -/
theorem end_frame (s : State) :
    EndClosed (Unchanged [.attention, .msc, .fdt, .geo, .bkm] s) where
  msc _ _ _ h := h.trans ((withMsc_frame _ _).weaken (by simp))
  fdt _ _ h := h.trans ((withFdt_frame _ _).weaken (by simp))
  raise _ _ _ h := h.trans ((raiseOn_frame _ _ _).weaken (by simp))
  build _ h := h.trans ((requestBuild_frame _).weaken (by simp))

theorem recordEnd_ldu (a : Axis) (e : MoveEnd) (s : State) : (recordEnd a e s).ldu = s.ldu :=
  recordEnd_keeps (end_frame s) a e (.refl _ _) .ldu (by simp)

/-- The end of the request in force leaves the axis with the given record and no other axis
changed. -/
theorem finishForce_axes (a : Axis) (r : AxisRecord) (o : MoveOutcome) (f : Option Int) (s : State) :
    (finishForce a r o f s).axis a = r ∧ OnlyAxes [a] s (finishForce a r o f s) := by
  have h : (finishForce a r o f s).ldu = (s.setAxis a r).ldu := recordEnd_ldu _ _ _
  have k : ∀ b, (finishForce a r o f s).axis b = (s.setAxis a r).axis b := fun b => by
    unfold State.axis; rw [h]
  exact ⟨by rw [k]; cases a <;> rfl, fun b hb => (k b).trans (setAxis_only s a r b hb)⟩

/-! ## The image -/

theorem imageBytes_length (g : Nat) (x : Snapshot) : (imageBytes g x).length = 3776 := by
  have hb : ∀ k : List (Int × Int), (k.flatMap knotBytes).length = 6 * k.length := by
    intro k
    induction k with
    | nil => rfl
    | cons y k ih =>
      rw [List.flatMap_cons, List.length_append, ih, List.length_cons]
      have : (knotBytes y).length = 6 := rfl
      omega
  have hk : (buildKnots x).length = 627 := by
    simp [buildKnots, knots, List.length_flatMap]
  have hh : (imageHead g x).length = 12 := rfl
  unfold imageBytes
  simp only [List.length_append, hh, imageBody, hb, hk]
  rfl

end Sys2Proof.Machine
end

