-- ==== Sys2Proof/Tests/Slice0.lean ====
section
/-! SUPPORT. Tests. First the checks of WellFormed on an ill-formed term each, then single steps on
small states against figures of the manual, then for every statement with hypotheses a state and
operands that meet them, clause by clause. -/

namespace Sys2Proof.Tests

set_option Elab.async false

open Sys2Proof.Machine

/-! ## Small states -/

/-- The part after a reset, operating, the rail down. -/
def awake : State := State.reset.withInReset false

/-- The part in a power state. -/
def inPower (p : Power) : State := awake.withLps { awake.lps with power := p }

/-- Change one axis record. -/
def onAxis (a : Axis) (f : AxisRecord → AxisRecord) (s : State) : State := s.setAxis a (f (s.axis a))

/-- An axis at rest at a position. -/
def restAt (p : Int) (r : AxisRecord) : AxisRecord := { r with state := .idle, position := some p }

/-- A SHARED move of Port M in TRAVEL from `p`, its leg to `e` the last of its plan. -/
def travel (p e : Int) (r : AxisRecord) : AxisRecord :=
  { r with state := .moving, position := some p, phase := some .travel, mode := some .shared,
           source := some .m, tag := some 7, target := some e, start := some p, legEnd := e,
           remaining := e - p, slot := some .slot0, drvEn := true, dirHigh := true,
           rate := some 1000 }

/-- A homing in a phase with a dwell. -/
def homing (x : Phase) (d : Option DwellEnd) (n : Int) (r : AxisRecord) : AxisRecord :=
  { r with state := .homing, position := some 0, phase := some x, dwell := d, remaining := n,
           slot := some .slot0, drvEn := true, tag := some 3, source := some .m,
           mode := some .held, rate := some 600 }

/-- A NORMAL channel that presents a temperature. -/
def warm (c : Channel) (x : Int) (s : State) : State :=
  s.setChannel c { blankChannel .normal with
    raw := some 2000, temp := some x, history := [x], shown := ⟨some 2000, .normal, some x⟩ }

/-- A channel record changed. -/
def onChannel (c : Channel) (f : ChannelRecord → ChannelRecord) (s : State) : State :=
  s.setChannel c (f (s.channel c))

/-- A conversion in progress. -/
def converting (x : Conversion) (s : State) : State := s.withScn { s.scn with conversion := x }

/-- The banks in three roles, with generations 4, 5 and 6 where a bank holds a table. -/
def banks (x y z : Role) (s : State) : State :=
  let bank := fun (r : Role) (g : Nat) => (⟨r, if r = .idle ∨ r = .build then 0 else g, []⟩ : Bank)
  s.withBkm (s.bkm.withBanks ⟨bank x 4, bank y 5, bank z 6⟩)

/-- Bank 0 on loan. -/
def onLoan (y z : Role) (s : State) : State :=
  let t := banks .loaned y z s
  t.withBkm { t.bkm with loan := some ⟨.b0, 4, 200⟩ }

/-- A build in progress on the inputs as they stand. -/
def building (s : State) : State :=
  s.withGeo { s.geo with building := true, snapshot := some (takeSnapshot s) }

/-- One fan record changed. -/
def onFan (f : Fan) (g : FanRecord → FanRecord) (s : State) : State :=
  s.withAfc { s.afc with fans := s.afc.fans.set f (g (s.afc.fans.get f)) }

/-- A preset in slot 2. -/
def stored (x : Preset) (s : State) : State := s.withPtb ⟨s.ptb.slots.set 2 (some x)⟩

/-- A preset without positions, correction or trims. -/
def bare : Preset := ⟨List.replicate 8 32, ⟨none, none, none, none⟩, none, none, none⟩

/-- The state after a command. -/
def after (i : Instr) (s : State) : State :=
  match exec i s with
  | .next t => t
  | .fault _ => s
  | .refused _ => s

/-- A SHARED request of Port M with a stamp. -/
def ask (a : Axis) (k : ReqKind) (n : Nat) : Request :=
  ⟨a, k, .shared, none, 7, .m, ⟨some .m, n, false, none⟩⟩

/-- A pending record in its axis's place. -/
def waits (q : Request) (s : State) : State :=
  s.withMsc { s.msc with pending := s.msc.pending.set q.axis (some q) }

/-- The book of the request in force on an axis. -/
def forced (a : Axis) (x : Book) (s : State) : State :=
  s.withMsc { s.msc with inForce := s.msc.inForce.set a (some x) }

/-- A recall group of slot 2 from Port S. -/
def inGroup (members : PerAxis (Option Progress)) (s : State) : State :=
  s.withMsc { s.msc with group := some ⟨2, 8, .s, members, .inProgress⟩ }

/-- A YIELDED move to `e`, at rest at `p`. -/
def handedBack (p e : Int) (r : AxisRecord) : AxisRecord :=
  { travel p e r with phase := some .yielded, slot := none, drvEn := false }

/-- An axis of a move in a dwell. -/
def dwelling (x : DwellEnd) (p e : Int) (r : AxisRecord) : AxisRecord :=
  { travel p e r with phase := some .reverse, dwell := some x }

/-- An axis of a move in a stop ramp of one step. -/
def ramping (x : EndAction) (p e : Int) (r : AxisRecord) : AxisRecord :=
  { travel p e r with phase := some .stopRamp, endAction := some x, remaining := 1 }

/-- Both slots in use. -/
def full (s : State) : State :=
  onAxis .vs (travel 10 50) (onAxis .zm (fun r => { travel 0 9 r with slot := some .slot1 }) s)

/-- A waiting record of Port M that follows no axis is eligible while its axis does not run. -/
theorem ask_eligible (a : Axis) (k : ReqKind) (n : Nat) (s : State) (h : running s a = false) :
    Eligible s (ask a k n) :=
  ⟨h, (fun _ hf => by cases hf), fun hf => by cases hf⟩

/-- Every axis at rest, the power on. -/
def lensReady : State :=
  onAxis .hs (restAt 6000) (onAxis .vs (restAt 12000) (onAxis .zm (restAt 3000)
    (onAxis .fc (restAt 9000) (inPower .ready))))

/-! ## WellFormed -/

theorem test_wellFormed_refuses_a_payload_of_256_bytes :
    (Instr.profileWrite .m (List.replicate 256 0)).wellFormed = false := by decide +kernel

theorem test_wellFormed_takes_a_payload_of_255_bytes :
    (Instr.profileWrite .m (List.replicate 255 0)).wellFormed = true := by decide +kernel

theorem test_wellFormed_refuses_a_known_code_as_unknown :
    (Instr.unknownCommand .m 0x44 []).wellFormed = false := by decide +kernel

theorem test_wellFormed_refuses_the_read_code_as_unknown_on_spi :
    (Instr.unknownCommand .v 0xFF []).wellFormed = false ∧
      (Instr.unknownCommand .s 0xFF []).wellFormed = true := by decide +kernel

theorem test_wellFormed_refuses_a_whole_frame_as_broken :
    (Instr.brokenFrame .m [0x01, 0] 0).wellFormed = false ∧
      (Instr.brokenFrame .m [0x01, 0] 3).wellFormed = true ∧
      (Instr.brokenFrame .m [0xFF, 0] 3).wellFormed = false ∧
      (Instr.brokenFrame .s [] 0).wellFormed = false := by decide +kernel

theorem test_no_row_has_bits : decodeTableWord 8 1 = none := by decide +kernel

/-! ## Single steps and figures of the manual -/

/-- The check string of R141. -/
theorem test_crc_of_the_digits :
    crc [0x31, 0x32, 0x33, 0x34, 0x35, 0x36, 0x37, 0x38, 0x39] = 0x29B1 := by decide +kernel

theorem test_nothing_happens_during_a_part_reset :
    after (.status .m []) State.reset = State.reset := by decide +kernel

theorem test_reset_end_with_the_rail_down :
    let t := after (.resetEnd ⟨false, .closed, .same false⟩) State.reset
    t.lps.power = .off ∧ t.lps.cutOk = true ∧ t.pif.attnM.attn = true ∧ t.geo.building = true ∧
      (t.bkm.banks.get .b0).role = .build ∧ t.scn.conversion = .standby := by decide +kernel

theorem test_main_rail_rise_kicks_the_fans :
    let t := after .mainRailRise awake
    t.lps.power = .starting ∧ t.lps.deadline = some 8000 ∧
      (t.afc.fans.get .f2).duty = 1000 := by decide +kernel

theorem test_main_rail_loss_loses_a_moving_axis :
    let t := after .mainRailLoss (onAxis .hs (travel 10 50) (inPower .lit))
    (t.axis .hs).state = .lost ∧ (t.msc.last.get .hs).outcome = some .powerLost ∧
      t.lps.unplanned = true := by decide +kernel

theorem test_status_is_79_bytes :
    ((after (.status .s []) awake).port .s).slot.map (fun r => r.payload.length) = some 79 := by
  decide +kernel

theorem test_second_answer_sets_overrun :
    ((after (.lightOff .m []) (after (.lightOff .m []) awake)).port .m).slot =
      some ⟨.ok, 0x11, true, []⟩ := by decide +kernel

theorem test_response_read_pads_with_zeros :
    ((after (.responseRead .m 7) (after (.lightOff .m []) awake)).port .m).sent =
      [1, 0, 0x11, 0, 0, 0, 0, 0] := by decide +kernel

theorem test_unknown_code_is_answered :
    ((after (.unknownCommand .v 0x77 [1]) awake).port .v).slot =
      some ⟨.unknown, 0x77, false, []⟩ := by decide +kernel

theorem test_broken_frame_saturates_its_count :
    ((after (.brokenFrame .s [9] 0)
      (awake.setPort .s ⟨none, 255, [], 0⟩)).port .s).frameLoss = 255 := by decide +kernel

theorem test_mask_loses_the_trip_bit :
    ((after (.mask .m [0x0F, 0xFF]) awake).port .m).slot =
      some ⟨.ok, 0x03, false, [0x0F, 0xFB]⟩ := by decide +kernel

theorem test_events_empties_the_set :
    (after (.events .m []) (raiseBoth .state awake)).pif.attnM = ⟨0, 0, false⟩ := by
  decide +kernel

/-- Section 1.4: 535 at code 2048, 590 at 1792, and halfway between them 562.5 rounds up. -/
theorem test_default_table_converts :
    convertTemp defaultThermTable 2048 = 535 ∧ convertTemp defaultThermTable 1920 = 563 := by
  decide +kernel

theorem test_light_on_takes_the_derated_level :
    let t := after (.lightOn .m [3, 0xE8]) (warm .lsh 725
      ((inPower .ready).withLps { (inPower .ready).lps with cover := .closed, proven := true }))
    t.lps.power = .lit ∧ t.lps.derate = 700 ∧ t.lps.lightLevel = 700 := by decide +kernel

theorem test_power_down_and_up :
    (after (.powerDown .s []) (inPower .ready)).lps.cooling = some 0 ∧
      (after (.powerUp .s []) (inPower .cooled)).lps.power = .starting := by decide +kernel

theorem test_clear_trip_needs_a_normal_lsh :
    ((after (.clearTrip .m []) (inPower .tripped)).port .m).slot =
      some ⟨.tooHot, 0x1A, false, []⟩ := by decide +kernel

theorem test_a_failed_blower_trips :
    let t := after .gateEnd (onFan .f2
      (fun r => { r with state := .running, duty := 500, stall := 5 }) (inPower .ready))
    t.lps.power = .tripped ∧ t.lps.lastTrip.map TripCause.kind = some .blowerFailed := by
  decide +kernel

/-- R67: a move up needs no approach, a move down goes through the approach point. -/
theorem test_move_plans_its_path :
    let up := after (.move .m [0, 0, 0x17, 0xD4, 0, 0xFF, 9]) lensReady
    let down := after (.move .m [0, 0, 0x13, 0x88, 0, 0xFF, 9]) lensReady
    (up.axis .hs).remaining = 100 ∧ (up.axis .hs).direction = .positive ∧
      (down.axis .hs).legEnd = 4960 ∧ (down.axis .hs).remaining = 1080 := by decide +kernel

theorem test_last_step_ends_the_move :
    let t := after (.step .hs) (onAxis .hs (travel 99 100) (inPower .ready))
    (t.axis .hs).state = .idle ∧ t.msc.last.get .hs = ⟨some 7, some .m, some .done, some 100⟩ := by
  decide +kernel

theorem test_home_seeks_against_its_limit :
    ((after (.home .m [1, 5]) lensReady).axis .hs).remaining = 13500 := by decide +kernel

theorem test_stop_ramps_down :
    ((after (.stop .m [1]) (onAxis .hs (travel 0 100) (inPower .ready))).axis .hs).remaining =
      32 := by decide +kernel

theorem test_switch_ends_a_move_out_of_the_window :
    let t := after (.homeSwitchChange .hs true) (onAxis .hs (travel 201 300) (inPower .ready))
    (t.axis .hs).state = .lost ∧ (t.msc.last.get .hs).outcome = some .limitHit := by
  decide +kernel

theorem test_preset_save_and_erase :
    let t := after (.presetSave .m ([2, 1, 0] ++ List.replicate 8 65)) lensReady
    (t.ptb.slots.get 2).map (fun x => x.positions.hs) = some (some 6000) ∧
      (after (.presetErase .m [2]) t).ptb.slots.get 2 = none := by decide +kernel

theorem test_recall_moves_its_axes :
    let t := after (.presetRecall .s [2, 8])
      (stored { bare with positions := ⟨some 6100, none, none, none⟩ } lensReady)
    (t.axis .hs).target = some 6100 ∧ (t.axis .hs).source = some .recall := by decide +kernel

theorem test_drift_on_takes_its_anchor :
    (after (.drift .m [1]) (warm .lns 301 awake)).fdt.anchor = some 301 := by decide +kernel

theorem test_trims_are_clamped_and_built :
    let t := after (.trims .m ([0x7F, 0xFF] ++ List.replicate 14 0)) awake
    t.geo.settings.trims.tl.dx = 7680 ∧ t.geo.building = true ∧
      t.nvs.inFlight = some (.geometry t.geo.settings) := by decide +kernel

theorem test_build_end_publishes_generation_one :
    let t := after .buildEnd (after (.rebuild .m []) awake)
    t.bkm.counter = 1 ∧ t.bkm.tblRdy = true ∧ (t.bkm.banks.get .b0).role = .ready := by
  decide +kernel

theorem test_open_take_and_drop :
    (after (.openTable .v []) (banks .ready .live .idle awake)).bkm.loan = some ⟨.b0, 4, 200⟩ ∧
      ((after (.takeTable .v [0, 4, 0, 0]) (onLoan .live .idle awake)).bkm.banks.get .b1).role =
        .idle ∧
      (after (.dropTable .v [0, 4]) (onLoan .live .idle awake)).bkm.tblRdy = true := by
  decide +kernel

theorem test_profile_write_is_whole_parameters :
    (after (.profileWrite .m [3, 0, 0, 0x23, 0x28]) awake).prf.axis.getD 0 0 = 9000 ∧
      ((after (.profileWrite .m [3, 0, 1, 0x23, 0x28]) awake).port .m).slot.map
        Response.result = some .badValue := by decide +kernel

theorem test_profile_read_of_the_trip_temperatures :
    ((after (.profileRead .m [2, 0, 0, 4]) awake).port .m).slot.map Response.payload =
      some [3, 0x84, 2, 0xBC] := by decide +kernel

theorem test_loan_expiry_counts :
    (after .loanExpiry (onLoan .live .idle awake)).bkm.expiries = 1 := by decide +kernel

/-! ## Witnesses: every hypothesis of every statement is met somewhere

The theorem of a statement has one conjunct for each clause with hypotheses of its own; states are
`awake` unless named, so that the common hypothesis `inReset = false` is `awake_is_awake`. -/

theorem awake_is_awake : awake.inReset = false ∧ lensReady.inReset = false ∧
    (inPower .lit).inReset = false := by decide +kernel

theorem witness_EmptyQueueLetsOneMillisecondPass : State.reset.pending = [] := rfl

/-- A write of slot 9, and one of the settings, in flight. -/
def writing (f : Flight) : State := awake.withNvs { awake.nvs with inFlight := some f }

theorem witness_PartResetTakesResetValuesAndLoadsTheStore :
    (∃ x, Instr.partReset .resetPin = .partReset x) ∧
    (Instr.resetPart .s [] = .resetPart .s [] ∧ awake.inReset = false) ∧
    (∃ c, (writing (.preset 9 none)).nvs.inFlight = some (.preset 9 c)) ∧
    (¬∃ c, awake.nvs.inFlight = some (.preset 9 c)) ∧
    (∃ c, (writing (.geometry defaultSettings)).nvs.inFlight = some (.geometry c)) ∧
    (¬∃ c, awake.nvs.inFlight = some (.geometry c)) :=
  ⟨⟨_, rfl⟩, ⟨rfl, rfl⟩, ⟨_, rfl⟩, (fun h => by obtain ⟨_, h⟩ := h; cases h), ⟨_, rfl⟩,
    (fun h => by obtain ⟨_, h⟩ := h; cases h)⟩

theorem witness_ResetEndStartsOperation :
    State.reset.inReset = true ∧ (InputLevels.mk true .closed (.same true)).mainGood = true ∧
    (InputLevels.mk false .closed (.same true)).mainGood = false := by decide +kernel

theorem witness_DuringAPartResetNothingElseActs :
    State.reset.inReset = true ∧ (∀ x, Instr.gateEnd ≠ .partReset x) ∧
      ∀ x, Instr.gateEnd ≠ .resetEnd x :=
  ⟨rfl, (fun _ h => by cases h), (fun _ h => by cases h)⟩

/-- A state in which every law says something: LIT with one fan FAILED, an axis that steps in slot 0
and a HOMING one in slot 1, a YIELDED axis and a waiting HOME, a READY and a LIVE table, a build and a dirty store, an
attitude. -/
def lawful : State :=
  let x := takeSnapshot awake
  let image := fun g => Memory.ofBytes 0 (imageBytes g x)
  let s1 := (building awake).withBkm
    { banks := ⟨⟨.build, 0, []⟩, ⟨.ready, 8, image 8⟩, ⟨.live, 7, image 7⟩⟩, counter := 8,
      loan := none, expiries := 65535, tblRdy := true }
  let s2 := s1.withLps
    { s1.lps with power := .lit, proven := true, request := some 800, derate := 700,
                  effLimit := 600, cover := .closed, lightEn := true, lightLevel := 600 }
  let s3 := onFan .f0 (fun r => { r with state := .failed }) s2
  let s4 := waits (ask .vs (.absolute 400) 1) (waits { ask .fc .home 2 with mode := .held }
    (onAxis .vs (handedBack 100 400) (onAxis .hs (travel 10 50) (onAxis .zm
      (fun r => { homing .seek none 9000 r with slot := some .slot1 }) s3))))
  let s5 := s4.withNvs { s4.nvs with dirty := [.preset 0, .geometry],
                                     inFlight := some (.preset 9 none),
                                     slots := s4.nvs.slots.set 3 (.written none (presetCheck none)),
                                     geometry :=
                                       .written defaultSettings (settingsCheck defaultSettings) }
  let up := blankChannel .waiting
  let s6 := s5.withScn
    { s5.scn with channels := ⟨up, up, up, up, up, up, up, up, up, up⟩,
                  conversion := .sweep .acz, window := [(2100, 3000)], ysum := 2100,
                  zsum := 3000, tangent := 5774 }
  raiseBoth .trip s6

theorem witness_EveryStepKeepsTheAttentionLaw :
    AttentionLaw lawful ∧ ∃ t, step (lawful.withPending [.events .m []]) = .next t :=
  ⟨by unfold AttentionLaw; decide +kernel, _, rfl⟩

theorem witness_EveryStepKeepsThePowerLaw :
    PowerLaw lawful ∧ ∃ t, step (lawful.withPending [.gateEnd]) = .next t := by
  refine ⟨⟨by decide +kernel, by decide +kernel, by decide +kernel, fun _ => ?_,
    (fun h => absurd (by decide +kernel) h), by decide +kernel, by decide +kernel,
    by decide +kernel, by decide +kernel, by decide +kernel, fun _ _ => ?_⟩, _, rfl⟩
  · exact ⟨by decide +kernel, by decide +kernel, by decide +kernel, 800, by decide +kernel,
      by decide +kernel, by decide +kernel, by decide +kernel⟩
  · exact ⟨by decide +kernel, by decide +kernel⟩

theorem lawful_requests : RequestLaw lawful := by
  refine ⟨fun a q h => ?_, fun a q h k => ?_, fun a h => ?_, fun a h => ?_⟩
  · cases a <;> cases h <;> rfl
  · cases a <;> cases h <;> first | rfl | cases k
  · revert h
    cases a <;> decide +kernel
  · revert h
    cases a <;> decide +kernel

theorem lawful_bounds : BoundLaw lawful := by
  refine ⟨by decide +kernel, fun a => ⟨?_, ?_, ?_⟩⟩
  · cases a <;> decide +kernel
  · cases a <;> decide +kernel
  · refine ⟨?_, fun p h => ?_, ?_, fun h => ⟨?_, ?_, ?_, fun t ht => ?_, fun p hp => ⟨?_, ?_, ?_⟩⟩⟩
    · cases a <;> decide +kernel
    · cases a <;> cases h <;> decide +kernel
    · cases a <;> decide +kernel
    · revert h
      cases a <;> decide +kernel
    · cases a <;> decide +kernel
    · cases a <;> decide +kernel
    · cases a <;> cases ht <;> decide +kernel
    · intro hx
      cases a
      · cases hp
        exact ⟨⟨by decide +kernel, by decide +kernel⟩, fun hd => by cases hd⟩
      · rcases hx with hx | hx <;> cases hx
      · cases h
      · cases hp
    · intro hx
      cases a <;> cases hx
    · intro hx
      cases a <;> cases hx

theorem witness_EveryStepKeepsTheLensLaw :
    LensLaw lawful ∧ RequestLaw lawful ∧ BoundLaw lawful ∧
      ∃ t, step (lawful.withPending [.step .hs]) = .next t := by
  refine ⟨⟨fun a => ?_, fun a b d ha hb => ?_⟩, lawful_requests, lawful_bounds, _, rfl⟩
  · cases a <;> (unfold AxisRecord.Sound; decide +kernel)
  · revert ha hb
    cases a <;> cases b <;> cases d <;> decide +kernel

theorem lawful_banks : BankLaw lawful := by
  refine ⟨by decide +kernel, fun r hr i j => ?_, by decide +kernel, by decide +kernel,
    by decide +kernel, (fun l h => by cases h), fun i => ?_, fun i => ?_, by decide +kernel,
    by decide +kernel⟩
  · revert hr
    cases r <;> cases i <;> cases j <;> decide +kernel
  · cases i <;> decide +kernel
  · cases i <;> decide +kernel

theorem witness_EveryStepKeepsTheBankLaw :
    BankLaw lawful ∧ ∃ t, step (lawful.withPending [.buildEnd]) = .next t :=
  ⟨lawful_banks, _, rfl⟩

theorem witness_EveryStepKeepsTheImageLaw :
    BankLaw lawful ∧ ImageLaw lawful ∧ ∃ t, step (lawful.withPending [.buildEnd]) = .next t := by
  have hv : buildVerdict (takeSnapshot awake) = .none := by decide +kernel
  have hw : ∀ g, Memory.wf (Memory.ofBytes 0 (imageBytes g (takeSnapshot awake))) = true ∧
      ∀ c ∈ Memory.ofBytes 0 (imageBytes g (takeSnapshot awake)), c.1 < imageLength :=
    fun g => ⟨Memory.wfFrom_ofBytes _ _, fun c hc => by
      have h := Memory.ofBytes_bound 0 (imageBytes g (takeSnapshot awake)) c hc
      rw [imageBytes_length] at h
      exact (by simpa [imageLength] using h)⟩
  refine ⟨lawful_banks, ⟨fun i => ?_, fun i hi => ?_⟩, _, rfl⟩
  · cases i
    · exact ⟨rfl, fun c hc => (by cases hc)⟩
    · exact hw 8
    · exact hw 7
  · cases i
    · cases hi
    · exact ⟨_, hv, rfl⟩
    · exact ⟨_, hv, rfl⟩

theorem witness_EveryStepKeepsTheStoreLaw :
    StoreLaw lawful ∧ lawful.nvs.slots.get 3 = .written none (presetCheck none) ∧
      ∃ t, step (lawful.withPending [.nvWriteEnd]) = .next t := by
  have slot : ∀ n : Fin 10, n ≠ 3 → lawful.nvs.slots.get n = .damaged := by decide +kernel
  refine ⟨⟨by decide +kernel, by decide +kernel, fun n c k h => ?_, fun c k h => ?_⟩, rfl, _, rfl⟩
  · by_cases hn : n = 3
    · subst hn
      cases h
      rfl
    · rw [slot n hn] at h
      cases h
  · cases h
    rfl

theorem witness_EveryStepKeepsTheScanLaw :
    ScanLaw lawful ∧ ∃ t, step (lawful.withPending [.conversionComplete .acz 4079]) = .next t := by
  refine ⟨⟨by decide +kernel, by decide +kernel, (fun c _ => by decide +kernel), by decide +kernel,
    by decide +kernel, by decide +kernel, by decide +kernel, by decide +kernel⟩, _, rfl⟩

theorem witness_PifChecksCodePortAndLengthInOrder :
    (∀ c, cmdCode c ≠ 0x45) ∧ (Port.v = .s ∨ (0x45 : Byte) ≠ 0xFF) ∧
    (∀ c, cmdCode c ≠ 0xFF) ∧ (Port.s = .s ∨ (0xFF : Byte) ≠ 0xFF) ∧
    (List.replicate 255 (0 : Byte)).length ≤ 255 ∧
    cmdPermitted .status .v = false ∧ cmdPermitted .resetPart .m = false ∧
    (cmdPermitted .profileWrite .m = true ∧ cmdLengthOk .profileWrite 3 = false) ∧
    (cmdPermitted .mask .s = true ∧ cmdLengthOk .mask 0 = false) := by
  refine ⟨fun c => ?_, by decide, fun c => ?_, by decide, by decide +kernel, by decide, by decide,
    by decide, by decide⟩ <;> cases c <;> decide

theorem witness_PifRefusesOperandsOutsideTheirEncoding :
    (outsideEncoding .mask [0x10, 0] && outsideEncoding .sensor [10] &&
      outsideEncoding .presetRead [10] && outsideEncoding .presetErase [10] &&
      outsideEncoding .axis [4] && outsideEncoding .acoustic [3] &&
      outsideEncoding .orientation [3] && outsideEncoding .keystone [2] &&
      outsideEncoding .drift [2] && outsideEncoding .stop [16] && outsideEncoding .home [16, 0] &&
      outsideEncoding .presetRecall [10, 0] && outsideEncoding .move [4, 0, 0, 0, 0, 0xFF, 0] &&
      outsideEncoding .move [3, 1, 0, 0, 1, 4, 0] &&
      outsideEncoding .presetSave ([9, 15, 1] ++ List.replicate 8 127) &&
      outsideEncoding .profileWrite [5, 0, 0, 0] && outsideEncoding .profileRead [4, 0, 0, 0] &&
      outsideEncoding .profileRead [4, 0, 0, 253]) = true ∧
    cmdPermitted .presetRecall .s = true ∧ cmdLengthOk .presetRecall 2 = true := by
  decide +kernel

theorem witness_BrokenFrameIsCountedAndRaisesFrame :
    brokenExchange .m [] 1 ∧ brokenExchange .v [0x01, 1] 0 ∧ brokenExchange .v [0x01, 0] 7 ∧
      brokenExchange .s [0xFF, 0, 0] 0 := by
  unfold brokenExchange brokenBytes
  decide +kernel

theorem witness_QueriesAnswerTheirRecordsAndChangeNothing :
    channelOfByte 9 = some .acz ∧ axisOfByte 3 = some .fc ∧ slotOfByte 9 = some 9 := by
  decide +kernel

theorem witness_EventsAndMaskActOnTheirPort :
    word2 0x0F 0xFF < 4096 ∧ 4096 ≤ word2 0x10 0x00 := by decide +kernel

theorem witness_SweepsAndStandbyConversionsStart :
    ((inPower .starting).lps.power ≠ .off ∧ (inPower .starting).scn.conversion = .idle) ∧
    (awake.lps.power = .off ∧ awake.scn.conversion = .idle ∧
      (converting .leftover awake).scn.conversion = .leftover) ∧
    (converting .standby awake).scn.conversion = .standby ∧
    (∃ c, (converting (.sweep .acz) (inPower .ready)).scn.conversion = .sweep c) ∧
    (converting .leftover (inPower .ready)).lps.power ≠ .off := by
  refine ⟨?_, ?_, ?_, ⟨.acz, rfl⟩, ?_⟩ <;> decide +kernel

/-- The LSH channel at its conversion, with a run of codes outside or inside behind it. -/
def atLsh (x : Condition) (out inside : Nat) : State :=
  onChannel .lsh (fun r => { r with condition := x, outRun := out, inRun := inside })
    (converting (.sweep .lsh) (inPower .ready))

/-- The standby conversion of a BRD channel that two codes outside its range came before. -/
def atBrd (x : Conversion) (p : Power) : State :=
  onChannel .brd (fun r => { r with condition := .normal, outRun := 2 })
    (converting x (inPower p))

theorem witness_ConversionUpdatesItsChannelRecord :
    (atLsh .waiting 0 0).scn.conversion = .sweep .lsh ∧ Channel.lsh ≠ .acz ∧
    ((atLsh .unpowered 0 0).channel .lsh).condition = .unpowered ∧
    (((atLsh .waiting 2 0).channel .lsh).condition = .waiting ∧
      (16 : Int) ≤ (16 : BitVec 12).toNat ∧ ((4079 : BitVec 12).toNat : Int) ≤ 4079) ∧
    (((15 : BitVec 12).toNat : Int) < 16 ∧ ((atLsh .normal 1 0).channel .lsh).outRun < 2) ∧
    ((4079 : Int) < (4080 : BitVec 12).toNat ∧ 2 ≤ ((atLsh .normal 2 0).channel .lsh).outRun) ∧
    ((atLsh .short 3 2).channel .lsh).condition = .short ∧
    (((atLsh .opened 3 1).channel .lsh).condition = .opened ∧
      ((atLsh .opened 3 1).channel .lsh).inRun < 2) ∧
    2 ≤ ((atLsh .opened 3 2).channel .lsh).inRun ∧
    ((atBrd .standby .off).scn.conversion = .standby ∧ (atBrd .standby .off).lps.power = .off) ∧
    (after (.conversionComplete .brd 4080) (atBrd .standby .off)).pif.attnM.pending =
      causeBit .sensor ∧
    (after (.conversionComplete .brd 4079) (atBrd .standby .off)).pif.attnM.pending = 0 ∧
    (atBrd .leftover .starting).scn.conversion = .leftover := by decide +kernel

/-- The last conversion of a sweep, ACY at 2048 and `n` pairs in the window. -/
def atAcz (n : Nat) (x : Condition) : State :=
  let s := onChannel .acz (fun r => { r with condition := x })
    (onChannel .acy (fun r => { r with raw := some 2048, condition := .normal })
      (onChannel .lsh (fun r => { r with condition := .normal, causeDue := true })
        (converting (.sweep .acz) (inPower .ready))))
  s.withScn { s.scn with window := List.replicate n (2048, 2448) }

theorem witness_SweepEndPresentsAndTakesTheAttitude :
    (atAcz 15 .normal).scn.conversion = .sweep .acz ∧
    ((atAcz 15 .normal).channel .acz).condition ≠ .unpowered ∧
    (Channel.lsh ≠ .acz ∧ ((atAcz 15 .normal).channel .lsh).causeDue = true) ∧
    (((atAcz 15 .normal).channel .acy).raw = some 2048 ∧ (atAcz 15 .normal).scn.motion = false ∧
      (∀ a ∈ allAxes, inMotion (atAcz 15 .normal) a = false) ∧
      faultCondition ((atAcz 15 .normal).channel .acy).condition = false ∧
      faultCondition ((after (.conversionComplete .acz 4079) (atAcz 15 .normal)).channel
        .acz).condition = false) ∧
    (after (.conversionComplete .acz 2448) (atAcz 15 .normal)).scn.detected = .floor ∧
    (after (.conversionComplete .acz 2448) (atAcz 15 .normal)).scn.zsum - 16 * 2048 = 6400 ∧
    (after (.conversionComplete .acz 2447) (atAcz 15 .normal)).scn.zsum - 16 * 2048 = 6399 ∧
    ((atAcz 14 .normal).scn.window.length + 1 < 16) ∧
    (after (.conversionComplete .acz 15) (atAcz 15 .normal)).scn.window.length = 15 ∧
    faultCondition ((atAcz 15 .short).channel .acz).condition = true ∧
    (let quiet := onChannel .lsh (fun r => { r with causeDue := false }) (atAcz 15 .normal)
     let fault := onChannel .acz (fun r => { r with outRun := 2 }) quiet
     ((after (.conversionComplete .acz 2448) quiet).pif.attnM.pending = 0 ∧
      (after (.conversionComplete .acz 4080) fault).pif.attnM.pending = causeBit .sensor)) := by
  decide +kernel

theorem witness_TachPulsesOfTheRejectWidthAreCounted :
    100 * param awake.prf.fan 47 ≤ ((500 : Nat) : Int) ∧
      ((499 : Nat) : Int) < 100 * param awake.prf.fan 47 := by decide +kernel

theorem witness_GateEndMeasuresSpeedsAndHeat :
    (Channel.brd ∈ thermistors) ∧ ((shownOf (warm .brd 450 awake) .brd).condition = .normal ∧
      (shownOf (warm .brd 450 awake) .brd).temp = some 450) ∧
    (shownOf awake .brd).condition ≠ .normal := by decide +kernel

/-- One fan in a state, with a duty and a stall count. -/
def fanIn (f : Fan) (x : FanState) (duty : Int) (stall : Nat) (s : State) : State :=
  onFan f (fun r => { r with state := x, duty := duty, stall := stall }) s

theorem witness_GateEndMovesTheFanStates :
    let stopped := fanIn .f0 .running 300 5 (inPower .ready)
    let slow := fanIn .f0 .proving 300 4 (inPower .starting)
    let fast := (fanIn .f0 .proving 1000 0 (inPower .starting)).withAfc
      { (fanIn .f0 .proving 1000 0 (inPower .starting)).afc with pulses := ⟨60, 0, 0⟩ }
    let latched := fun x => (fanIn .f1 x 300 0 (inPower .tripped)).withLps
      { (inPower .tripped).lps with latch := true }
    ((stopped.afc.fans.get .f0).state = .running ∧ 300 ≤ (stopped.afc.fans.get .f0).duty ∧
      ((after .gateEnd stopped).afc.fans.get .f0).measured < 240 ∧
      5 ≤ (stopped.afc.fans.get .f0).stall ∧
      ((after .gateEnd stopped).afc.fans.get .f0).state = .failed) ∧
    ((slow.afc.fans.get .f0).stall < 5 ∧ slow.lps.latch = false ∧
      10 * ((after .gateEnd slow).afc.fans.get .f0).measured <
        8 * ((after .gateEnd slow).afc.fans.get .f0).target) ∧
    8 * ((after .gateEnd fast).afc.fans.get .f0).target ≤
      10 * ((after .gateEnd fast).afc.fans.get .f0).measured ∧
    ((latched .kick).lps.latch = true ∧ ((latched .kick).afc.fans.get .f1).state = .kick ∧
      ((latched .kick).afc.fans.get .f1).kick = 0) ∧
    ((latched .proving).afc.fans.get .f1).state = .proving ∧
    (awake.afc.fans.get .f0).state = .stopped ∧
    ((fanIn .f0 .failed 0 6 awake).afc.fans.get .f0).state = .failed := by decide +kernel

theorem witness_AcousticSetsTheMode :
    let s := waits (ask .zm (.absolute 3100) 5) (waits (ask .hs (.absolute 6100) 9) lensReady)
    let fixed := s.withPrf { s.prf with axis := s.prf.axis.set 20 0 }
    let turning := s.withPrf { s.prf with axis := s.prf.axis.set 20 1 }
    acousticOfByte 2 = some .highAltitude ∧ acousticOfByte 1 = some awake.afc.mode ∧
    running (onAxis .hs (travel 0 9) (inPower .ready)) .hs = true ∧
    (acousticOfByte 0 = some .quiet ∧ s.afc.mode ≠ .quiet ∧ s.msc.Placed ∧
      (∀ c, running s c = false) ∧ Eligible s (ask .hs (.absolute 6100) 9) ∧
      StartsWhenGranted s .hs (ask .hs (.absolute 6100) 9) ∧
      StartsWhenGranted s .zm (ask .zm (.absolute 3100) 5)) ∧
    (policyRotating fixed = false ∧ (5 : Nat) < 9 ∧ policyRotating turning = true ∧
      s.msc.favoured = .hs) ∧
    ((after (.acoustic .m [0]) fixed).axis .zm).slot = some .slot0 ∧
    ((after (.acoustic .m [0]) turning).axis .hs).slot = some .slot0 := by
  refine ⟨by decide +kernel, by decide +kernel, by decide +kernel, ⟨by decide +kernel,
    by decide +kernel, fun a q h => ?_, fun c => ?_, ask_eligible _ _ _ _ (by decide +kernel),
    .inr ⟨6000, by decide +kernel, by decide +kernel, by decide +kernel⟩,
    .inr ⟨3000, by decide +kernel, by decide +kernel, by decide +kernel⟩⟩,
    by decide +kernel, by decide +kernel, by decide +kernel⟩
  · cases a <;> cases h <;> rfl
  · cases c <;> decide +kernel

theorem witness_LimitFunctionFallsFromTsToTe :
    derateStart awake < derateEnd awake ∧ derateFloor awake ≤ 1000 ∧
    (650 : Int) ≤ derateStart awake ∧ derateEnd awake ≤ 800 ∧
    (derateStart awake < 651 ∧ (799 : Int) < derateEnd awake) := by decide +kernel

/-- READY with the cover closed and LSH at a temperature. -/
def readyAt (x : Int) : State :=
  warm .lsh x ((inPower .ready).withLps { (inPower .ready).lps with cover := .closed })

theorem witness_LightOnFollowsThePowerStateAndTheCover :
    ((readyAt 651).lps.power = .ready ∧ (readyAt 651).lps.cover = .closed ∧
      normalTemp (readyAt 651) .lsh = some 651 ∧ limitAt (readyAt 651) 651 < 1000) ∧
    ((inPower .ready).lps.power = .ready ∧ (inPower .ready).lps.cover = .opened) ∧
    (inPower .lit).lps.power = .lit ∧ (inPower .starting).lps.power = .starting ∧
    awake.lps.power = .off ∧ (inPower .tripped).lps.power = .tripped := by decide +kernel

theorem witness_LightOffEntersReadyFromLit :
    (inPower .lit).lps.power = .lit ∧ (inPower .ready).lps.power ≠ .lit := by decide +kernel

theorem witness_PowerDownEntersCooling :
    (Port.s = .m ∨ Port.s = .s) ∧ (inPower .tripped).lps.power = .tripped ∧
      (inPower .cooled).lps.power = .cooled := by decide +kernel

theorem witness_PowerUpFollowsTheLatchAndTheFans :
    let x := fun (latch proven : Bool) =>
      (inPower .cooled).withLps { (inPower .cooled).lps with latch := latch, proven := proven }
    ((x true false).lps.power = .cooled ∧ (x true false).lps.latch = true) ∧
    ((x false true).lps.latch = false ∧ (x false true).lps.proven = true) ∧
    ((x false false).lps.latch = false ∧ (x false false).lps.proven = false) ∧
    (inPower .lit).lps.power = .lit ∧ awake.lps.power = .off := by decide +kernel

theorem witness_ClearTripMakesTheClearingTest :
    let cool := warm .lsh 700 (inPower .tripped)
    let hot := warm .lsh 701 (inPower .tripped)
    (cool.lps.power = .tripped ∧ (normalTemp cool .lsh).isSome = true ∧
      ∀ c ∈ thermistors, (normalTemp cool c).all (fun x => decide (x ≤ resetTemp cool c)) = true) ∧
    (normalTemp hot .lsh = some 701 ∧ ¬(701 : Int) ≤ resetTemp hot .lsh) ∧
    awake.lps.power ≠ .tripped := by decide +kernel

theorem witness_CoverChangeLeavesLitWhenItOpens :
    let lit := (inPower .lit).withLps { (inPower .lit).lps with cover := .closed }
    (Cover.opened ≠ lit.lps.cover ∧ lit.lps.power = .lit) ∧ Cover.closed ≠ awake.lps.cover ∧
      Cover.opened = awake.lps.cover := by decide +kernel

theorem witness_ProvingDeadlineTripsInStarting :
    ((inPower .starting).lps.power = .starting ∧ (inPower .starting).lps.latch = false) ∧
      (inPower .ready).lps.power ≠ .starting := by decide +kernel

/-- A sweep end in LIT with one channel record set. -/
def sweepEnd (c : Channel) (x : Condition) (temp : Int) (p : Power) : State :=
  onChannel c (fun r => { r with condition := x, temp := some temp })
    (converting (.sweep .acz) (inPower p))

/-- COOLING for `n` ms with LSH NORMAL at `x`, at a sweep end. -/
def coolingAt (n : Nat) (x : Int) : State :=
  let s := sweepEnd .lsh .normal x .cooling
  s.withLps { s.lps with cooling := some n }

/-- A check of R47's conditions channel by channel. -/
theorem noTripDue_of_check (s : State)
    (h : (s.channel .lsh).condition ≠ .short ∧ (s.channel .lsh).condition ≠ .opened)
    (cool : ∀ c ∈ thermistors, (s.channel c).condition = .normal →
      (s.channel c).temp.all (fun x => decide (x < tripTemp s c)) = true) : NoTripDue s := by
  refine ⟨fun hf => hf.elim h.1 h.2, fun c hc ht => ?_⟩
  obtain ⟨h1, x, h2, h3⟩ := ht
  have := cool c hc h1
  rw [h2] at this
  have := of_decide_eq_true this
  omega

theorem witness_SweepEndTripsOnTemperature :
    ((sweepEnd .lsh .short 0 .lit).scn.conversion = .sweep .acz ∧
      (sweepEnd .lsh .short 0 .lit).lps.latch = false ∧
      tripTested (sweepEnd .lsh .short 0 .lit).lps.power = true ∧
      lshFaulted (sweepEnd .lsh .short 0 .lit)) ∧
    (tooHot (sweepEnd .brd .normal 850 .lit) .brd ∧
      tripTemp (sweepEnd .brd .normal 850 .lit) .brd = 850 ∧
      ¬lshFaulted (sweepEnd .brd .normal 850 .lit) ∧
      ∀ d ∈ thermistors, d ≠ .brd →
        ((sweepEnd .brd .normal 850 .lit).channel d).condition ≠ .normal) ∧
    (sweepEnd .brd .normal 850 .cooled).lps.power = .cooled ∧
    (849 : Int) < tripTemp (sweepEnd .brd .normal 849 .lit) .brd ∧
    (NoTripDue (coolingAt 30000 450) ∧ NoTripDue (coolingAt 240000 451)) ∧
    ((coolingAt 30000 450).lps.power = .cooling ∧ minCooling (coolingAt 30000 450) = 30000 ∧
      coolDone (coolingAt 30000 450) = 450) ∧
    (after (.conversionComplete .acz 0) (coolingAt 30000 450)).lps.power = .cooled ∧
    (after (.conversionComplete .acz 0) (coolingAt 29999 450)).lps.power = .cooling ∧
    (after (.conversionComplete .acz 0) (coolingAt 30000 451)).lps.power = .cooling ∧
    (after (.conversionComplete .acz 0) (coolingAt 239999 451)).lps.power = .cooling ∧
    (after (.conversionComplete .acz 0) (coolingAt 240000 451)).lps.power = .cooled ∧
    (NoTripDue (sweepEnd .lsh .normal 651 .lit) ∧
      (sweepEnd .lsh .normal 651 .lit).lps.power = .lit ∧
      limitAt (sweepEnd .lsh .normal 651 .lit) 651 < 1000 ∧
      causeHeld (after (.conversionComplete .acz 0)
        (sweepEnd .lsh .normal 651 .lit)).pif.attnM.pending .light = true) ∧
    limitAt (sweepEnd .lsh .normal 650 .lit) 650 = 1000 := by
  refine ⟨⟨by decide +kernel, by decide +kernel, by decide +kernel, .inl (by decide +kernel)⟩,
    ⟨⟨by decide +kernel, 850, by decide +kernel, by decide +kernel⟩, by decide +kernel,
      (fun h => by rcases h with h | h <;> cases h), by decide +kernel⟩, by decide +kernel,
    by decide +kernel, ⟨noTripDue_of_check _ (by decide +kernel) (by decide +kernel),
      noTripDue_of_check _ (by decide +kernel) (by decide +kernel)⟩,
    by decide +kernel, by decide +kernel, by decide +kernel, by decide +kernel, by decide +kernel,
    by decide +kernel, ⟨noTripDue_of_check _ (by decide +kernel) (by decide +kernel),
      by decide +kernel, by decide +kernel, by decide +kernel⟩, by decide +kernel⟩

theorem witness_MainRailLossStopsEverythingOnTheRail :
    let s := onAxis .hs (travel 10 50) (fanIn .f0 .kick 1000 0 (inPower .cooled))
    s.lps.power ≠ .off ∧ (s.afc.fans.get .f0).state = .kick ∧
      (s.afc.fans.get .f1).state = .stopped ∧ inMotion s .hs = true ∧ inMotion s .vs = false ∧
      yielded s .hs = false ∧ s.msc.pending.get .hs = none := by decide +kernel

theorem witness_MainRailRiseEntersStarting :
    awake.lps.power = .off ∧ (inPower .starting).lps.power ≠ .off := by decide +kernel

theorem witness_MoveIsCheckedInOrder :
    (parseMove [3, 0, 0xFF, 0xFF, 0, 0xFF, 0]).map
      (fun x => (x.kind, decide ((-1 : Int) < 0))) = some (.absolute (-1), true) ∧
    (parseMove [3, 1, 0, 0, 1, 3, 0]).map (fun x => (x.axis, x.follow)) = some (.fc, some .fc) ∧
    (parseMove [3, 1, 0xFF, 0xFF, 1, 2, 0]).map (fun x => (x.kind, x.follow)) =
      some (.relative (-1), some .zm) ∧
    awake.lps.power = .off ∧ ((inPower .ready).axis .fc).state = .lost ∧
    (lensReady.axis .fc).state = .idle := by decide +kernel

/-- A move of FC in a phase, nothing waiting. -/
def fcIn (f : AxisRecord → AxisRecord) : State := onAxis .fc f lensReady

/-- FC YIELDED at 100 with its remainder pending, and every slot in use. -/
def fcYielded : State :=
  full (waits (ask .fc (.absolute 400) 1) (onAxis .fc (handedBack 100 400) lensReady))

/-- FC at rest with a record pending, and every slot in use. -/
def fcWaits : State := full (waits (ask .fc (.absolute 400) 1) lensReady)

/-- A MOVE of FC to `n`, and what it makes of the axis record. -/
def moved (n : Byte) (s : State) : AxisRecord :=
  (after (.move .m [3, 0, 0, n, 0, 0xFF, 9]) s).axis .fc

theorem witness_MoveReplacesWhatRunsOrWaits :
    (((fcIn (travel 10 50)).axis .fc).state = .moving ∧
      ((fcIn (travel 10 50)).axis .fc).position = some 10 ∧
      running (fcIn (travel 10 50)) .fc = true ∧ liveMember (fcIn (travel 10 50)) .fc = false ∧
      (∀ b ∈ allAxes, (fcIn (travel 10 50)).msc.pending.get b = none)) ∧
    ((moved 11 (fcIn (travel 10 50))).legEnd = 11 ∧
      (moved 10 (fcIn (travel 10 50))).endAction = some .replan ∧
      (moved 200 (fcIn (fun r => { travel 210 50 r with direction := .negative }))).phase =
        some .travel ∧
      (moved 10 (fcIn (ramping .cancel 10 50))).endAction = some .replan ∧
      (moved 10 (fcIn (dwelling .returnLeg 10 50))).dwell = some .replan) ∧
    (((fcWaits.axis .fc).state = .idle ∧ running fcWaits .fc = false ∧
        fcWaits.msc.pending.get .fc = some (ask .fc (.absolute 400) 1) ∧
        slotCount fcWaits ≤ runningCount fcWaits ∧ liveMember fcWaits .fc = false ∧
        yielded fcWaits .fc = false) ∧
      (yielded fcYielded .fc = true ∧ (fcYielded.axis .fc).state = .moving ∧
        (fcYielded.axis .fc).position = some 100 ∧
        slotCount fcYielded ≤ runningCount fcYielded ∧
        fcYielded.msc.pending.get .fc = some (ask .fc (.absolute 400) 1))) := by decide +kernel

/-- FC at the end of a TRAVEL leg at 10, its last step in a direction. -/
def fcAtLegEnd (d : Direction) : State := fcIn (fun r => { travel 10 10 r with lastStep := d })

theorem witness_MoveReplansAtTheEndOfALeg :
    (((fcAtLegEnd .positive).axis .fc).position = some ((fcAtLegEnd .positive).axis .fc).legEnd ∧
      ((fcAtLegEnd .positive).axis .fc).direction = .positive ∧
      ((fcAtLegEnd .positive).axis .fc).lastStep = .positive) ∧
    (moved 10 (fcAtLegEnd .positive)).state = .idle ∧
    (moved 9 (fcAtLegEnd .positive)).dwell = some .firstLeg ∧
    ((moved 10 (fcAtLegEnd .negative)).phase = some .travel ∧
      (moved 9 (fcAtLegEnd .negative)).direction = .negative) := by decide +kernel

/-- The operands of the moves of `witness_MoveOfAnIdleAxisWaitsOrIsGranted`. -/
def toHs (k : ReqKind) : MoveOperands := ⟨.hs, k, .shared, none, 9⟩

theorem witness_MoveOfAnIdleAxisWaitsOrIsGranted :
    let there := onAxis .hs (fun r => { restAt 201 r with switch := true }) lensReady
    let full := onAxis .vs (travel 10 50)
      (onAxis .zm (fun r => { travel 0 9 r with slot := some .slot1 }) lensReady)
    (parseMove [0, 0, 0x17, 0x70, 0, 0xFF, 9] = some (toHs (.absolute 6000)) ∧
      (toHs (.absolute 6000)).follow ≠ some .hs ∧ lensReady.lps.power ≠ .off ∧
      (lensReady.axis .hs).state = .idle ∧ (lensReady.axis .hs).position = some 6000 ∧
      running lensReady .hs = false ∧ yielded lensReady .hs = false ∧
      lensReady.msc.pending.get .hs = none ∧ liveMember lensReady .hs = false) ∧
    (slotCount full ≤ runningCount full ∧ running full .hs = false) ∧
    ((∀ b ∈ allAxes, running lensReady b = false) ∧
      ∀ b ∈ allAxes, lensReady.msc.pending.get b = none) ∧
    ((there.axis .hs).switch = true ∧ (200 : Int) < 201 ∧ running there .hs = false) ∧
    (lensReady.axis .hs).switch = false ∧
    clamp 0 (axisMaximum lensReady .hs) 6000 = 6000 ∧
    clamp 0 (axisMaximum lensReady .hs) 12001 = 12000 := by decide +kernel

theorem witness_HomeBeginsTheHoming :
    let on_ := onAxis .hs (fun r => { r with switch := true }) lensReady
    (awake.lps.power = .off ∧ (15 : Byte).toNat < 16) ∧ lensReady.lps.power ≠ .off ∧
    ((8 : Byte).toNat = 2 ^ axisNumber .fc ∧ (∀ b ∈ allAxes, running lensReady b = false) ∧
      (∀ b ∈ allAxes, lensReady.msc.pending.get b = none) ∧ yielded lensReady .fc = false ∧
      liveMember lensReady .fc = false ∧ (lensReady.axis .fc).switch = false) ∧
    ((1 : Byte).toNat = 2 ^ axisNumber .hs ∧ (on_.axis .hs).switch = true ∧
      ∀ b ∈ allAxes, running on_ b = false) := by decide +kernel

/-- What a HOME makes of FC. -/
def homed (s : State) : AxisRecord := (after (.home .m [8, 5]) s).axis .fc

theorem witness_HomeReplacesWhatRunsOrWaits :
    let h := fcIn (homing .seek none 5)
    (running h .fc = true ∧ (h.axis .fc).state = .homing ∧ liveMember h .fc = false ∧
      ∀ b ∈ allAxes, h.msc.pending.get b = none) ∧
    ((homed (fcIn (travel 10 50))).endAction = some .home ∧
      (homed (fcIn (ramping .cancel 10 50))).endAction = some .home ∧
      (homed (fcIn (dwelling .returnLeg 10 50))).dwell = some .homing) ∧
    ((10 : Int) ≠ ((fcIn (travel 10 50)).axis .fc).legEnd ∧
      running (fcIn (travel 10 50)) .fc = true) ∧
    ((after (.home .m [8, 5]) fcWaits).msc.pending.get .fc).map Request.kind = some .home ∧
    (homed fcYielded).state = .idle := by decide +kernel

/-- HOME takes sets of every size: two of four begin in the two slots, and with the slots in use the
two at rest wait. -/
theorem witness_HomeTakesASet :
    let busy := full lensReady
    ((∀ a ∈ allAxes, (15 : Byte).getLsbD (axisNumber a) = true ∧ running lensReady a = false ∧
        yielded lensReady a = false ∧ lensReady.msc.pending.get a = none ∧
        liveMember lensReady a = false) ∧
      runningCount (after (.home .m [15, 5]) lensReady) = 2) ∧
    ((∀ a ∈ allAxes, (9 : Byte).getLsbD (axisNumber a) = true → running busy a = false ∧
        yielded busy a = false ∧ busy.msc.pending.get a = none ∧ liveMember busy a = false) ∧
      slotCount busy ≤ runningCount busy ∧
      ((after (.home .m [9, 5]) busy).msc.pending.get .fc).map (fun q => q.book.stamp) =
        some (busy.msc.nextStamp + 1)) := by decide +kernel

theorem witness_StopRampsMovesAndCancelsHomings :
    let m := onAxis .hs (travel 49 50) lensReady
    let h := onAxis .fc (homing .seek none 5) lensReady
    (15 : Byte).toNat < 16 ∧
    (∀ a ∈ allAxes, running lensReady a = false ∧ yielded lensReady a = false ∧
      lensReady.msc.pending.get a = none ∧ liveMember lensReady a = false) ∧
    ((1 : Byte).toNat = 2 ^ axisNumber .hs ∧ running m .hs = true ∧ liveMember m .hs = false ∧
      (m.axis .hs).state = .moving ∧ (m.axis .hs).position = some 49 ∧
      49 ≠ (m.axis .hs).legEnd ∧ (m.axis .hs).phase = some .travel) ∧
    ((8 : Byte).toNat = 2 ^ axisNumber .fc ∧ running h .fc = true ∧ liveMember h .fc = false ∧
      (h.axis .fc).state = .homing ∧ ∀ b ∈ allAxes, h.msc.pending.get b = none) ∧
    ((fcIn (ramping .yield 10 50)).axis .fc).phase = some .stopRamp ∧
    (((fcIn (dwelling .replan 10 50)).axis .fc).phase = some .reverse ∧
      ((after (.stop .s [8]) (fcIn (dwelling .replan 10 50))).axis .fc).state = .idle) ∧
    (running fcWaits .fc = false ∧ fcWaits.msc.pending.get .fc = some (ask .fc (.absolute 400) 1) ∧
      (∀ b ∈ allAxes, b ≠ .fc → fcWaits.msc.pending.get b = none) ∧
      yielded fcWaits .fc = false ∧ yielded fcYielded .fc = true ∧
      ∀ b ∈ allAxes, b ≠ .fc → fcYielded.msc.pending.get b = none) := by decide +kernel

theorem witness_StepMovesTheAxisAndEndsItsMove :
    let far := onAxis .hs (travel 10 12) lensReady
    let near := onAxis .hs (travel 10 11) lensReady
    let ramp := onAxis .hs (fun r => { travel 10 90 r with
      phase := some .stopRamp, endAction := some .cancel, remaining := 1 }) lensReady
    let held := onAxis .hs (fun r => { travel 10 12 r with mode := some .held, segment := 255 })
      lensReady
    let seek := fun n => onAxis .zm (homing .release none n) lensReady
    ((far.axis .hs).state = .moving ∧ (far.axis .hs).slot.isSome = true ∧
      (far.axis .hs).position = some 10 ∧ (far.axis .hs).phase = some .travel ∧
      (10 : Int) + 1 ≠ (far.axis .hs).legEnd ∧ (far.axis .hs).mode = some .shared ∧
      ((far.axis .hs).segment + 1) % 256 ≠ 0) ∧
    ((held.axis .hs).mode ≠ some .shared ∧ (held.axis .hs).phase = some .travel) ∧
    ((near.axis .hs).direction = .positive ∧ (10 : Int) + 1 = (near.axis .hs).legEnd ∧
      ∀ b ∈ allAxes, near.msc.pending.get b = none) ∧
    ((ramp.axis .hs).phase = some .stopRamp ∧ (ramp.axis .hs).endAction = some .cancel ∧
      (ramp.axis .hs).remaining ≤ 1 ∧ ∀ b ∈ allAxes, ramp.msc.pending.get b = none) ∧
    (((seek 2).axis .zm).state = .homing ∧ ((seek 2).axis .zm).phase = some .release ∧
      1 < ((seek 2).axis .zm).remaining) ∧
    (((seek 1).axis .zm).remaining ≤ 1 ∧ ∀ b ∈ allAxes, (seek 1).msc.pending.get b = none) := by
  decide +kernel

/-- HS at a segment boundary in SHARED TRAVEL. -/
def atBoundary (s : State) : State :=
  onAxis .hs (fun r => { travel 10 90 r with segment := 255 }) s

/-- HS at the last step of a YIELD ramp. -/
def atYield (s : State) : State :=
  forced .hs ⟨some .m, 0, false, none⟩ (onAxis .hs (ramping .yield 10 90) s)

theorem witness_StepYieldsAtABoundary :
    let alone := atBoundary lensReady
    let pressed := atBoundary (waits (ask .fc (.absolute 400) 1)
      (onAxis .zm (fun r => { travel 0 9 r with slot := some .slot1 }) lensReady))
    (((alone.axis .hs).segment + 1) % 256 = 0 ∧ (10 : Int) + 1 ≠ (alone.axis .hs).legEnd ∧
      ¬slotCount alone ≤ runningCount alone ∧
      ((after (.step .hs) alone).axis .hs).phase = some .travel) ∧
    (slotCount pressed ≤ runningCount pressed ∧
      pressed.msc.pending.get .fc = some (ask .fc (.absolute 400) 1) ∧
      Eligible pressed (ask .fc (.absolute 400) 1) ∧
      ((after (.step .hs) pressed).axis .hs).endAction = some .yield) :=
  ⟨by decide +kernel, by decide +kernel, by decide +kernel,
    ask_eligible _ _ _ _ (by decide +kernel), by decide +kernel⟩

theorem witness_StepHandsTheRemainderBack :
    let crowded := atYield (onAxis .vs (travel 10 50) (onAxis .zm
      (fun r => { travel 0 9 r with slot := some .slot1 }) lensReady))
    let one := atYield (waits (ask .fc (.absolute 400) 1)
      (onAxis .zm (fun r => { travel 0 9 r with slot := some .slot1 }) lensReady))
    (slotCount crowded < runningCount crowded ∧ (90 : Int) ≠ 10 + 1 ∧
      (crowded.axis .hs).remaining ≤ 1 ∧
      crowded.msc.inForce.get .hs = some ⟨some .m, 0, false, none⟩) ∧
    (slotCount one = runningCount one ∧ Eligible one (ask .fc (.absolute 400) 1) ∧
      StartsWhenGranted one .fc (ask .fc (.absolute 400) 1) ∧
      (∀ c ∈ allAxes, c ≠ .fc → one.msc.pending.get c = none) ∧
      running (after (.step .hs) one) .fc = true ∧
      yielded (after (.step .hs) one) .hs = true) := by
  refine ⟨by decide +kernel, by decide +kernel, ask_eligible _ _ _ _ (by decide +kernel),
    .inr ⟨9000, by decide +kernel, by decide +kernel, by decide +kernel⟩, by decide +kernel,
    by decide +kernel, by decide +kernel⟩

/-- HS at a segment boundary at the end of a negative leg, a return leg to come. -/
def atLegBoundary (s : State) : State :=
  forced .hs ⟨some .m, 0, false, none⟩ (onAxis .hs (fun r => { travel 11 50 r with
    direction := .negative, legEnd := 10, segment := 255 }) s)

theorem witness_StepMeetsABoundaryAtALegEnd :
    let alone := atLegBoundary lensReady
    let one := atLegBoundary (waits (ask .fc (.absolute 400) 1)
      (onAxis .zm (fun r => { travel 0 9 r with slot := some .slot1 }) lensReady))
    let crowded := atLegBoundary (waits (ask .fc (.absolute 400) 1)
      (onAxis .vs (travel 10 50) (onAxis .zm
        (fun r => { travel 0 9 r with slot := some .slot1 }) lensReady)))
    (((alone.axis .hs).segment + 1) % 256 = 0 ∧ (11 : Int) - 1 = (alone.axis .hs).legEnd ∧
      (alone.axis .hs).target = some 50 ∧ ¬slotCount alone ≤ runningCount alone ∧
      ((after (.step .hs) alone).axis .hs).dwell = some .returnLeg) ∧
    (slotCount one = runningCount one ∧ Eligible one (ask .fc (.absolute 400) 1) ∧
      running (after (.step .hs) one) .fc = true ∧
      yielded (after (.step .hs) one) .hs = true) ∧
    (slotCount crowded < runningCount crowded ∧ Eligible crowded (ask .fc (.absolute 400) 1) ∧
      yielded (after (.step .hs) crowded) .hs = true) :=
  ⟨by decide +kernel, ⟨by decide +kernel, ask_eligible _ _ _ _ (by decide +kernel),
    by decide +kernel, by decide +kernel⟩, by decide +kernel,
    ask_eligible _ _ _ _ (by decide +kernel), by decide +kernel⟩

theorem witness_StepEndsLegsAndGroups :
    let back := onAxis .hs (fun r => { travel 11 50 r with
      direction := .negative, legEnd := 10, mode := some .held }) lensReady
    let there := onAxis .hs (fun r => { travel 51 50 r with direction := .negative }) lensReady
    let last := inGroup ⟨some .running, some .done, none, none⟩
      (forced .hs ⟨some .s, 0, true, none⟩ (onAxis .hs (travel 49 50) lensReady))
    let early := inGroup ⟨some .running, some .waiting, none, none⟩ last
    ((back.axis .hs).direction = .negative ∧ (11 : Int) - 1 = (back.axis .hs).legEnd ∧
      (back.axis .hs).target = some 50 ∧ (50 : Int) ≠ (back.axis .hs).legEnd ∧
      ((after (.step .hs) back).axis .hs).dwell = some .returnLeg) ∧
    ((there.axis .hs).target = some (there.axis .hs).legEnd ∧
      ((after (.step .hs) there).axis .hs).state = .idle) ∧
    ((∀ c ∈ allAxes, c ≠ .hs → last.msc.group.map (fun g => g.members.get c) = some none ∨
        last.msc.group.map (fun g => g.members.get c) = some (some .done)) ∧
      (after (.step .hs) last).msc.group.map Group.outcome = some .done) ∧
    (early.msc.group.map (fun g => g.members.get .vs) = some (some .waiting) ∧
      (after (.step .hs) early).msc.group.map Group.outcome = some .inProgress) := by
  decide +kernel

theorem witness_DwellExpiryStartsTheNextLeg :
    let back := onAxis .hs (fun r => { travel 10 12 r with
      phase := some .reverse, dwell := some .returnLeg }) lensReady
    let home_ := fun b => onAxis .zm (fun r => { homing .reverse (some .release) 200 r with
      switch := b }) lensReady
    (lensReady.axis .hs).dwell = none ∧
    ((back.axis .hs).dwell = some .returnLeg ∧ (back.axis .hs).target = some 12) ∧
    (((home_ true).axis .zm).dwell = some .release ∧ ((home_ true).axis .zm).switch = true) ∧
    (((home_ false).axis .zm).dwell = some .release ∧ ((home_ false).axis .zm).switch = false ∧
      ∀ b ∈ allAxes, (home_ false).msc.pending.get b = none) ∧
    (((fcIn (dwelling .firstLeg 10 12)).axis .fc).dwell = some .firstLeg ∧
      ((after (.dwellExpiry .fc) (fcIn (dwelling .firstLeg 10 12))).axis .fc).legEnd = 12 ∧
      ((after (.dwellExpiry .fc) (fcIn (dwelling .replan 10 9))).axis .fc).direction =
        .negative) ∧
    (((fcIn (dwelling .homing 10 12)).axis .fc).switch = false ∧
      ((after (.dwellExpiry .fc) (fcIn (dwelling .homing 10 12))).axis .fc).state = .homing) ∧
    ((after (.dwellExpiry .fc) (fcIn (homing .reverse (some .seek) 9))).axis .fc).phase =
      some .seek ∧
    (let expired := fun f => (after (.dwellExpiry .fc) (fcIn f)).axis .fc
     let there := fun d l => expired (fun r => { dwelling d 10 10 r with lastStep := l })
     let pressed := fun f => expired (fun r => { f r with switch := true })
     ((there .firstLeg .positive).state = .idle ∧ (there .firstLeg .negative).phase = some .travel ∧
      (there .replan .positive).phase = some .travel ∧
      (expired (dwelling .replan 0 0)).state = .idle) ∧
     (pressed (dwelling .homing 10 12)).dwell = some .release ∧
     (pressed (homing .reverse (some .seek) 9)).dwell = some .release) := by decide +kernel

theorem witness_HomeSwitchChangeWatchesAndHomes :
    let watch := fun p => onAxis .hs (travel p 900) lensReady
    let seek := onAxis .zm (homing .seek none 5) lensReady
    let release := onAxis .zm (fun r => { homing .release none 5 r with switch := true }) lensReady
    false = (lensReady.axis .hs).switch ∧
    (((watch 201).axis .hs).switch = false ∧ ((watch 201).axis .hs).state = .moving ∧
      ((watch 201).axis .hs).phase = some .travel ∧ ((watch 201).axis .hs).position = some 201 ∧
      (200 : Int) < 201 ∧ ∀ b ∈ allAxes, (watch 201).msc.pending.get b = none) ∧
    (true ≠ ((watch 200).axis .hs).switch ∧ ((watch 200).axis .hs).position = some 200) ∧
    (true ≠ (lensReady.axis .hs).switch ∧ (lensReady.axis .hs).state = .idle) ∧
    ((seek.axis .zm).switch = false ∧ (seek.axis .zm).state = .homing ∧
      (seek.axis .zm).phase = some .seek) ∧
    ((release.axis .zm).switch = true ∧ (release.axis .zm).state = .homing ∧
      (release.axis .zm).phase = some .release ∧
      ∀ b ∈ allAxes, release.msc.pending.get b = none) ∧
    (let member := inGroup ⟨some .running, none, none, none⟩
       (forced .hs ⟨some .s, 0, true, none⟩ (watch 201))
     (member.msc.inForce.get .hs = some ⟨some .s, 0, true, none⟩ ∧
      (after (.homeSwitchChange .hs true) member).msc.group.map Group.outcome = some .lost)) := by
  decide +kernel

/-- A SAVE to slot 9 of the set of an axis byte. -/
def saveBytes (axes : Byte) : List Byte := [9, axes, 1] ++ List.replicate 8 126

theorem witness_PresetSaveAndEraseChangeTheSlot :
    slotOfByte 9 = some 9 ∧ slotOfByte 2 = some 2 ∧ awake.ptb.slots.get 9 = none ∧
    (stored bare awake).ptb.slots.get 2 ≠ none ∧ (saveBytes 8).length = 11 ∧
    (parseSave (saveBytes 8)).map (fun x => x.axes.fc) = some true ∧
    running (onAxis .fc (travel 0 9) lensReady) .fc = true ∧
    (awake.axis .fc).state = .lost ∧
    ((lensReady.axis .fc).state = .idle ∧ normalTemp lensReady .lns = none) ∧
    (running (warm .lns 300 lensReady) .fc = false ∧
      normalTemp (warm .lns 300 lensReady) .lns = some 300) := by decide +kernel

/-- A preset with a focus and a zoom position, an anchor and trims. -/
def focused : Preset :=
  { bare with positions := ⟨none, none, some 3000, some 9000⟩, anchor := some 250,
              trims := some ⟨defaultSettings.trims, false⟩ }

theorem witness_PresetRecallFormsTheGroup :
    let full := onAxis .hs (travel 0 9)
      (onAxis .vs (fun r => { travel 10 50 r with slot := some .slot1 }) (stored focused lensReady))
    slotOfByte 2 = some 2 ∧ awake.lps.power = .off ∧ lensReady.ptb.slots.get 2 = none ∧
    ((stored focused (inPower .ready)).ptb.slots.get 2 = some focused ∧
      (focused.positions.get .fc).isSome = true ∧
      positionKnown (stored focused (inPower .ready)) .fc = false) ∧
    (positionKnown full .fc = true ∧ positionKnown full .zm = true ∧
      slotCount full ≤ runningCount full ∧ groupInProgress full = false ∧
      running full .fc = false ∧ yielded full .fc = false ∧ full.msc.pending.get .fc = none ∧
      running full .zm = false ∧ yielded full .zm = false ∧ full.msc.pending.get .zm = none) ∧
    (focused.trims.isSome = true ∧ bare.trims = none ∧
      ∀ a ∈ allAxes, bare.positions.get a = none) := by decide +kernel

theorem witness_DriftCommandSetsTheTracker :
    ((warm .lns 300 awake).fdt.anchor = none ∧ normalTemp (warm .lns 300 awake) .lns = some 300) ∧
    normalTemp awake .lns = none ∧ 2 ≤ (2 : Byte).toNat := by decide +kernel

/-- A sweep end in LIT, LNS NORMAL at `x`, LSH at 300, the anchor at 300, the lens at rest. -/
def trackedAt (x : Int) : State :=
  let s := warm .lsh 300 (warm .lns x (converting (.sweep .acz) (lensReady.withLps (inPower .lit).lps)))
  s.withFdt ⟨true, some 300, 0, .suspended, none⟩

/-- What a sweep end makes of the tracker. -/
def evaluated (s : State) : Fdt := (after (.conversionComplete .acz 0) s).fdt

theorem witness_SweepEndEvaluatesTheTracker :
    let s := trackedAt 310
    let due := s.withFdt { s.fdt with outstanding := some 3 }
    let held := waits (ask .fc (.absolute 400) 1) s
    let blocked := onAxis .fc (restAt 0) s
    let crowd := full s
    NoTripDue s ∧ s.scn.conversion = .sweep .acz ∧
    (s.lps.power = .lit ∧ s.fdt.enable = true ∧ (s.axis .zm).position = some 3000 ∧
      (s.axis .fc).position = some 9000 ∧ running s .fc = false ∧ yielded s .fc = false ∧
      (s.axis .zm).state = .idle ∧ s.msc.pending.get .fc = none) ∧
    (evaluated (trackedAt 300)).state = .watching ∧
    ((evaluated s).state = .correcting ∧ (evaluated s).outstanding ≠ none ∧
      ∀ a ∈ allAxes, running s a = false ∧ s.msc.pending.get a = none) ∧
    (slotCount crowd ≤ runningCount crowd ∧ (evaluated crowd).state = .correcting) ∧
    (evaluated due).state = .correcting ∧ (evaluated held).state = .suspended ∧
    (evaluated blocked).state = .watching ∧ (evaluated blocked).outstanding = none ∧
    (evaluated (converting (.sweep .acz) awake)).state = .suspended :=
  ⟨noTripDue_of_check _ (by decide +kernel) (by decide +kernel), by decide +kernel⟩

theorem witness_FocusMovesEndWithTheirAnchors :
    let s := trackedAt 310
    let user := onAxis .fc (travel 49 50) s
    let recalled := forced .fc ⟨some .s, 0, false, some ⟨7, 250⟩⟩
      (onAxis .fc (fun r => { travel 49 50 r with source := some .recall }) s)
    let drift := fun (d : Int) (f : AxisRecord → AxisRecord) =>
      (onAxis .fc (fun r => { f r with source := some .drift, start := some 45 }) s).withFdt
        { s.fdt with outstanding := some d }
    ((user.axis .fc).source = some .m ∧ (user.axis .fc).position = some 49 ∧
      (49 : Int) + 1 = (user.axis .fc).legEnd ∧ (user.axis .fc).target ≠ none ∧
      (after (.step .fc) user).fdt = ⟨true, some 310, 0, .watching, none⟩) ∧
    (after (.step .fc) recalled).fdt = ⟨true, some 250, 7, .watching, none⟩ ∧
    ((after (.step .fc) (drift 5 (travel 49 50))).fdt = ⟨true, some 300, 5, .watching, none⟩ ∧
      (after (.step .fc) (drift (-5) (travel 49 50))).fdt.correction = 0) ∧
    ((drift 5 (ramping .cancel 46 50)).axis .fc).endAction = some .cancel ∧
    (after (.step .fc) (drift 5 (ramping .cancel 46 50))).fdt =
      ⟨true, some 300, 0, .watching, none⟩ ∧
    ((s.axis .zm).state = .idle ∧ normalTemp s .lns ≠ none) := by decide +kernel

theorem witness_GeometryCommandsStoreSettingsAndAskForBuilds :
    parseTrims (List.replicate 16 0) = some awake.geo.settings.trims ∧
    (parseTrims (List.replicate 16 0x7F)).isSome = true ∧ flagOfByte 0 = some false ∧
    flagOfByte 1 = some awake.geo.settings.keystone ∧
    orientationModeOfByte 2 = some .ceiling := by decide +kernel

theorem idle_banks_lawful : BankLaw awake := by
  refine ⟨by decide +kernel, fun r hr i j => ?_, by decide +kernel, by decide +kernel,
    by decide +kernel, (fun l h => by cases h), fun i => ?_, fun i => ?_, by decide +kernel,
    by decide +kernel⟩
  · revert hr
    cases r <;> cases i <;> cases j <;> decide +kernel
  · cases i <;> decide +kernel
  · cases i <;> decide +kernel

/-- A READY, a LIVE and a loaned table at once leave no IDLE bank. -/
theorem loaned_banks_lawful : BankLaw (onLoan .ready .live awake) := by
  refine ⟨by decide +kernel, fun r hr i j => ?_, by decide +kernel, by decide +kernel,
    by decide +kernel, (fun l h => by cases h; decide +kernel), fun i => ?_, fun i => ?_,
    by decide +kernel, by decide +kernel⟩
  · revert hr
    cases r <;> cases i <;> cases j <;> decide +kernel
  · cases i <;> decide +kernel
  · cases i <;> decide +kernel

theorem witness_BuildTakesAnIdleBankOrTheReadyOne :
    (BankLaw awake ∧ awake.geo.building = false ∧
      ∃ j, (awake.bkm.banks.get j).role = .idle) ∧
    (BankLaw (onLoan .ready .live awake) ∧
      ∀ j, ((onLoan .ready .live awake).bkm.banks.get j).role ≠ .idle) :=
  ⟨⟨idle_banks_lawful, rfl, .b0, rfl⟩, loaned_banks_lawful, fun j => by
    cases j <;> decide +kernel⟩

/-- A build in bank 0 beside a READY table. -/
def buildingBeside (x : Snapshot) (pending : Bool) : State :=
  let s := banks .build .ready .idle awake
  s.withGeo { s.geo with building := true, snapshot := some x, pendingBuild := pending }

/-- Inputs whose top edge lies beyond the horizon (R126). -/
def steep : Snapshot :=
  { takeSnapshot awake with tangent := 5774, zmKnown := true, vs := 24000, vsKnown := true,
                            zoomTable := [(0, 9000), (32000, 9000)], vsGain := 125 }

theorem witness_BuildEndPublishesOrHandsBack :
    let s := buildingBeside (takeSnapshot awake) false
    (s.geo.building = true ∧ s.geo.snapshot = some (takeSnapshot awake) ∧
      bankIn s.bkm.banks .build = some .b0 ∧ s.geo.pendingBuild = false ∧
      buildVerdict (takeSnapshot awake) = .none ∧ bankIn s.bkm.banks .ready = some .b1) ∧
    (buildingBeside (takeSnapshot awake) true).geo.pendingBuild = true ∧
    ((buildingBeside steep false).geo.snapshot = some steep ∧ buildVerdict steep = .horizon) := by
  decide +kernel

theorem witness_OpenLendsTheReadyTable :
    (BankLaw awake ∧ awake.bkm.loan = none ∧ bankIn awake.bkm.banks .ready = none) ∧
    (BankLaw (onLoan .ready .live awake) ∧
      bankIn (onLoan .ready .live awake).bkm.banks .ready = some .b1 ∧
      (onLoan .ready .live awake).bkm.loan = some ⟨.b0, 4, 200⟩) ∧
    bankIn (onLoan .idle .live awake).bkm.banks .ready = none :=
  ⟨⟨idle_banks_lawful, rfl, rfl⟩, ⟨loaned_banks_lawful, rfl, rfl⟩, rfl⟩

theorem witness_ReadAnswersTheBytesOfTheLoanedImage :
    word2 0 0 < 1 ∧ 256 < word2 1 1 ∧ 3776 < word2 0x0E 0xC0 + word2 0 1 ∧
    ¬(word2 1 0 < 1 ∨ 256 < word2 1 0 ∨ 3776 < word2 0x0D 0xC0 + word2 1 0) ∧
    awake.bkm.loan = none ∧ (onLoan .idle .idle awake).bkm.loan = some ⟨.b0, 4, 200⟩ := by
  decide +kernel

theorem witness_TakePutsTheLoanedTableLive :
    let s := onLoan .ready .live awake
    BankLaw s ∧ s.bkm.loan = some ⟨.b0, 4, 200⟩ ∧ 4 ≠ word2 0 5 ∧ 4 = word2 0 4 ∧
      imageCheck (s.bkm.banks.get .b0).image ≠ word2 0 1 ∧
      imageCheck (s.bkm.banks.get .b0).image = word2 0 0 ∧
      (s.bkm.banks.get .b2).role = .live ∧ (s.bkm.banks.get .b1).role ≠ .live :=
  ⟨loaned_banks_lawful, by decide +kernel⟩

theorem witness_DropAndExpiryReleaseTheLoan :
    (BankLaw (onLoan .ready .live awake) ∧
      bankIn (onLoan .ready .live awake).bkm.banks .ready ≠ none) ∧
    bankIn (onLoan .idle .live awake).bkm.banks .ready = none ∧ 4 ≠ word2 0 5 ∧ 4 = word2 0 4 ∧
    (BankLaw awake ∧ awake.bkm.loan = none) :=
  ⟨⟨loaned_banks_lawful, by decide +kernel⟩, rfl, by decide +kernel, by decide +kernel,
    idle_banks_lawful, rfl⟩

theorem witness_ProfileWriteFollowsItsSteps :
    let moving := onAxis .hs (travel 0 9) lensReady
    (profileSectionOfByte 4 = some .optics ∧ 1 ≤ [(0 : Byte)].length) ∧
    writeTarget .axis 1 [0x23, 0x28] = none ∧
    (writeTarget .axis 0 [0x23, 0x28] = some (0, [9000]) ∧ running moving .hs = true) ∧
    conditionsHold .fan (overlay awake.prf.fan 1 [300]) 1 1 = false ∧
    conditionsHold .axis (overlay awake.prf.axis 0 [9000]) 0 1 = true ∧
    (inPower .ready).lps.power ≠ .lit ∧
    (let lit := warm .lsh 700 (inPower .lit)
     let new := overlay awake.prf.light 16 [600]
     (writeTarget .light 32 [2, 0x58] = some (16, [600]) ∧ lit.lps.power = .lit ∧
      (awake.prf.light.drop 16).take 4 ≠ (new.drop 16).take 4 ∧ normalTemp lit .lsh = some 700 ∧
      conditionsHold .light new 16 1 = true ∧
      (after (.profileWrite .m [2, 0, 32, 2, 0x58]) lit).lps.derate ≠ lit.lps.derate ∧
      normalTemp (inPower .lit) .lsh = none)) ∧
    (writeTarget .axis 12 [0x20, 0] = some (6, [8192]) ∧
      conditionsHold .axis (overlay awake.prf.axis 6 [8192]) 6 1 = true ∧
      (after (.profileWrite .m [3, 0, 12, 0x20, 0]) lensReady).geo.building = true) := by
  decide +kernel

theorem witness_ProfileReadAnswersTheSectionBytes :
    profileSectionOfByte 3 = some .axis ∧ 1 ≤ (1 : Byte).toNat ∧ (252 : Byte).toNat ≤ 252 ∧
    word2 0 40 + (1 : Byte).toNat ≤ (sectionBytes awake.prf .axis).length ∧
    (sectionBytes awake.prf .axis).length < word2 0 40 + (2 : Byte).toNat := by decide +kernel

theorem witness_StoreWriteEndKeepsTheCopyAndStartsTheNext :
    awake.nvs.inFlight = none ∧
    (writing (.preset 9 none)).nvs.inFlight = some (.preset 9 none) ∧
    (writing (.geometry defaultSettings)).nvs.inFlight = some (.geometry defaultSettings) ∧
    (writing (.preset 9 none)).nvs.dirty = [] ∧
    lawful.nvs.dirty = [.preset 0, .geometry] := by decide +kernel

end Sys2Proof.Tests
end

section
/-! SUPPORT. What can follow the presenting of a sweep end, said once: the ends of requests, grants, the
drift evaluation, builds and the supervisor raise no SENSOR cause, leave SCN as it was but for the motion
mark, and neither enter nor leave OFF. Each operation keeps every property that these primitive changes
keep; `LensClosed` cannot say this, since it lets every cause be raised. -/

namespace Sys2Proof.Machine

/-- A property that every primitive change after the presenting of a sweep end keeps. -/
structure SweepClosed (P : State → Prop) : Prop where
  choices : ∀ s x, P s → P (s.withChoices x)
  afc : ∀ s x, P s → P (s.withAfc x)
  lps : ∀ s x, (x.power = .off ↔ s.lps.power = .off) → P s → P (s.withLps x)
  axis : ∀ s a r, P s → P (s.setAxis a r)
  mark : ∀ s, P s → P (markMotion s)
  msc : ∀ s x, P s → P (s.withMsc x)
  fdt : ∀ s x, P s → P (s.withFdt x)
  build : ∀ s, P s → P (requestBuild s)
  raise : ∀ s c p, c ≠ .sensor → P s → P (raiseOn c p s)

/-- A move that belongs to no group, passed to an axis that is not MOVING, changes nothing. -/
theorem passToRunning_eq {s : State} {q : Request} (hk : q.kind ≠ .home) (hm : q.book.member = false)
    (hs : (s.axis q.axis).state ≠ .moving) : passToRunning q s = s := by
  unfold passToRunning
  split
  · exact absurd ‹_› hk
  · simp [hm, hs]

namespace SweepClosed

variable {P : State → Prop} {s : State}

theorem raiseBoth (h : SweepClosed P) {c : Cause} (hc : c ≠ .sensor) (hs : P s) :
    P (raiseBoth c s) := h.raise _ c .s hc (h.raise _ c .m hc hs)

theorem eitherOrder (h : SweepClosed P) {f g : State → State} (hf : P (f s)) (hg : P (g s)) :
    P (eitherOrder f g s) := by
  unfold Machine.eitherOrder
  dsimp only
  split
  · exact hf
  · split
    · exact h.choices _ _ hf
    · exact h.choices _ _ hg

/-! ## Ends of requests -/

theorem endGroup (h : SweepClosed P) (o : GroupOutcome) (hs : P s) : P (endGroup o s) := by
  unfold Machine.endGroup
  split
  · exact hs
  · exact h.raise _ _ _ (by decide) (h.msc _ _ hs)

theorem settleGroup (h : SweepClosed P) (hs : P s) : P (settleGroup s) := by
  unfold Machine.settleGroup
  split
  · exact hs
  · split
    · exact h.endGroup _ hs
    · exact hs

theorem setProgress (h : SweepClosed P) (a : Axis) (p : Progress) (hs : P s) :
    P (setProgress a p s) := by
  unfold Machine.setProgress
  split
  · exact hs
  · exact h.msc _ _ hs

theorem memberEnd (h : SweepClosed P) (a : Axis) (o : MoveOutcome) (hs : P s) :
    P (memberEnd a o s) := by
  have hp := h.setProgress a (progressOf o) hs
  unfold Machine.memberEnd
  dsimp only
  split
  · exact h.settleGroup hp
  · split
    · exact h.endGroup _ hp
    · exact hp

theorem focusEnd (h : SweepClosed P) (e : MoveEnd) (hs : P s) : P (focusEnd e s) := by
  unfold Machine.focusEnd
  split
  · exact h.fdt _ _ (h.fdt _ _ hs)
  · exact h.fdt _ _ (h.fdt _ _ hs)
  · exact h.fdt _ _ (h.fdt _ _ hs)
  · exact hs

theorem geoMoveEnd (h : SweepClosed P) (a : Axis) (b : Bool) (f : Option Int) (hs : P s) :
    P (geoMoveEnd a b f s) := by
  unfold Machine.geoMoveEnd
  split
  · exact hs
  · split
    · exact h.build _ hs
    · exact hs

/-- The end of a request: the result, MOVE on the issuing port, the group, the tracker, a build. -/
theorem recordEnd (h : SweepClosed P) (a : Axis) (e : MoveEnd) (hs : P s) : P (recordEnd a e s) := by
  have recorded : P (recordResult a e s) := h.msc _ _ hs
  have raised : P (raiseOnIssuer .move e.book.port (recordResult a e s)) := by
    cases e.book.port with
    | none => exact recorded
    | some p => exact h.raise _ .move p (by decide) recorded
  have told : P (tellGroup a e (raiseOnIssuer .move e.book.port (recordResult a e s))) := by
    unfold tellGroup
    split
    · exact h.memberEnd _ _ raised
    · exact raised
  refine h.geoMoveEnd _ _ _ ?_
  unfold tellFocus
  split
  · exact h.focusEnd _ told
  · exact told

theorem dropRequest (h : SweepClosed P) (a : Axis) (o : MoveOutcome) (hs : P s) :
    P (dropRequest a o s) := by
  unfold Machine.dropRequest
  split
  · exact hs
  · exact h.recordEnd _ _ (h.msc _ _ hs)

theorem finishForce (h : SweepClosed P) (a : Axis) (r : AxisRecord) (o : MoveOutcome)
    (f : Option Int) (hs : P s) : P (finishForce a r o f s) :=
  h.recordEnd _ _ (h.msc _ _ (h.axis _ _ _ hs))

theorem supersedePending (h : SweepClosed P) (a : Axis) (hs : P s) :
    P (supersedePending a s) := by
  unfold Machine.supersedePending
  split
  · unfold endYielded
    split
    · exact h.msc _ _ hs
    · exact h.finishForce _ _ _ _ (h.msc _ _ hs)
  · exact h.dropRequest _ _ hs

/-! ## Grants -/

theorem startMove (h : SweepClosed P) (a : Axis) (p t : Int) (d : DriveSlot) (hs : P s) :
    P (startMove a p t d s) := by
  unfold Machine.startMove
  dsimp only
  split
  · exact hs
  · exact h.mark _ (h.axis _ _ _ hs)

theorem grantMove (h : SweepClosed P) (a : Axis) (q : Request) (p : Int) (d : DriveSlot)
    (hs : P s) : P (grantMove a q p d s) := by
  have h1 := fun r => h.axis s a r hs
  unfold Machine.grantMove
  dsimp only
  split
  · exact h.finishForce _ _ _ _ (h1 _)
  · split
    · exact h.finishForce _ _ _ _ (h1 _)
    · exact h.startMove _ _ _ _ (h1 _)

theorem lduGrant (h : SweepClosed P) (a : Axis) (q : Request) (d : DriveSlot) (hs : P s) :
    P (lduGrant a q d s) := by
  unfold Machine.lduGrant
  split
  · exact h.mark _ (h.axis _ _ _ hs)
  · exact h.grantMove _ _ _ _ hs
  · exact h.finishForce _ _ _ _ (h.axis _ _ _ hs)

theorem grantOne (h : SweepClosed P) (a : Axis) (d : DriveSlot) (hs : P s) :
    P (grantOne a d s) := by
  unfold Machine.grantOne
  split
  · exact hs
  · dsimp only
    split
    · exact h.lduGrant _ _ _ (h.setProgress _ _ (h.msc _ _ hs))
    · exact h.lduGrant _ _ _ (h.msc _ _ hs)

theorem grantLoop (h : SweepClosed P) (x : Option Axis) (n : Nat) (hs : P s) :
    P (grantLoop x n s) := by
  induction n generalizing s with
  | zero => exact hs
  | succ n ih =>
    unfold Machine.grantLoop
    split
    · exact hs
    · split
      · exact ih (h.grantOne _ _ hs)
      · exact hs

theorem grantOccasion (h : SweepClosed P) (x : Option Axis) (hs : P s) :
    P (grantOccasion x s) := h.grantLoop x 4 hs

/-! ## The drift evaluation -/

/-- A drift request is issued for an IDLE axis only, so it replaces no move in force (R109). -/
theorem issueDrift (h : SweepClosed P) (d : Int) (hi : (s.axis .fc).state = .idle) (hs : P s) :
    P (issueDrift d s) := by
  have h1 : P (nextStamp (s.withFdt { s.fdt with outstanding := some d, state := .correcting })) :=
    h.msc _ _ (h.fdt _ _ hs)
  have notMoving : (s.axis .fc).state ≠ .moving := by simp [hi]
  unfold Machine.issueDrift place
  dsimp only
  split
  · rw [passToRunning_eq (by simp [stamped, driftRequest]) rfl notMoving]
    exact h1
  · exact h.msc _ _ (h.supersedePending _ h1)

theorem evaluateDrift (h : SweepClosed P) (hs : P s) : P (evaluateDrift s) := by
  have tracked : ∀ x, P (setTracker x s) := fun x => h.fdt _ _ hs
  unfold Machine.evaluateDrift
  split
  · exact tracked _
  · split
    · exact tracked _
    · split
      · exact tracked _
      · rename_i hf
        have idle : (s.axis .fc).state = .idle := by
          simp only [focusFree, Bool.and_eq_true, beq_iff_eq, Bool.not_eq_false] at hf
          obtain ⟨⟨idle, -⟩, -⟩ := hf
          exact idle
        split
        · unfold computeDrift
          dsimp only
          split
          · exact tracked _
          · split
            · exact tracked _
            · exact h.issueDrift _ idle hs
        · exact tracked _

/-! ## The supervisor -/

theorem enterPower (h : SweepClosed P) (p : Power) (hp : p = .off ↔ s.lps.power = .off) (hs : P s) :
    P (enterPower p s) := by
  refine h.raiseBoth (by decide) (h.lps _ _ ?_ hs)
  cases p <;> exact hp

theorem updateDerate (h : SweepClosed P) (hs : P s) : P (updateDerate s) := by
  unfold Machine.updateDerate
  split
  · exact hs
  · exact h.lps _ _ Iff.rfl hs

theorem recomputeLight (h : SweepClosed P) (hs : P s) : P (recomputeLight s) := by
  unfold Machine.recomputeLight
  dsimp only
  split
  · split
    · exact h.raiseBoth (by decide) (h.lps _ _ Iff.rfl hs)
    · exact h.lps _ _ Iff.rfl hs
  · exact hs

theorem takeTrip (h : SweepClosed P) (c : TripCause) (hs : P s) : P (takeTrip c s) := by
  have h1 : P (Machine.raiseBoth .trip (s.withLps { s.lps with latch := true, lastTrip := some c })) :=
    h.raiseBoth (by decide) (h.lps _ _ Iff.rfl hs)
  unfold Machine.takeTrip
  dsimp only
  refine h.afc _ _ ?_
  split
  · exact h1
  · refine h.enterPower _ ?_ h1
    show trippedState s.lps.power = .off ↔ s.lps.power = .off
    cases s.lps.power <;> simp [trippedState]

theorem tripIf (h : SweepClosed P) (c : Option TripCause) (hs : P s) : P (tripIf c s) := by
  unfold Machine.tripIf
  split
  · exact hs
  · split
    · exact h.takeTrip _ hs
    · exact hs

theorem lightSweep (h : SweepClosed P) (hs : P s) : P (lightSweep s) := by
  have ht := h.tripIf (sweepTrip s) hs
  unfold Machine.lightSweep
  dsimp only
  split
  · rename_i hc
    split
    · exact h.lps _ _ Iff.rfl (h.enterPower _ (by simp [hc]) ht)
    · exact ht
  · exact h.recomputeLight (h.updateDerate ht)
  · exact ht

/-! ## The sweep end after the presenting -/

theorem buildIf (h : SweepClosed P) (c : Prop) [Decidable c] (hs : P s) :
    P (if c then requestBuild s else s) := by
  split
  · exact h.build _ hs
  · exact hs

theorem geoSweep (h : SweepClosed P) (o : Orientation) (hs : P s) : P (geoSweep o s) := by
  unfold Machine.geoSweep
  dsimp only
  exact h.eitherOrder (h.buildIf _ (h.buildIf _ hs)) (h.buildIf _ (h.buildIf _ hs))

theorem powerAndDrift (h : SweepClosed P) (hs : P s) : P (powerAndDrift s) := by
  have both := h.eitherOrder (f := fun t => Machine.evaluateDrift (Machine.lightSweep t))
    (g := fun t => Machine.lightSweep (Machine.evaluateDrift t))
    (h.evaluateDrift (h.lightSweep hs)) (h.lightSweep (h.evaluateDrift hs))
  unfold Machine.powerAndDrift
  dsimp only
  split
  · exact h.grantOccasion _ both
  · exact both

/-- What holds when the values have been presented still holds when every block has acted. -/
theorem presentAndAct (h : SweepClosed P) (o : Orientation) (hs : P (presentAll (rearmMotion s))) :
    P (presentAndAct o s) := h.powerAndDrift (h.geoSweep _ hs)

end SweepClosed

end Sys2Proof.Machine
end

section
/-! SUPPORT. What the operations of the Scan Unit do, one lemma each: a conversion on its record, the
attitude window, the presenting of a sweep end and what follows it. -/

namespace Sys2Proof.Machine

variable {s t u : State}

/-! ## Causes -/

/-- A cause is a bit of its own place (R164). -/
theorem causeBit_eq_twoPow (c : Cause) : causeBit c = BitVec.twoPow 12 c.ctorIdx := by
  cases c <;> rfl

theorem causeHeld_eq_getLsbD (x : CauseSet) (c : Cause) : causeHeld x c = x.getLsbD c.ctorIdx := by
  unfold causeHeld
  rw [causeBit_eq_twoPow, BitVec.and_twoPow]
  cases x.getLsbD c.ctorIdx <;> cases c <;> rfl

/-- A cause that joins a set adds itself and no other. -/
theorem causeHeld_or_causeBit (x : CauseSet) (c d : Cause) :
    causeHeld (x ||| causeBit c) d = (causeHeld x d || causeHeld (causeBit c) d) := by
  simp only [causeHeld_eq_getLsbD, BitVec.getLsbD_or]

theorem causeHeld_causeBit_self (c : Cause) : causeHeld (causeBit c) c = true := by
  cases c <;> rfl

theorem causeHeld_causeBit_of_ne {c d : Cause} (h : c ≠ d) : causeHeld (causeBit c) d = false := by
  cases c <;> cases d <;> first | rfl | exact absurd rfl h

theorem causeHeld_or_of_held {x : CauseSet} {d : Cause} (h : causeHeld x d = true) (c : Cause) :
    causeHeld (x ||| causeBit c) d = true := by
  rw [causeHeld_or_causeBit, h, Bool.true_or]

theorem causeHeld_or_of_ne (x : CauseSet) {c d : Cause} (h : c ≠ d) :
    causeHeld (x ||| causeBit c) d = causeHeld x d := by
  rw [causeHeld_or_causeBit, causeHeld_causeBit_of_ne h, Bool.or_false]

theorem HeldOnBoth.raiseOn {d : Cause} (h : HeldOnBoth d s) (c : Cause) (p : Port) :
    HeldOnBoth d (raiseOn c p s) := by
  obtain ⟨hm, hs⟩ := h
  cases p
  · exact ⟨causeHeld_or_of_held hm c, hs⟩
  · exact ⟨hm, causeHeld_or_of_held hs c⟩
  · exact ⟨hm, hs⟩

theorem causeHeld_or_causeBit_self (x : CauseSet) (c : Cause) :
    causeHeld (x ||| causeBit c) c = true := by
  rw [causeHeld_or_causeBit, causeHeld_causeBit_self, Bool.or_true]

theorem raiseBoth_held (c : Cause) (s : State) : HeldOnBoth c (raiseBoth c s) := by
  obtain ⟨⟨m, -⟩, ⟨v, -⟩⟩ := raiseBoth_joined c s
  unfold HeldOnBoth
  rw [m, v]
  exact ⟨causeHeld_or_causeBit_self _ c, causeHeld_or_causeBit_self _ c⟩

theorem HeldAsBefore.raiseOn {c d : Cause} (hc : c ≠ d) (h : HeldAsBefore d s t) (p : Port) :
    HeldAsBefore d s (raiseOn c p t) := by
  obtain ⟨hm, hs⟩ := h
  cases p
  · exact ⟨(causeHeld_or_of_ne _ hc).trans hm, hs⟩
  · exact ⟨hm, (causeHeld_or_of_ne _ hc).trans hs⟩
  · exact ⟨hm, hs⟩

theorem requestBuild_attention (s : State) :
    (requestBuild s).pif.attnM = s.pif.attnM ∧ (requestBuild s).pif.attnS = s.pif.attnS :=
  requestBuild_frame s .attention (by simp)

theorem requestBuild_scn (s : State) : (requestBuild s).scn = s.scn :=
  requestBuild_frame s .scn (by simp)

theorem held_closed (d : Cause) : SweepClosed (HeldOnBoth d) where
  choices _ _ h := h
  afc _ _ h := h
  lps _ _ _ h := h
  axis _ _ _ h := h
  mark _ h := h
  msc _ _ h := h
  fdt _ _ h := h
  build s h := by
    obtain ⟨hm, hs⟩ := requestBuild_attention s
    rwa [HeldOnBoth, hm, hs]
  raise _ c p _ h := h.raiseOn c p

theorem sensorAsBefore_closed (s : State) : SweepClosed (HeldAsBefore .sensor s) where
  choices _ _ h := h
  afc _ _ h := h
  lps _ _ _ h := h
  axis _ _ _ h := h
  mark _ h := h
  msc _ _ h := h
  fdt _ _ h := h
  build t h := by
    obtain ⟨hm, hs⟩ := requestBuild_attention t
    rwa [HeldAsBefore, hm, hs]
  raise _ _ p hc h := h.raiseOn hc p

/-! ## What stays of the Scan Unit -/

/-- The Scan Unit is as it was but for its motion mark. -/
def MotionOnly (s t : State) : Prop := t.scn = { s.scn with motion := t.scn.motion }

theorem MotionOnly.of_scn (h : t.scn = s.scn) : MotionOnly s t := by
  unfold MotionOnly
  rw [h]

theorem MotionOnly.trans (h : MotionOnly s t) (k : MotionOnly t u) : MotionOnly s u := by
  unfold MotionOnly at *
  rw [k, h]

theorem MotionOnly.channel (h : MotionOnly s t) (c : Channel) : t.channel c = s.channel c := by
  unfold State.channel
  rw [h]

/-- The primitive changes of the lens leave the Scan Unit but for the motion mark. -/
theorem motionOnly_lens (s : State) : LensClosed (MotionOnly s) where
  msc _ _ _ h := h
  fdt _ _ h := h
  raise _ _ _ h := h
  build t h := h.trans (.of_scn (requestBuild_scn t))
  axis _ _ _ _ h := h
  take _ _ _ _ _ _ _ _ h := h
  mark t h := h.trans (u := markMotion t) rfl

theorem motionOnly_closed (s : State) : SweepClosed (MotionOnly s) where
  choices _ _ h := h
  afc _ _ h := h
  lps _ _ _ h := h
  axis _ _ _ h := h
  mark := (motionOnly_lens s).mark
  msc _ _ h := h
  fdt _ _ h := h
  build := (motionOnly_lens s).build
  raise _ _ _ _ h := h

/-! ## A conversion on its record (R7 to R11) -/

theorem inRange_iff (code : Int) : inRange code = true ↔ 16 ≤ code ∧ code ≤ 4079 := by
  simp [inRange, shortCode, openCode]

theorem not_inRange_of_outside {code : Int} (h : code < 16 ∨ 4079 < code) : inRange code = false := by
  rw [Bool.eq_false_iff, Ne, inRange_iff]
  omega

theorem faultOf_eq (code : Int) : faultOf code = if code < 16 then .short else .opened := by
  simp [faultOf, shortCode]

@[simp] theorem sampled_raw (r : ChannelRecord) (value : Option Int) :
    (r.sampled value).raw = r.raw := by cases value <;> rfl

@[simp] theorem sampled_condition (r : ChannelRecord) (value : Option Int) :
    (r.sampled value).condition = r.condition := by cases value <;> rfl

/-- What a conversion makes of a record that is WAITING or NORMAL. -/
theorem convert_of_sound {r : ChannelRecord} (hr : r.condition = .waiting ∨ r.condition = .normal)
    (code : Int) (value : Option Int) :
    r.convert code value = { r with raw := some code }.converted code value := by
  unfold ChannelRecord.convert
  rcases hr with h | h <;> rw [h]

/-- What a conversion makes of a record in a fault condition. -/
theorem convert_of_faulted {r : ChannelRecord} (hr : r.condition = .short ∨ r.condition = .opened)
    (code : Int) (value : Option Int) :
    r.convert code value = { r with raw := some code }.convertedFaulted code value := by
  unfold ChannelRecord.convert
  rcases hr with h | h <;> rw [h]

theorem convert_of_unpowered {r : ChannelRecord} (hr : r.condition = .unpowered) (code : Int)
    (value : Option Int) : r.convert code value = r := by
  unfold ChannelRecord.convert
  rw [hr]

/-- A conversion changes its record as R7 and R9 to R11 say. -/
theorem convert_converted (r : ChannelRecord) (code : Int) (value : Option Int) :
    Converted r code value (r.convert code value) := by
  refine ⟨fun h => convert_of_unpowered h _ _, fun h lo hi => ?_,
    fun h out => ⟨fun few => ?_, fun many => ?_⟩, fun h out => ?_, fun h lo hi => ⟨fun few => ?_, fun many => ?_⟩⟩
  · rw [convert_of_sound h, ChannelRecord.converted, if_pos ((inRange_iff _).mpr ⟨lo, hi⟩)]
    cases value <;> rfl
  · rw [convert_of_sound h, ChannelRecord.converted, not_inRange_of_outside out]
    simp [show ¬2 ≤ r.outRun by omega]
  · rw [convert_of_sound h, ChannelRecord.converted, not_inRange_of_outside out, faultOf_eq]
    simp [many]
  · rw [convert_of_faulted h, ChannelRecord.convertedFaulted, not_inRange_of_outside out, faultOf_eq]
    rfl
  · rw [convert_of_faulted h, ChannelRecord.convertedFaulted, if_pos ((inRange_iff _).mpr ⟨lo, hi⟩),
      if_neg (by show ¬3 ≤ r.inRun + 1; omega)]
    cases value <;> rfl
  · rw [convert_of_faulted h, ChannelRecord.convertedFaulted, if_pos ((inRange_iff _).mpr ⟨lo, hi⟩),
      if_pos (by show 3 ≤ r.inRun + 1; omega)]
    cases value <;> rfl

/-- A conversion takes no channel into or out of UNPOWERED. -/
theorem convert_unpowered_iff (r : ChannelRecord) (code : Int) (value : Option Int) :
    (r.convert code value).condition = .unpowered ↔ r.condition = .unpowered := by
  have fault : faultOf code ≠ .unpowered := by
    rw [faultOf_eq]
    split <;> simp
  cases hc : r.condition with
  | unpowered => simp [convert_of_unpowered hc, hc]
  | waiting | normal =>
    rw [convert_of_sound (by simp [hc]), ChannelRecord.converted]
    split
    · simp
    · split <;> simp [fault, hc]
  | short | opened =>
    rw [convert_of_faulted (by simp [hc]), ChannelRecord.convertedFaulted]
    split
    · dsimp only
      split <;> simp [hc]
    · simp [fault]

/-- A conversion of a powered channel shows its code. -/
theorem convert_raw {r : ChannelRecord} (hr : r.condition ≠ .unpowered) (code : Int)
    (value : Option Int) : (r.convert code value).raw = some code := by
  cases hc : r.condition with
  | unpowered => exact absurd hc hr
  | waiting | normal =>
    rw [convert_of_sound (by simp [hc]), ChannelRecord.converted]
    split
    · simp
    · split <;> rfl
  | short | opened =>
    rw [convert_of_faulted (by simp [hc]), ChannelRecord.convertedFaulted]
    split
    · dsimp only
      split <;> simp
    · rfl

/-! ## The attitude window (R13 to R15) -/

theorem pushPair_length_le {w : List (Int × Int)} (h : w.length ≤ 16) (p : Int × Int) :
    (pushPair w p).length ≤ 16 := by
  unfold pushPair
  split <;> simp <;> omega

theorem clamp_bounds {lo hi : Int} (h : lo ≤ hi) (x : Int) :
    lo ≤ clamp lo hi x ∧ clamp lo hi x ≤ hi := by
  unfold clamp
  omega

/-- Nothing joins the window: the sweep end leaves it, T and the orientation. -/
theorem joinPair_of_none (h : joiningPair s = none) : joinPair s = s := by
  unfold joinPair
  rw [h]

/-- The state in which a pair has joined the window. -/
def withPair (p : Int × Int) (s : State) : State :=
  s.withScn (s.scn.withWindow (pushPair s.scn.window p))

/-- A pair joins: T and the orientation follow once the window is full. -/
theorem joinPair_of_some {p : Int × Int} (h : joiningPair s = some p) :
    joinPair s = if 16 ≤ (pushPair s.scn.window p).length then recomputeAttitude (withPair p s)
      else withPair p s := by
  unfold joinPair
  rw [h]
  rfl

theorem joinPair_pif (s : State) : (joinPair s).pif = s.pif := by
  cases h : joiningPair s with
  | none => rw [joinPair_of_none h]
  | some p =>
    rw [joinPair_of_some h]
    split <;> rfl

/-- The window's part in a sweep end touches neither the channels, nor the conversion in progress, nor
the motion mark. -/
theorem joinPair_scn (s : State) : (joinPair s).scn.channels = s.scn.channels ∧
    (joinPair s).scn.conversion = s.scn.conversion ∧ (joinPair s).scn.motion = s.scn.motion := by
  cases h : joiningPair s with
  | none => rw [joinPair_of_none h]; exact ⟨rfl, rfl, rfl⟩
  | some p =>
    rw [joinPair_of_some h]
    split <;> exact ⟨rfl, rfl, rfl⟩

/-! ## The presenting of a sweep end (R2) -/

/-- What SENSOR is raised over depends on the attention records alone. -/
theorem SensorRaisedIf.of_pif {due : Prop} (h : SensorRaisedIf due s t) (hp : s.pif = u.pif) :
    SensorRaisedIf due u t := by
  unfold SensorRaisedIf HeldAsBefore at *
  rwa [← hp]

/-- SENSOR is due at the next sweep end. -/
def sensorDue (s : State) : Prop := ∃ c, (s.channel c).causeDue = true

theorem mem_allChannels (c : Channel) : c ∈ allChannels := by cases c <;> simp [allChannels]

theorem presentAll_scn (s : State) :
    (presentAll s).scn = { s.scn with channels := s.scn.channels.map ChannelRecord.presented } := by
  unfold presentAll
  dsimp only
  split <;> rfl

theorem presentAll_lps (s : State) : (presentAll s).lps = s.lps := by
  unfold presentAll
  dsimp only
  split <;> rfl

/-- Presenting raises SENSOR on both ports exactly when it is due. -/
theorem presentAll_sensor (s : State) : SensorRaisedIf (sensorDue s) s (presentAll s) := by
  have any_iff : allChannels.any (fun c => (s.channel c).causeDue) = true ↔ sensorDue s := by
    simp [sensorDue, List.any_eq_true, mem_allChannels]
  unfold presentAll
  dsimp only
  split
  · exact ⟨fun _ => raiseBoth_held _ _, fun h => absurd (any_iff.mp ‹_›) h⟩
  · exact ⟨fun h => absurd (any_iff.mpr h) ‹_›, fun _ => ⟨rfl, rfl⟩⟩

/-- A sweep end presents every channel and leaves the rest of the Scan Unit but the motion mark. -/
theorem presentAndAct_scn (o : Orientation) (s : State) :
    ∃ m, (presentAndAct o s).scn =
      { s.scn with channels := s.scn.channels.map ChannelRecord.presented, motion := m } := by
  have h := (motionOnly_closed (presentAll (rearmMotion s))).presentAndAct o (s := s) rfl
  unfold MotionOnly at h
  rw [presentAll_scn] at h
  exact ⟨_, h⟩

theorem presentAndAct_channel (o : Orientation) (s : State) (c : Channel) :
    (presentAndAct o s).channel c = presentedAs (s.channel c) := by
  obtain ⟨m, h⟩ := presentAndAct_scn o s
  unfold State.channel
  rw [h, PerChannel.get_map]
  rfl

/-- A sweep end raises SENSOR exactly when it is due, and nothing after the presenting does. -/
theorem presentAndAct_sensor (o : Orientation) (s : State) :
    SensorRaisedIf (sensorDue s) s (presentAndAct o s) := by
  obtain ⟨raised, kept⟩ := presentAll_sensor (rearmMotion s)
  exact ⟨fun h => (held_closed .sensor).presentAndAct o (raised h),
    fun h => (sensorAsBefore_closed s).presentAndAct o (kept h)⟩

end Sys2Proof.Machine
end

section
/-! The sensing law is kept by every step. It speaks of SCN and of OFF alone: the operations of the
lens and of the supervisor outside the rail edges touch neither, so what is left to prove is the Scan
Unit's own operations, the rail edges and the part reset. -/

namespace Sys2Proof.Machine

/-! ## The supervisor outside the rail edges neither enters nor leaves OFF -/

namespace SweepClosed

variable {P : State → Prop} {s : State}

theorem enterStarting (h : SweepClosed P) (hp : s.lps.power ≠ .off) (hs : P s) :
    P (enterStarting s) := h.afc _ _ (h.enterPower _ (by simp [hp]) hs)

theorem lightOffNow (h : SweepClosed P) (hs : P s) : P (lightOffNow s) := by
  unfold Machine.lightOffNow
  split
  · rename_i lit
    exact h.enterPower _ (by simp [lit]) hs
  · exact hs

theorem coverTo (h : SweepClosed P) (c : Cover) (hs : P s) : P (coverTo c s) := by
  have covered : P (Machine.raiseBoth .state (s.withLps { s.lps with cover := c })) :=
    h.raiseBoth (by decide) (h.lps _ _ Iff.rfl hs)
  unfold Machine.coverTo
  dsimp only
  split
  · exact hs
  · split
    · exact h.lightOffNow covered
    · exact covered

theorem powerDownNow (h : SweepClosed P) (hs : P s) : P (powerDownNow s) := by
  have down : s.lps.power ≠ .off → P (startCooling (Machine.enterPower .cooling s)) := fun hp =>
    h.lps _ _ Iff.rfl (h.enterPower _ (by simp [hp]) hs)
  unfold Machine.powerDownNow
  cases hp : s.lps.power with
  | starting | ready | lit | tripped => exact down (by simp [hp])
  | cooling | cooled | off => exact hs

theorem powerUpNow (h : SweepClosed P) (hs : P s) : P (powerUpNow s).1 := by
  have up : ∀ p, p ≠ .off → s.lps.power ≠ .off → P (stopCooling (Machine.enterPower p s)) :=
    fun p hp hq => h.lps _ _ Iff.rfl (h.enterPower _ (by simp [hp, hq]) hs)
  unfold Machine.powerUpNow
  cases hp : s.lps.power with
  | starting | ready | lit | tripped | off => exact hs
  | cooling | cooled =>
    have on : s.lps.power ≠ .off := by simp [hp]
    dsimp only
    split
    · exact up _ (by decide) on
    · split
      · exact up _ (by decide) on
      · exact h.lps _ _ Iff.rfl (h.enterStarting on hs)

theorem clearTripNow (h : SweepClosed P) (hs : P s) : P (clearTripNow s).1 := by
  unfold Machine.clearTripNow
  split
  · rename_i tripped
    split
    · exact h.enterStarting (s := s.withLps _) (by simp [tripped]) (h.lps _ _ Iff.rfl hs)
    · exact hs
  · exact hs

theorem enterLit (h : SweepClosed P) (l : Int) (hp : s.lps.power ≠ .off) (hs : P s) :
    P (enterLit l s) :=
  h.grantOccasion _ (h.recomputeLight (h.updateDerate
    (h.lps _ _ Iff.rfl (h.enterPower _ (by simp [hp]) hs))))

theorem lightOnNow (h : SweepClosed P) (l : Nat) (hs : P s) : P (lightOnNow l s).1 := by
  unfold Machine.lightOnNow
  cases hp : s.lps.power with
  | ready =>
    dsimp only
    split
    · show P (Machine.enterLit (requestLevel l) s)
      exact h.enterLit _ (by simp [hp]) hs
    · exact hs
  | lit => exact h.lps _ _ (by simp [hp]) hs
  | off | starting | cooling | cooled | tripped => exact hs

theorem fanGate (h : SweepClosed P) (hs : P s) : P (fanGate s) := by
  unfold Machine.fanGate
  dsimp only
  split
  · exact h.raiseBoth (by decide) (h.afc _ _ hs)
  · exact h.afc _ _ hs

theorem lightGate (h : SweepClosed P) (hs : P s) : P (lightGate s) := by
  have ht := h.tripIf (gateTrip s) hs
  unfold Machine.lightGate
  dsimp only
  split
  · rename_i starting
    split
    · exact h.lps _ _ Iff.rfl (h.enterPower _ (by simp [starting]) ht)
    · exact ht
  · exact h.recomputeLight ht
  · exact ht

theorem provingExpiry (h : SweepClosed P) (hs : P s) : P (provingExpiry s) := by
  unfold Machine.provingExpiry
  split
  · exact h.tripIf _ hs
  · exact hs

end SweepClosed

variable {s t : State}

/-! ## What the sensing law reads -/

theorem ScanLaw.transfer (h : ScanLaw s) (hs : MotionOnly s t)
    (hp : t.lps.power = .off ↔ s.lps.power = .off) : ScanLaw t := by
  unfold ScanLaw State.channel at *
  rw [hs]
  simpa only [hp, ne_eq] using h

theorem ScanLaw.of_eq (h : ScanLaw s) (hs : t.scn = s.scn) (hp : t.lps.power = s.lps.power) :
    ScanLaw t := h.transfer (.of_scn hs) (by rw [hp])

/-- A change of neither SCN nor LPS keeps the sensing law. -/
theorem ScanLaw.of_unchanged {l : List Part} (h : ScanLaw s) (hf : Unchanged l s t)
    (hs : Part.scn ∉ l) (hp : Part.lps ∉ l) : ScanLaw t :=
  h.of_eq (hf .scn hs) (congrArg Lps.power (hf .lps hp))

theorem scanLaw_requestBuild (h : ScanLaw s) : ScanLaw (requestBuild s) :=
  h.of_unchanged (requestBuild_frame s) (by simp) (by simp)

theorem scanLaw_closed : SweepClosed ScanLaw where
  choices _ _ h := h
  afc _ _ h := h
  lps _ _ hp h := h.transfer (.of_scn rfl) hp
  axis _ _ _ h := h
  mark _ h := h
  msc _ _ h := h
  fdt _ _ h := h
  build _ h := scanLaw_requestBuild h
  raise _ _ _ _ h := h

theorem scanLaw_lens : LensClosed ScanLaw where
  msc _ _ _ h := h
  fdt _ _ h := h
  raise _ _ _ h := h
  build _ h := scanLaw_requestBuild h
  axis _ _ _ _ h := h
  take _ _ _ _ _ _ _ _ h := h
  mark _ h := h

/-! ## The Scan Unit's own operations -/

theorem scanLaw_setConversion {x : Conversion} (h : ScanLaw s)
    (hx : ∀ c, x = .sweep c → s.lps.power ≠ .off) : ScanLaw (setConversion x s) := by
  obtain ⟨main, brd, _, rest⟩ := h
  exact ⟨main, brd, hx, rest⟩

/-- The conversion that follows a completed standby or left-over one (R3, log 12). -/
theorem scanLaw_sweepIfUp (h : ScanLaw s) :
    ScanLaw (setConversion (if mainRailUp s then .sweep .lsh else .idle) s) := by
  refine scanLaw_setConversion h fun c hc => ?_
  by_cases up : mainRailUp s = true
  · simpa [mainRailUp] using up
  · simp [up] at hc

/-- A channel record may be replaced by one that is UNPOWERED exactly when the old one was. -/
theorem scanLaw_setChannel {c : Channel} {r : ChannelRecord} (h : ScanLaw s)
    (hr : r.condition = .unpowered ↔ (s.channel c).condition = .unpowered) :
    ScanLaw (s.setChannel c r) := by
  obtain ⟨main, brd, rest⟩ := h
  have same : ∀ d, ((s.setChannel c r).channel d).condition = .unpowered ↔
      (s.channel d).condition = .unpowered := fun d => by
    by_cases hd : d = c
    · subst hd
      rw [State.setChannel_channel_self]
      exact hr
    · rw [State.setChannel_channel_of_ne s r hd]
  exact ⟨fun d hd => (same d).trans (main d hd), fun k => brd ((same .brd).mp k), rest⟩

theorem scanLaw_applyConversion (h : ScanLaw s) (c : Channel) (code : Int) :
    ScanLaw (applyConversion c code s) :=
  scanLaw_setChannel h (convert_unpowered_iff _ _ _)

theorem scanLaw_withPair (h : ScanLaw s) (p : Int × Int) : ScanLaw (withPair p s) := by
  obtain ⟨main, brd, sweep, len, -, -, tangent⟩ := h
  exact ⟨main, brd, sweep, pushPair_length_le len p, rfl, rfl, tangent⟩

theorem scanLaw_recomputeAttitude (h : ScanLaw s) : ScanLaw (recomputeAttitude s) := by
  obtain ⟨main, brd, sweep, len, ysum, zsum, tangent⟩ := h
  refine ⟨main, brd, sweep, len, ysum, zsum, ?_⟩
  show -5774 ≤ (if 6400 ≤ (verticalSum s).natAbs then _ else s.scn.tangent) ∧
    (if 6400 ≤ (verticalSum s).natAbs then _ else s.scn.tangent) ≤ 5774
  split
  · exact clamp_bounds (by decide) _
  · exact tangent

theorem scanLaw_joinPair (h : ScanLaw s) : ScanLaw (joinPair s) := by
  cases hj : joiningPair s with
  | none => rwa [joinPair_of_none hj]
  | some p =>
    rw [joinPair_of_some hj]
    split
    · exact scanLaw_recomputeAttitude (scanLaw_withPair h p)
    · exact scanLaw_withPair h p

theorem scanLaw_presentAll (h : ScanLaw s) : ScanLaw (presentAll s) := by
  have condition : ∀ c, ((presentAll s).channel c).condition = (s.channel c).condition := fun c => by
    unfold State.channel
    rw [presentAll_scn, PerChannel.get_map]
    rfl
  unfold ScanLaw at *
  simp only [condition, presentAll_lps, presentAll_scn]
  exact h

theorem scanLaw_presentAndAct (h : ScanLaw s) (o : Orientation) : ScanLaw (presentAndAct o s) :=
  scanLaw_closed.presentAndAct o (scanLaw_presentAll (s := rearmMotion s) h)

/-- A full sweep runs with the rail up. -/
theorem ScanLaw.up_of_sweep (h : ScanLaw s) {c : Channel} (hv : s.scn.conversion = .sweep c) :
    s.lps.power ≠ .off := by
  obtain ⟨-, -, sweep, -⟩ := h
  exact sweep c hv

theorem scanLaw_completeConversion (h : ScanLaw s) (c : Channel) (code : Int) :
    ScanLaw (completeConversion c code s) := by
  have applied := scanLaw_applyConversion h c code
  unfold completeConversion
  dsimp only
  split
  · exact h
  · rename_i x hx
    have up := h.up_of_sweep hx
    split
    · split
      · exact scanLaw_setConversion applied fun _ _ => up
      · exact scanLaw_presentAndAct (scanLaw_joinPair
          (scanLaw_setConversion applied fun _ k => by cases k)) _
    · exact h
  · split
    · exact scanLaw_presentAndAct (scanLaw_sweepIfUp applied) _
    · exact h
  · split
    · exact scanLaw_sweepIfUp applied
    · exact h

theorem scanLaw_startSweep (h : ScanLaw s) : ScanLaw (startSweep s) := by
  unfold startSweep
  split
  · rename_i up
    exact scanLaw_setConversion h fun _ _ => by simpa [mainRailUp] using up.1
  · exact h

theorem scanLaw_startStandby (h : ScanLaw s) : ScanLaw (startStandby s) := by
  have standby : ScanLaw (setConversion .standby s) :=
    scanLaw_setConversion h fun _ k => by cases k
  unfold startStandby
  split
  · exact h
  · split
    · exact standby
    · exact standby
    · exact h
    · exact h

/-! ## Rail edges and part reset -/

/-- The main-rail channels are blank in the one condition, BRD is as it was (R3 to R5). -/
theorem railChannels_main {c : Channel} (h : c ∈ mainRailChannels) (k : Condition)
    (x : PerChannel ChannelRecord) : (railChannels k x).get c = blankChannel k := by
  cases c <;> first | rfl | simp [mainRailChannels] at h

theorem railChannels_brd (k : Condition) (x : PerChannel ChannelRecord) :
    (railChannels k x).get .brd = x.get .brd := rfl

/-- The sensing law after a rail edge or a reset end: the main-rail channels take one condition, and LPS
is in OFF exactly when that is UNPOWERED. -/
theorem scanLaw_of_railChannels {k : Condition} (h : ScanLaw s)
    (hc : t.scn.channels = railChannels k s.scn.channels)
    (hk : k = .unpowered ↔ t.lps.power = .off)
    (hv : ∀ c, t.scn.conversion = .sweep c → t.lps.power ≠ .off)
    (hw : t.scn.window = [] ∧ t.scn.ysum = 0 ∧ t.scn.zsum = 0 ∨
      t.scn.window = s.scn.window ∧ t.scn.ysum = s.scn.ysum ∧ t.scn.zsum = s.scn.zsum)
    (ht : t.scn.tangent = s.scn.tangent) : ScanLaw t := by
  obtain ⟨-, brd, -, len, ysum, zsum, lo, hi⟩ := h
  refine ⟨fun c hm => ?_, ?_, hv, ?_⟩
  · unfold State.channel
    rw [hc, railChannels_main hm]
    exact hk
  · unfold State.channel
    rw [hc, railChannels_brd]
    exact brd
  · rw [ht]
    rcases hw with ⟨w, y, z⟩ | ⟨w, y, z⟩ <;> rw [w, y, z]
    · exact ⟨by simp, rfl, rfl, lo, hi⟩
    · exact ⟨len, ysum, zsum, lo, hi⟩

theorem scanLaw_railRise (h : ScanLaw s) : ScanLaw (railRise s) := by
  unfold railRise
  split
  · exact h
  · refine scanLaw_requestBuild (scanLaw_of_railChannels h (t := enterStarting (scanRise s)) rfl ?_ ?_
      (.inl ⟨rfl, rfl, rfl⟩) rfl)
    · show Condition.waiting = .unpowered ↔ Power.starting = .off
      decide
    · exact fun _ _ k => by cases k

theorem scanLaw_railLoss (h : ScanLaw s) : ScanLaw (railLoss s) := by
  have dark : ScanLaw (lightLoss (stopFans (scanLoss s))) := by
    refine scanLaw_of_railChannels h rfl ⟨fun _ => rfl, fun _ => rfl⟩ (fun c hc => ?_)
      (.inl ⟨rfl, rfl, rfl⟩) rfl
    change (scanLoss s).scn.conversion = .sweep c at hc
    unfold scanLoss at hc
    dsimp only [State.withScn] at hc
    split at hc
    · cases hc
    · cases hc
    · rename_i notSweep
      exact absurd hc (notSweep c)
  unfold railLoss
  split
  · exact scanLaw_lens.fdt _ _ (scanLaw_closed.eitherOrder
      (f := fun t => lensLoss (bankLoss t)) (g := fun t => bankLoss (lensLoss t))
      (lensLoss_keeps scanLaw_lens (s := bankLoss _) dark) (lensLoss_keeps scanLaw_lens dark))
  · exact h

theorem scanLaw_endReset (h : ScanLaw s) (hp : s.inReset = true → s.lps.power = .off)
    (x : InputLevels) : ScanLaw (endReset x s) := by
  unfold endReset
  split
  · rename_i running
    have off := hp running
    refine scanLaw_requestBuild ?_
    cases hg : x.mainGood with
    | true =>
      refine scanLaw_of_railChannels h (k := .waiting) rfl ?_ ?_ (.inr ⟨rfl, rfl, rfl⟩) rfl
      · show Condition.waiting = .unpowered ↔ Power.starting = .off
        decide
      · exact fun _ _ k => by cases k
    | false =>
      refine scanLaw_of_railChannels h (k := .unpowered) rfl ⟨fun _ => off, fun _ => rfl⟩
        (fun c hc => by cases hc) (.inr ⟨rfl, rfl, rfl⟩) rfl
  · exact h

theorem scanLaw_partReset (s : State) : ScanLaw (partReset s) := by
  have reset : ScanLaw State.reset := by
    refine ⟨fun c hc => ⟨fun _ => rfl, fun _ => ?_⟩, by decide, fun c hc => (by cases hc), by decide, rfl,
      rfl, by decide, by decide⟩
    cases c <;> first | rfl | simp [mainRailChannels] at hc
  exact reset.of_eq rfl rfl

/-! ## The commands of the ports -/

theorem scanLaw_markDirty (h : ScanLaw s) (i : Item) : ScanLaw (markDirty i s) :=
  h.of_unchanged (markDirty_frame i s) (by simp) (by simp)

theorem scanLaw_changeSettings (h : ScanLaw s) (x : Settings) : ScanLaw (changeSettings x s) :=
  scanLaw_requestBuild (scanLaw_markDirty (s := s.withGeo { s.geo with settings := x }) h _)

theorem scanLaw_changeSlot (h : ScanLaw s) (n : Fin 10) (x : Option Preset) :
    ScanLaw (changeSlot n x s) :=
  scanLaw_markDirty (s := s.withPtb { s.ptb with slots := s.ptb.slots.set n x }) h _

theorem scanLaw_storeSettings (h : ScanLaw s) (x : Settings) : ScanLaw (storeSettings x s) := by
  unfold storeSettings
  split
  · exact h
  · exact scanLaw_changeSettings h _

theorem scanLaw_savePreset (h : ScanLaw s) (x : SaveOperands) : ScanLaw (savePreset x s).1 := by
  unfold savePreset
  split
  · exact h
  · exact scanLaw_changeSlot h _ _

theorem scanLaw_erasePreset (h : ScanLaw s) (n : Fin 10) : ScanLaw (erasePreset n s).1 := by
  unfold erasePreset
  split
  · exact h
  · exact scanLaw_changeSlot h _ _

theorem scanLaw_recallPreset (h : ScanLaw s) (p : Port) (n : Fin 10) (g : Byte) :
    ScanLaw (recallPreset p n g s).1 := by
  have accepted : ∀ x, ScanLaw (acceptRecall n g p x s) := fun x => by
    have formed : ScanLaw (formGroup n g p x (supersedeGroup s)) := supersedeGroup_keeps scanLaw_lens h
    unfold acceptRecall
    dsimp only
    refine grantOccasion_keeps scanLaw_lens _ (settleGroup_keeps scanLaw_lens.toEndClosed
      (forAxes_keeps (fun _ _ ht => placeMember_keeps scanLaw_lens _ _ _ _ _ ht) _ ?_))
    split
    · exact formed
    · exact scanLaw_changeSettings formed _
  unfold recallPreset
  split
  · exact h
  · exact accepted _
  · exact h

theorem scanLaw_setAcoustic (h : ScanLaw s) (m : AcousticMode) : ScanLaw (setAcoustic m s) := by
  unfold setAcoustic
  split
  · exact h
  · exact grantOccasion_keeps scanLaw_lens _ (scanLaw_closed.afc _ _ h)

theorem scanLaw_writeProfile (h : ScanLaw s) (k : ProfileSection) (o : Nat) (d : List Byte) :
    ScanLaw (writeProfile k o d s).1 := by
  have applied : ∀ i n v, ScanLaw (applyWrite k i n v s) := fun i n v => by
    have maxima : ScanLaw (refreshMaxima s (s.withPrf (s.prf.setSection k v))) :=
      overAxes_keeps (f := fun a t => refreshMaximum s a t)
        (fun a _ ht => refreshMaximum_keeps scanLaw_lens s a ht) h
    have derated : ScanLaw (refreshDerate s (refreshMaxima s (s.withPrf (s.prf.setSection k v)))) := by
      unfold refreshDerate
      split
      · exact scanLaw_closed.recomputeLight (scanLaw_closed.updateDerate maxima)
      · exact maxima
    exact scanLaw_closed.buildIf _ derated
  unfold writeProfile
  split
  · exact h
  · split
    · exact h
    · dsimp only
      split
      · exact applied _ _ _
      · exact h

theorem scanLaw_takeNow (h : ScanLaw s) (g c : Nat) : ScanLaw (takeNow g c s).1 := by
  unfold takeNow
  split
  · exact h
  · split <;> exact h

theorem scanLaw_dropNow (h : ScanLaw s) (g : Nat) : ScanLaw (dropNow g s).1 := by
  unfold dropNow
  split <;> exact h

theorem scanLaw_takeCommand {α : Type} {c : Cmd} {parse : List Byte → Option α}
    {run : α → State → State × Answer} (hr : ∀ x t, ScanLaw t → ScanLaw (run x t).1) (p : Port)
    (d : List Byte) (h : ScanLaw s) : ScanLaw (takeCommand c parse run p d s) := by
  unfold takeCommand
  split
  · exact h
  · exact checkCommand_keeps hr p d (s := shiftOut p (d.length + 2) s) h

theorem scanLaw_takeKnown (h : ScanLaw s) (c : Cmd) (p : Port) (d : List Byte) :
    ScanLaw (takeKnown c p d s) := by
  have closed := scanLaw_closed
  have lens := scanLaw_lens
  cases c
  case resetPart =>
    show ScanLaw (takeResetPart p d s)
    unfold takeResetPart
    split
    · exact h
    · split
      · exact scanLaw_partReset s
      · exact scanLaw_takeCommand (fun _ _ ht => ht) p d h
  case lightOn => exact scanLaw_takeCommand (fun x _ ht => closed.lightOnNow x ht) p d h
  case lightOff => exact scanLaw_takeCommand (fun _ _ ht => closed.lightOffNow ht) p d h
  case acoustic => exact scanLaw_takeCommand (fun m _ ht => scanLaw_setAcoustic ht m) p d h
  case powerDown => exact scanLaw_takeCommand (fun _ _ ht => closed.powerDownNow ht) p d h
  case powerUp => exact scanLaw_takeCommand (fun _ _ ht => closed.powerUpNow ht) p d h
  case clearTrip => exact scanLaw_takeCommand (fun _ _ ht => closed.clearTripNow ht) p d h
  case move => exact scanLaw_takeCommand (fun x _ ht => moveNow_keeps lens p x ht) p d h
  case home => exact scanLaw_takeCommand (fun x _ ht => homeNow_keeps lens p x.1 x.2 ht) p d h
  case stop => exact scanLaw_takeCommand (fun x _ ht => stopNow_keeps lens x ht) p d h
  case drift => exact scanLaw_takeCommand (fun x _ ht => driftNow_keeps lens x ht) p d h
  case presetSave => exact scanLaw_takeCommand (fun x _ ht => scanLaw_savePreset ht x) p d h
  case presetErase => exact scanLaw_takeCommand (fun x _ ht => scanLaw_erasePreset ht x) p d h
  case presetRecall =>
    exact scanLaw_takeCommand (fun x _ ht => scanLaw_recallPreset ht p x.1 x.2) p d h
  case trims => exact scanLaw_takeCommand (fun _ _ ht => scanLaw_storeSettings ht _) p d h
  case keystone => exact scanLaw_takeCommand (fun _ _ ht => scanLaw_storeSettings ht _) p d h
  case orientation => exact scanLaw_takeCommand (fun _ _ ht => scanLaw_storeSettings ht _) p d h
  case rebuild => exact scanLaw_takeCommand (fun _ _ ht => scanLaw_requestBuild ht) p d h
  case profileWrite =>
    exact scanLaw_takeCommand (fun x _ ht => scanLaw_writeProfile ht x.1 x.2.1 x.2.2) p d h
  case profileRead =>
    exact scanLaw_takeCommand (fun x _ ht => readProfile_keeps x.1 x.2.1 x.2.2 ht) p d h
  case takeTable => exact scanLaw_takeCommand (fun x _ ht => scanLaw_takeNow ht x.1 x.2) p d h
  case dropTable => exact scanLaw_takeCommand (fun x _ ht => scanLaw_dropNow ht x) p d h
  all_goals exact scanLaw_takeCommand (fun _ _ ht => ht) p d h

theorem scanLaw_exchange (h : ScanLaw s) (p : Port) (b : List Byte) (n : Nat) :
    ScanLaw (exchange p b n s) := by
  unfold exchange
  split
  · exact h
  · split
    · cases p <;> exact h
    · exact h
    · exact h
    · unfold takeFrame
      split
      · exact scanLaw_takeKnown h _ _ _
      · exact h

/-! ## The other rows -/

theorem scanLaw_afterBuild (h : ScanLaw s) : ScanLaw (afterBuild s) := by
  unfold afterBuild
  split <;> exact h

theorem scanLaw_finishBuild (h : ScanLaw s) : ScanLaw (finishBuild s) := by
  unfold finishBuild
  split
  · have judged : ∀ b g, ScanLaw ((s.withBkm b).withGeo g) := fun _ _ => h
    exact scanLaw_afterBuild (scanLaw_lens.raise _ _ _ (judged _ _))
  · exact h

theorem scanLaw_writeEnd (h : ScanLaw s) : ScanLaw (writeEnd s) := by
  unfold writeEnd
  split
  · exact h
  · rename_i f _
    have stored : ScanLaw (raiseBoth .nv (s.withNvs { storeCopy s.nvs f with inFlight := none })) := h
    exact stored.of_unchanged (startWrite_frame _) (by simp) (by simp)

theorem scanLaw_countPulse (h : ScanLaw s) (f : Fan) (w : Nat) : ScanLaw (countPulse f w s) := by
  unfold countPulse
  split <;> exact h

/-- Every command keeps the sensing law, where a part reset runs only in OFF. -/
theorem scanLaw_afterCommand (h : ScanLaw s) (hp : s.inReset = true → s.lps.power = .off)
    (i : Instr) : ScanLaw (afterCommand i s) := by
  have closed := scanLaw_closed
  have lens := scanLaw_lens
  cases i
  case unknownCommand => exact scanLaw_exchange h _ _ _
  case brokenFrame => exact scanLaw_exchange h _ _ _
  case responseRead => exact outsideReset_keeps h h
  case partReset => exact scanLaw_partReset s
  case resetEnd => exact scanLaw_endReset h hp _
  case mainRailRise => exact outsideReset_keeps (scanLaw_railRise h) h
  case mainRailLoss => exact outsideReset_keeps (scanLaw_railLoss h) h
  case coverChange => exact outsideReset_keeps (closed.coverTo _ h) h
  case homeSwitchChange a b =>
    exact outsideReset_keeps (f := fun t => occasionAfter a t (switchChange a b t))
      (occasionAfter_keeps lens _ _ (switchChange_keeps lens _ _ h)) h
  case tachPulse => exact outsideReset_keeps (scanLaw_countPulse h _ _) h
  case sweepStart => exact outsideReset_keeps (scanLaw_startSweep h) h
  case standbyBrdConversion => exact outsideReset_keeps (scanLaw_startStandby h) h
  case conversionComplete => exact outsideReset_keeps (scanLaw_completeConversion h _ _) h
  case gateEnd =>
    exact outsideReset_keeps (f := fun t => lightGate (fanGate t))
      (closed.lightGate (closed.fanGate h)) h
  case provingDeadlineExpiry => exact outsideReset_keeps (closed.provingExpiry h) h
  case step => exact outsideReset_keeps (axisStep_keeps lens _ h) h
  case dwellExpiry a =>
    exact outsideReset_keeps (f := fun t => occasionAfter a t (dwellEnd a t))
      (occasionAfter_keeps lens _ _ (dwellEnd_keeps lens _ h)) h
  case buildEnd => exact outsideReset_keeps (scanLaw_finishBuild h) h
  case loanExpiry => exact outsideReset_keeps (f := loanExpires) h h
  case nvWriteEnd => exact outsideReset_keeps (scanLaw_writeEnd h) h
  all_goals exact scanLaw_takeKnown h _ _ _

/-- Settles O15: every row keeps the sensing law; of the power law only that a part reset runs in OFF is
needed, at RESET_END with MAIN_GOOD low. -/
theorem everyStepKeepsTheScanLaw : Obligations.EveryStepKeepsTheScanLaw := by
  intro s t power scan hstep
  obtain ⟨-, resetOff, -⟩ := power
  unfold step at hstep
  split at hstep
  · cases hstep
    exact scan.transfer (.of_scn rfl) Iff.rfl
  · rw [exec_next] at hstep
    cases hstep
    rename_i rest _
    exact scanLaw_afterCommand (s := s.withPending rest) scan resetOff _

end Sys2Proof.Machine
end

section
/-! The rows of the Scan Unit: what starts a sweep or a standby conversion, what a completed conversion
does to its record, and what the end of a full sweep does to the window, T and the orientation. -/

namespace Sys2Proof.Machine

variable {s t : State}

/-- Outside a part reset an event row has its effect. -/
theorem exec_event {i : Instr} {f : State → State} (h : afterCommand i s = outsideReset f s)
    (awake : s.inReset = false) : exec i s = .next (f s) := by
  rw [exec_next, h, outsideReset, awake]
  rfl

theorem mainRailUp_iff (s : State) : mainRailUp s = true ↔ s.lps.power ≠ .off := by
  simp [mainRailUp]

theorem mainRailUp_eq_false_iff (s : State) : mainRailUp s = false ↔ s.lps.power = .off := by
  simp [mainRailUp]

/-! ## Starts (R2, R3) -/

theorem setConversion_frame (x : Conversion) (s : State) : Unchanged [.scn] s (setConversion x s) :=
  withScn_frame _ _

@[simp] theorem setConversion_channel (x : Conversion) (s : State) (c : Channel) :
    (setConversion x s).channel c = s.channel c := rfl

theorem startSweep_of_up (up : s.lps.power ≠ .off) (idle : s.scn.conversion = .idle) :
    startSweep s = setConversion (.sweep .lsh) s := if_pos ⟨(mainRailUp_iff s).mpr up, idle⟩

theorem startSweep_otherwise (h : s.lps.power = .off ∨ s.scn.conversion ≠ .idle) :
    startSweep s = s :=
  if_neg fun ⟨up, idle⟩ => h.elim ((mainRailUp_iff s).mp up) fun k => k idle

theorem startStandby_of_down (down : s.lps.power = .off)
    (free : s.scn.conversion = .idle ∨ s.scn.conversion = .leftover) :
    startStandby s = setConversion .standby s := by
  unfold startStandby
  rw [if_neg (by simp [mainRailUp, down])]
  rcases free with h | h <;> rw [h]

theorem startStandby_otherwise (h : s.lps.power ≠ .off ∨ s.scn.conversion = .standby ∨
    ∃ c, s.scn.conversion = .sweep c) : startStandby s = s := by
  unfold startStandby
  rcases h with up | busy | ⟨c, busy⟩
  · rw [if_pos ((mainRailUp_iff s).mpr up)]
  · rw [busy, ite_self]
  · rw [busy, ite_self]

theorem startSweep_frame (s : State) : Unchanged [.scn] s (startSweep s) := by
  unfold startSweep
  split
  · exact setConversion_frame _ _
  · exact .refl _ _

theorem startStandby_frame (s : State) : Unchanged [.scn] s (startStandby s) := by
  unfold startStandby
  split
  · exact .refl _ _
  · split
    · exact setConversion_frame _ _
    · exact setConversion_frame _ _
    · exact .refl _ _
    · exact .refl _ _

/-- Settles O22: by the two rows' cases, the rail and the conversion in progress. -/
theorem sweepsAndStandbyConversionsStart : Obligations.SweepsAndStandbyConversionsStart := by
  intro s awake
  refine ⟨⟨startSweep s, exec_event rfl awake, startSweep_frame s, fun up idle => ?_,
    startSweep_otherwise⟩, ⟨startStandby s, exec_event rfl awake, startStandby_frame s,
    fun down free => ?_, startStandby_otherwise⟩⟩
  · rw [startSweep_of_up up idle]
    rfl
  · rw [startStandby_of_down down free]
    rfl

/-! ## Completions before the sweep end (R2, R3) -/

/-- The record of a channel after a completed conversion. -/
def recordAfter (s : State) (c : Channel) (code : Int) : ChannelRecord :=
  (s.channel c).convert code (tempOf s c code)

theorem recordAfter_converted (s : State) (c : Channel) (code : Int) :
    Converted (s.channel c) code (tempOf s c code) (recordAfter s c code) :=
  convert_converted _ _ _

theorem applyConversion_frame (c : Channel) (code : Int) (s : State) :
    Unchanged [.scn] s (applyConversion c code s) := setChannel_frame _ _ _

@[simp] theorem applyConversion_channel_self (c : Channel) (code : Int) (s : State) :
    (applyConversion c code s).channel c = recordAfter s c code :=
  State.setChannel_channel_self _ _ _

theorem applyConversion_channel_of_ne {c d : Channel} (h : d ≠ c) (code : Int) (s : State) :
    (applyConversion c code s).channel d = s.channel d := State.setChannel_channel_of_ne _ _ h

/-- Before ACZ the sweep passes to the next channel. -/
theorem completeConversion_of_next {c d : Channel} (hv : s.scn.conversion = .sweep c)
    (hn : nextChannel c = some d) (code : Int) :
    completeConversion c code s = setConversion (.sweep d) (applyConversion c code s) := by
  unfold completeConversion
  simp only [hv, if_true, hn]

/-- ACZ ends the sweep. -/
theorem completeConversion_of_last (hv : s.scn.conversion = .sweep .acz) (code : Int) :
    completeConversion .acz code s =
      fullSweepEnd (setConversion .idle (applyConversion .acz code s)) := by
  unfold completeConversion
  simp only [hv, if_true, nextChannel]

/-- The conversion in progress after a standby or left-over one: the first sweep when the rail is up
(R3, log 12). -/
def conversionAfter (s : State) : Conversion := if s.lps.power = .off then .idle else .sweep .lsh

theorem conversionAfter_eq (s : State) :
    (if mainRailUp s then Conversion.sweep .lsh else .idle) = conversionAfter s := by
  unfold conversionAfter
  by_cases down : s.lps.power = .off <;> simp [mainRailUp, down]

theorem completeConversion_of_standby (hv : s.scn.conversion = .standby) (code : Int) :
    completeConversion .brd code s =
      standbySweepEnd (setConversion (conversionAfter s) (applyConversion .brd code s)) := by
  unfold completeConversion
  simp only [hv, if_true]
  rw [conversionAfter_eq]
  rfl

theorem completeConversion_of_leftover (hv : s.scn.conversion = .leftover) (code : Int) :
    completeConversion .brd code s =
      setConversion (conversionAfter s) (applyConversion .brd code s) := by
  unfold completeConversion
  simp only [hv, if_true]
  rw [conversionAfter_eq]
  rfl

/-- What SENSOR is due for once a conversion has acted: its own record, or one that waited. -/
theorem sensorDue_applyConversion_iff (c : Channel) (code : Int) (s : State) :
    sensorDue (applyConversion c code s) ↔
      (recordAfter s c code).causeDue = true ∨ ∃ d, d ≠ c ∧ (s.channel d).causeDue = true := by
  constructor
  · rintro ⟨d, hd⟩
    by_cases h : d = c
    · subst h
      exact .inl (by simpa using hd)
    · exact .inr ⟨d, h, by rwa [applyConversion_channel_of_ne h] at hd⟩
  · rintro (h | ⟨d, h, hd⟩)
    · exact ⟨c, by simpa using h⟩
    · exact ⟨d, by rwa [applyConversion_channel_of_ne h]⟩

/-- The median of three values is the middle one of some order of them (R9). -/
theorem median3_between (a b c : Int) : ∃ lo m hi, median3 a b c = m ∧ lo ≤ m ∧ m ≤ hi ∧
    [lo, m, hi].Perm [a, b, c] := by
  unfold median3
  rcases le_total a b with ab | ab <;> rcases le_total b c with bc | bc
  · exact ⟨a, b, c, by omega, ab, bc, .refl _⟩
  · rcases le_total a c with ac | ac
    · exact ⟨a, c, b, by omega, ac, bc, .cons _ (.swap _ _ _)⟩
    · exact ⟨c, a, b, by omega, ac, ab, (List.Perm.swap _ _ _).trans (.cons _ (.swap _ _ _))⟩
  · rcases le_total a c with ac | ac
    · exact ⟨b, a, c, by omega, ab, ac, .swap _ _ _⟩
    · exact ⟨b, c, a, by omega, bc, ac, (List.Perm.cons _ (.swap _ _ _)).trans (.swap _ _ _)⟩
  · exact ⟨c, b, a, by omega, bc, ab,
      ((List.Perm.swap _ _ _).trans (.cons _ (.swap _ _ _))).trans (.swap _ _ _)⟩

/-- A channel before ACZ has a successor in the sweep. -/
theorem nextChannel_of_ne {c : Channel} (h : c ≠ .acz) : ∃ d, nextChannel c = some d := by
  cases c <;> first | exact ⟨_, rfl⟩ | exact absurd rfl h

theorem tempOf_of_ne {c : Channel} (h : c ≠ .acz) (s : State) (code : Int) :
    tempOf s c code =
      if c = .acy then none else some (convertTemp (thermTable s (channelNumber c)) code) := by
  simp [tempOf, h]

theorem standbySweepEnd_channel (s : State) (c : Channel) :
    (standbySweepEnd s).channel c = presentedAs (s.channel c) := presentAndAct_channel _ _ _

theorem standbySweepEnd_scn (s : State) : ∃ m, (standbySweepEnd s).scn =
    { s.scn with channels := s.scn.channels.map ChannelRecord.presented, motion := m } :=
  presentAndAct_scn _ _

theorem standbySweepEnd_sensor (u : State) (x : Conversion) (h : u.pif = s.pif) :
    SensorRaisedIf (sensorDue u) s (standbySweepEnd (setConversion x u)) :=
  (presentAndAct_sensor _ (setConversion x u)).of_pif h

/-- A conversion in a sweep before ACZ, as O23 states it. -/
theorem sweepConversion_effect {c : Channel} (hv : s.scn.conversion = .sweep c) (hc : c ≠ .acz)
    (code : Int) :
    Unchanged [.scn] s (completeConversion c code s) ∧
    (completeConversion c code s).channel c = recordAfter s c code ∧
    ∃ d, nextChannel c = some d ∧ (completeConversion c code s).scn = { s.scn with
      channels := s.scn.channels.set c (recordAfter s c code), conversion := .sweep d } := by
  obtain ⟨d, hd⟩ := nextChannel_of_ne hc
  rw [completeConversion_of_next hv hd]
  exact ⟨(applyConversion_frame _ _ _).trans (setConversion_frame _ _),
    applyConversion_channel_self _ _ _, d, hd, rfl⟩

/-- The sweep end of a standby conversion: the values, the conversion that follows, the attitude. -/
theorem standbyConversion_effect (hv : s.scn.conversion = .standby) (code : Int) :
    let t := completeConversion .brd code s
    t.channel .brd = presentedAs (recordAfter s .brd code) ∧
    (∀ c, c ≠ .brd → t.channel c = presentedAs (s.channel c)) ∧
    t.scn.conversion = conversionAfter s ∧ t.scn.window = s.scn.window ∧
    t.scn.tangent = s.scn.tangent ∧ t.scn.detected = s.scn.detected ∧
    SensorRaisedIf ((recordAfter s .brd code).causeDue = true ∨
      ∃ c, c ≠ .brd ∧ (s.channel c).causeDue = true) s t := by
  dsimp only
  rw [completeConversion_of_standby hv]
  obtain ⟨m, scn⟩ := standbySweepEnd_scn
    (setConversion (conversionAfter s) (applyConversion .brd code s))
  have sensor := standbySweepEnd_sensor (s := s) (applyConversion .brd code s) (conversionAfter s) rfl
  rw [sensorDue_applyConversion_iff] at sensor
  refine ⟨?_, fun c hc => ?_, ?_, ?_, ?_, ?_, sensor⟩
  · rw [standbySweepEnd_channel, setConversion_channel, applyConversion_channel_self]
  · rw [standbySweepEnd_channel, setConversion_channel, applyConversion_channel_of_ne hc]
  all_goals
    rw [scn]
    rfl

/-- Settles O23: by the conversion in progress; the effect on the record is `convert_converted`. -/
theorem conversionUpdatesItsChannelRecord : Obligations.ConversionUpdatesItsChannelRecord := by
  refine ⟨fun _ => rfl, fun _ _ => rfl, fun a b c => ?_, fun c k s awake hv hc => ?_, fun k s awake => ?_⟩
  · obtain ⟨lo, m, hi, hm, rest⟩ := median3_between a b c
    exact ⟨lo, m, hi, congrArg some hm, rest⟩
  · obtain ⟨frame, record, d, hd, scn⟩ := sweepConversion_effect hv hc k.toNat
    refine ⟨_, exec_event rfl awake, frame, ?_, d, hd, ?_⟩
    · rw [record, ← tempOf_of_ne hc]
      exact recordAfter_converted _ _ _
    · rw [record]
      exact scn
  · refine ⟨_, exec_event rfl awake, recordAfter s .brd k.toNat, recordAfter_converted _ _ _,
      fun hv => standbyConversion_effect hv _, fun hv => ?_⟩
    rw [completeConversion_of_leftover hv]
    exact ⟨(applyConversion_frame _ _ _).trans (setConversion_frame _ _), rfl⟩

/-! ## The end of a full sweep (R2, R13 to R15) -/

theorem still_iff (s : State) :
    still s = true ↔ s.scn.motion = false ∧ ∀ a, inMotion s a = false := by
  have all_iff : (∀ a, inMotion s a = false) ↔ ∀ a ∈ allAxes, inMotion s a = false :=
    ⟨fun h a _ => h a, fun h a => h a (by cases a <;> simp [allAxes])⟩
  rw [all_iff]
  simp [still]

/-- The pair of a still sweep in range and without fault joins (R13). -/
theorem joiningPair_of_joins {y z : Int} (hy : (s.channel .acy).raw = some y)
    (hz : (s.channel .acz).raw = some z) (iy : inRange y = true) (iz : inRange z = true)
    (hs : still s = true) (fy : faultCondition (s.channel .acy).condition = false)
    (fz : faultCondition (s.channel .acz).condition = false) : joiningPair s = some (y, z) := by
  simp only [State.channel, PerChannel.get] at hy hz fy fz
  simp [joiningPair, sweepPair, hy, hz, iy, iz, hs, fy, fz]

/-- A pair that joins comes from a still sweep, in range and without fault (R13). -/
theorem joins_of_joiningPair {p : Int × Int} (h : joiningPair s = some p) :
    still s = true ∧ faultCondition (s.channel .acy).condition = false ∧
      faultCondition (s.channel .acz).condition = false ∧ (s.channel .acy).raw = some p.1 ∧
      (s.channel .acz).raw = some p.2 ∧ inRange p.1 = true ∧ inRange p.2 = true := by
  simp only [State.channel, PerChannel.get]
  unfold joiningPair sweepPair at h
  split at h
  · rename_i free
    split at h
    · rename_i y z hy hz
      split at h
      · rename_i inside
        cases h
        simp only [Bool.and_eq_true, Bool.not_eq_true'] at free inside
        obtain ⟨⟨hs, fy⟩, fz⟩ := free
        obtain ⟨iy, iz⟩ := inside
        exact ⟨hs, fy, fz, hy, hz, iy, iz⟩
      · cases h
    · cases h
  · cases h

/-- What a pair that joins makes of T and the orientation (R14, R15). -/
theorem joinPair_attitude {p : Int × Int} (h : joiningPair s = some p) :
    let w := pushPair s.scn.window p
    let d := sumOf Prod.snd w - 16 * offsetZ s
    let t := joinPair s
    t.scn.window = w ∧ t.scn.ysum = sumOf Prod.fst w ∧ t.scn.zsum = sumOf Prod.snd w ∧
    (w.length < 16 → t.scn.tangent = s.scn.tangent ∧ t.scn.detected = s.scn.detected) ∧
    (16 ≤ w.length → t.scn.detected = detectedAfter d s.scn.detected ∧
      t.scn.tangent =
        if 6400 ≤ d.natAbs then pitchTangent (sumOf Prod.fst w) (offsetY s) d else s.scn.tangent) := by
  dsimp only
  rw [joinPair_of_some h]
  split
  · exact ⟨rfl, rfl, rfl, fun _ => by omega, fun _ => ⟨rfl, rfl⟩⟩
  · exact ⟨rfl, rfl, rfl, fun _ => ⟨rfl, rfl⟩, fun _ => by omega⟩

/-- The orientation and the tangent of a full window, with the dead band kept (R14, R15). -/
theorem attitude_cases {d ysum yoff now : Int} {o detected : Orientation} {tangent : Int}
    (ho : detected = detectedAfter d o)
    (ht : tangent = if 6400 ≤ d.natAbs then pitchTangent ysum yoff d else now) :
    (6400 ≤ d → detected = .floor) ∧ (d ≤ -6400 → detected = .ceiling) ∧
    (-6400 < d → d < 6400 → detected = o ∧ tangent = now) ∧
    ((6400 ≤ d ∨ d ≤ -6400) → tangent = clamp (-5774) 5774
      (divHalfAway (10000 * (16 * yoff - ysum)) d.natAbs)) := by
  subst ho ht
  refine ⟨fun up => if_pos up, fun down => ?_, fun lo hi => ⟨?_, if_neg (by omega)⟩,
    fun far => if_pos (by omega)⟩
  · rw [detectedAfter, if_neg (by omega), if_pos down]
  · rw [detectedAfter, if_neg (by omega), if_neg (by omega)]

/-- A full sweep end presents every channel. -/
theorem fullSweepEnd_channel (s : State) (c : Channel) :
    (fullSweepEnd s).channel c = presentedAs (s.channel c) := by
  refine (presentAndAct_channel _ _ c).trans (congrArg presentedAs ?_)
  exact congrArg (PerChannel.get · c) (joinPair_scn s).1

/-- What a full sweep end leaves of the Scan Unit beside its channels and its motion mark. -/
theorem fullSweepEnd_scn (s : State) : ∃ m, (fullSweepEnd s).scn = { (joinPair s).scn with
    channels := (joinPair s).scn.channels.map ChannelRecord.presented, motion := m } :=
  presentAndAct_scn _ _

theorem fullSweepEnd_sensor (s : State) : SensorRaisedIf (sensorDue s) s (fullSweepEnd s) := by
  have due : sensorDue (joinPair s) = sensorDue s := by
    unfold sensorDue State.channel
    rw [(joinPair_scn s).1]
  have sensor : SensorRaisedIf (sensorDue (joinPair s)) (joinPair s) (fullSweepEnd s) :=
    presentAndAct_sensor _ _
  rw [due] at sensor
  exact sensor.of_pif (joinPair_pif s)

/-- The state in which the ACZ conversion has acted and the sweep has ended. -/
def afterAcz (s : State) (code : Int) : State :=
  setConversion .idle (applyConversion .acz code s)

theorem afterAcz_channel_acz (s : State) (code : Int) :
    (afterAcz s code).channel .acz = recordAfter s .acz code := by
  rw [afterAcz, setConversion_channel, applyConversion_channel_self]

theorem afterAcz_channel_of_ne {c : Channel} (h : c ≠ .acz) (s : State) (code : Int) :
    (afterAcz s code).channel c = s.channel c := by
  rw [afterAcz, setConversion_channel, applyConversion_channel_of_ne h]

/-- Settles O24: the window's part by whether the sweep's pair joins, the rest by the presenting. -/
theorem sweepEndPresentsAndTakesTheAttitude : Obligations.SweepEndPresentsAndTakesTheAttitude := by
  intro k s awake hv powered inside
  have raw : (recordAfter s .acz k.toNat).raw = some (k.toNat : Int) := convert_raw powered _ _
  have acz := afterAcz_channel_acz s k.toNat
  have acy := afterAcz_channel_of_ne (c := .acy) (by decide) s k.toNat
  obtain ⟨m, scn⟩ := fullSweepEnd_scn (afterAcz s k.toNat)
  have channel := fullSweepEnd_channel (afterAcz s k.toNat)
  have hstep : exec (.conversionComplete .acz k) s = .next (fullSweepEnd (afterAcz s k.toNat)) := by
    rw [exec_event rfl awake, completeConversion_of_last hv]
    rfl
  refine ⟨_, hstep, ?_, fun c => ?_, fun c => ?_, fun c hc => ?_,
    ⟨recordAfter s .acz k.toNat, recordAfter_converted _ _ _, ?_, ?_⟩, ?_, ?_⟩
  · obtain ⟨-, conversion, -⟩ := joinPair_scn (afterAcz s k.toNat)
    rw [scn]
    exact conversion
  · rw [channel]
    rfl
  · rw [channel]
    rfl
  · rw [channel, afterAcz_channel_of_ne hc]
    exact ⟨rfl, rfl, rfl, rfl⟩
  · rw [channel, acz]
  · rw [← sensorDue_applyConversion_iff]
    exact (fullSweepEnd_sensor (afterAcz s k.toNat)).of_pif rfl
  · intro y hy iy iz quiet rest fy fz
    rw [channel, acz] at fz
    have joins : joiningPair (afterAcz s k.toNat) = some (y, (k.toNat : Int)) :=
      joiningPair_of_joins (by rw [acy, hy]) (by rw [acz, raw]) ((inRange_iff _).mpr iy)
        ((inRange_iff _).mpr iz) ((still_iff _).mpr ⟨quiet, rest⟩) (by rw [acy, fy])
        (by rw [acz]; exact fz)
    obtain ⟨window, ysum, zsum, part, full⟩ := joinPair_attitude joins
    rw [scn]
    exact ⟨window, ysum, zsum, part, fun len => attitude_cases (full len).1 (full len).2⟩
  · intro out
    have none : joiningPair (afterAcz s k.toNat) = none := by
      refine Option.eq_none_iff_forall_ne_some.mpr fun p hp => ?_
      obtain ⟨hs, fy, fz, ry, rz, iy, iz⟩ := joins_of_joiningPair hp
      obtain ⟨quiet, rest⟩ := (still_iff _).mp hs
      rw [acy] at fy ry
      rw [acz] at fz rz
      rw [raw] at rz
      have same : (k.toNat : Int) = p.2 := Option.some.inj rz
      rw [channel, acz] at out
      rcases out with h | ⟨a, h⟩ | h | h | h | h
      · exact absurd (h.symm.trans quiet) (by decide)
      · exact absurd (h.symm.trans (rest a)) (by decide)
      · exact h (same ▸ (inRange_iff _).mp iz)
      · exact h p.1 ry ((inRange_iff _).mp iy)
      · exact absurd (h.symm.trans fy) (by decide)
      · exact absurd (h.symm.trans fz) (by decide)
    rw [scn, joinPair_of_none none]
    exact ⟨rfl, rfl, rfl⟩

end Sys2Proof.Machine
end

section
/-! The values at power-up, the end of a part reset and the main-rail rise: the last two enter STARTING
with the fans kicked and the main-rail channels in a new condition, and ask for a build. -/

namespace Sys2Proof.Machine

variable {s t u : State}

/-! ## Part reset -/

/-- Settles O4: every field is read off `State.reset`. -/
theorem resetStateHoldsTheResetValues : Obligations.ResetStateHoldsTheResetValues := by
  have channels : ∀ c, (State.reset.channel c).raw = none ∧ (State.reset.channel c).history = [] ∧
      (State.reset.channel c).temp = none ∧ (State.reset.channel c).outRun = 0 ∧
      (State.reset.channel c).inRun = 0 := fun c => by cases c <;> exact ⟨rfl, rfl, rfl, rfl, rfl⟩
  have fans : ∀ f, State.reset.afc.fans.get f = ⟨.stopped, 0, false, 0, 0, 0, 0, 0⟩ ∧
      State.reset.afc.pulses.get f = 0 := fun f => by cases f <;> exact ⟨rfl, rfl⟩
  have axes : ∀ a, State.reset.axis a = axisReset (axisMaximum State.reset a) := fun a => by
    cases a <;> rfl
  have presets : ∀ n : Fin 10, State.reset.ptb.slots.get n = none := fun n => by
    have slots : State.reset.ptb.slots = Vector.replicate 10 none := Vector.map_replicate
    rw [slots, Vector.get_eq_getElem, Vector.getElem_replicate]
  have banks : ∀ b, State.reset.bkm.banks.get b = bankReset := fun b => by cases b <;> rfl
  have ports : ∀ p, State.reset.port p = portReset := fun p => by cases p <;> rfl
  unfold Obligations.ResetStateHoldsTheResetValues
  simp only [axes, banks, ports]
  exact ⟨rfl, channels, rfl, rfl, rfl, rfl, rfl, rfl, rfl, rfl, fans, by decide, rfl, rfl, rfl, rfl, rfl, rfl,
    rfl, rfl, rfl, rfl, rfl, rfl, rfl,
    fun a => ⟨rfl, rfl, rfl, rfl, rfl, rfl, rfl, rfl, rfl, rfl, rfl, rfl, rfl, rfl, rfl, rfl, rfl⟩,
    fun a => by cases a <;> rfl, rfl, rfl, fun a => by cases a <;> rfl, presets, rfl, rfl, rfl, rfl, rfl, rfl,
    fun b => ⟨rfl, rfl, fun _ => rfl⟩, rfl, rfl, rfl, rfl, fun p => ⟨rfl, rfl⟩, rfl, rfl, rfl, rfl, rfl⟩

/-! ## An operation on every axis -/

/-- An operation applied to every axis, each application acting on what belongs to its own axis, acts
once on what belongs to one. -/
theorem overAxes_at {R : Type} {f : Axis → State → State} {a : Axis} (read : State → R) (g : R → R)
    (act : ∀ t, read (f a t) = g (read t)) (keep : ∀ c, c ≠ a → ∀ t, read (f c t) = read t) 
    (s : State) : read (allAxes.foldl (fun t b => f b t) s) = g (read s) := by
  cases a <;> simp [allAxes, act, keep]

/-! ## What an entry into STARTING and a build request give -/

/-- A build request is judged by the builds and the banks before it. -/
theorem BuildAsked.of_eq (h : BuildAsked s u) (hg : t.geo = s.geo) (hb : t.bkm = s.bkm) :
    BuildAsked t u := by
  unfold BuildAsked at *
  rwa [hg, hb]

theorem FansKicked.of_eq (h : FansKicked s t) (hs : u.afc = s.afc) : FansKicked u t := by
  unfold FansKicked at *
  rwa [hs]

theorem FansKicked.to_eq (h : FansKicked s t) (ht : u.afc = t.afc) : FansKicked s u := by
  unfold FansKicked at *
  rwa [ht]

theorem JoinedBoth.to_eq {x : CauseSet} (h : JoinedBoth x s t)
    (ht : u.pif.attnM = t.pif.attnM ∧ u.pif.attnS = t.pif.attnS) : JoinedBoth x s u := by
  unfold JoinedBoth at *
  rwa [ht.1, ht.2]

theorem enterStarting_frame (s : State) :
    Unchanged [.attention, .lps, .afc] s (enterStarting s) :=
  ((enterPower_frame .starting s).weaken (by simp)).trans ((kickFans_frame _).weaken (by simp))

theorem enterStarting_joined (s : State) : JoinedBoth (causeBit .state) s (enterStarting s) :=
  enterPower_joined .starting s

theorem enterStarting_kicked (s : State) : FansKicked s (enterStarting s) :=
  (kickFans_kicked (enterPower .starting s)).of_eq rfl

/-- What a build request leaves: the axes, the channels, the power record and the fans. -/
theorem requestBuild_keeps (s : State) : (requestBuild s).ldu = s.ldu ∧ (requestBuild s).scn = s.scn ∧
    (requestBuild s).lps = s.lps ∧ (requestBuild s).afc = s.afc ∧
    (requestBuild s).inReset = s.inReset :=
  have frame := requestBuild_frame s
  ⟨frame .ldu (by simp), frame .scn (by simp), frame .lps (by simp), frame .afc (by simp),
    frame .inReset (by simp)⟩

theorem channel_of_railChannels {k : Condition} {x : PerChannel ChannelRecord}
    (h : t.scn.channels = railChannels k x) :
    (∀ c ∈ mainRailChannels, t.channel c = blankChannel k) ∧ t.channel .brd = x.get .brd := by
  unfold State.channel
  rw [h]
  exact ⟨fun c hc => railChannels_main hc k x, railChannels_brd k x⟩

/-! ## The end of a part reset (R174) -/

/-- The state at a reset end before the build is asked for. -/
def resetEnded (x : InputLevels) (s : State) : State :=
  powerStart x.mainGood (scanStart x.mainGood (takeInputs x (announceReset (s.withInReset false))))

theorem endReset_eq (running : s.inReset = true) (x : InputLevels) :
    endReset x s = requestBuild (resetEnded x s) := if_pos running

theorem announceReset_frame (s : State) : Unchanged [.attention] s (announceReset s) := by
  intro x hx
  cases x <;> first | rfl | simp at hx

theorem takeInputs_frame (x : InputLevels) (s : State) : Unchanged [.lps, .ldu] s (takeInputs x s) :=
  overAxes_keeps (P := Unchanged [.lps, .ldu] s) (f := fun a t => takeSwitch a (x.homes.get a) t)
    (fun a t ht => ht.trans ((setAxis_frame t a _).weaken (by simp)))
    ((withLps_frame s { s.lps with cover := x.cover }).weaken (by simp))

theorem powerStart_frame (g : Bool) (s : State) :
    Unchanged [.attention, .lps, .afc] s (powerStart g s) := by
  cases g
  · exact (withLps_frame s _).weaken (by simp)
  · exact enterStarting_frame s

theorem scanStart_frame (g : Bool) (s : State) : Unchanged [.scn] s (scanStart g s) := withScn_frame _ _

theorem resetEnded_frame (x : InputLevels) (s : State) :
    Unchanged [.scn, .afc, .lps, .ldu, .attention] (s.withInReset false) (resetEnded x s) :=
  ((((announceReset_frame _).weaken (by simp)).trans ((takeInputs_frame x _).weaken (by simp))).trans
    ((scanStart_frame _ _).weaken (by simp))).trans ((powerStart_frame _ _).weaken (by simp))

/-- Every home switch is taken from its input (R78). -/
theorem takeInputs_axis (x : InputLevels) (s : State) (a : Axis) :
    (takeInputs x s).axis a = { s.axis a with switch := x.homes.get a } :=
  overAxes_at (f := fun b t => takeSwitch b (x.homes.get b) t) (fun t => t.axis a)
    (fun r => { r with switch := x.homes.get a }) (fun t => State.setAxis_axis_self t a _)
    (fun _ hb t => State.setAxis_axis_of_ne t _ hb.symm) (s.withLps { s.lps with cover := x.cover })

theorem resetEnded_axis (x : InputLevels) (s : State) (a : Axis) :
    (resetEnded x s).axis a = { s.axis a with switch := x.homes.get a } := by
  have ldu : (resetEnded x s).ldu = (takeInputs x (announceReset (s.withInReset false))).ldu :=
    (((scanStart_frame _ _).weaken (m := [.scn, .attention, .lps, .afc]) (by simp)).trans
      ((powerStart_frame _ _).weaken (by simp))) .ldu (by simp)
  unfold State.axis at *
  rw [ldu]
  exact takeInputs_axis x _ a

/-- What a reset end gives with MAIN_GOOD high. -/
theorem resetEnded_of_good {x : InputLevels} (h : x.mainGood = true) (s : State) :
    (resetEnded x s).lps = startingFrom { s.lps with cover := x.cover } ∧
    FansKicked s (resetEnded x s) ∧ (resetEnded x s).scn.conversion = .sweep .lsh ∧
    (resetEnded x s).scn.channels = railChannels .waiting s.scn.channels ∧
    (resetEnded x s).pif.attnM = attentionWith (causeBit .partReset ||| causeBit .state) 0 ∧
    (resetEnded x s).pif.attnS = attentionWith (causeBit .partReset ||| causeBit .state) 0 := by
  unfold resetEnded
  rw [h]
  exact ⟨rfl, (enterStarting_kicked _).of_eq rfl, rfl, rfl, rfl, rfl⟩

/-- What a reset end gives with MAIN_GOOD low. -/
theorem resetEnded_of_low {x : InputLevels} (h : x.mainGood = false) (s : State) :
    (resetEnded x s).lps = { s.lps with cover := x.cover, cutOk := true } ∧
    (resetEnded x s).afc = s.afc ∧ (resetEnded x s).scn.conversion = .standby ∧
    (resetEnded x s).scn.channels = railChannels .unpowered s.scn.channels ∧
    (resetEnded x s).pif.attnM = attentionWith (causeBit .partReset) 0 ∧
    (resetEnded x s).pif.attnS = attentionWith (causeBit .partReset) 0 := by
  unfold resetEnded
  rw [h]
  exact ⟨rfl, rfl, rfl, rfl, rfl, rfl⟩

/-- Settles O6: the state before the build by the level of MAIN_GOOD, then the build request. -/
theorem resetEndStartsOperation : Obligations.ResetEndStartsOperation := by
  intro x s running
  obtain ⟨ldu, scn, lps, afc, inReset⟩ := requestBuild_keeps (resetEnded x s)
  obtain ⟨attnM, attnS⟩ := requestBuild_attention (resetEnded x s)
  have frame := resetEnded_frame x s
  have geo : (resetEnded x s).geo = s.geo := frame .geo (by simp)
  have whole : Unchanged [.inReset, .scn, .afc, .lps, .ldu, .geo, .bkm, .attention] s
      (requestBuild (resetEnded x s)) :=
    (((withInReset_frame s false).weaken (by simp)).trans (frame.weaken (by simp))).trans
      ((requestBuild_frame _).weaken (by simp))
  refine ⟨_, (exec_next _ s).trans (congrArg _ (endReset_eq running x)),
    whole, inReset.trans (frame .inReset (by simp)), ?_, fun a => ?_, ?_⟩
  · rw [lps]
    cases good : x.mainGood with
    | true => rw [(resetEnded_of_good good s).1]; rfl
    | false => rw [(resetEnded_of_low good s).1]
  · exact (congrArg (fun l => Ldu.axes l |>.get a) ldu).trans (resetEnded_axis x s a)
  have asked : BuildAsked s (requestBuild (resetEnded x s)) :=
    (requestBuild_asked _).of_eq geo.symm (frame .bkm (by simp)).symm
  have settings : (requestBuild (resetEnded x s)).geo.settings = s.geo.settings := by
    rw [requestBuild_settings, geo]
  have channel : ∀ c, (requestBuild (resetEnded x s)).channel c = (resetEnded x s).channel c :=
    fun c => by unfold State.channel; rw [scn]
  simp only [channel, lps, scn, attnM, attnS, settings, asked]
  cases good : x.mainGood with
  | true =>
    obtain ⟨lps', kicked, conv, channels, m, v⟩ := resetEnded_of_good good s
    rw [m, v, lps']
    obtain ⟨main, brd⟩ := channel_of_railChannels channels
    exact ⟨rfl, rfl, rfl, rfl, rfl, rfl, brd, trivial, trivial,
      fun _ => ⟨rfl, kicked.to_eq afc, conv, main⟩, fun k => by cases k⟩
  | false =>
    obtain ⟨lps', afc', conv, channels, m, v⟩ := resetEnded_of_low good s
    rw [m, v, lps']
    obtain ⟨main, brd⟩ := channel_of_railChannels channels
    exact ⟨rfl, rfl, rfl, rfl, rfl, rfl, brd, trivial, trivial, fun k => (by cases k),
      fun _ => ⟨rfl, afc.trans afc', conv, rfl, rfl, main⟩⟩

/-! ## The main-rail rise (R5, R37) -/

theorem scanRise_frame (s : State) : Unchanged [.scn] s (scanRise s) := withScn_frame _ _

theorem railRise_of_down (down : s.lps.power = .off) :
    railRise s = requestBuild (enterStarting (scanRise s)) := by
  unfold railRise
  rw [(mainRailUp_eq_false_iff s).mpr down]
  rfl

theorem railRise_of_up (up : s.lps.power ≠ .off) : railRise s = s := by
  unfold railRise
  rw [(mainRailUp_iff s).mpr up]
  rfl

/-- Settles O40: in OFF by the entry into STARTING after the Scan Unit's part, otherwise nothing
happens. -/
theorem mainRailRiseEntersStarting : Obligations.MainRailRiseEntersStarting := by
  intro s awake
  refine ⟨railRise s, exec_event rfl awake, fun down => ?_, railRise_of_up⟩
  rw [railRise_of_down down]
  have frame : Unchanged [.attention, .lps, .afc, .scn] s (enterStarting (scanRise s)) :=
    ((scanRise_frame s).weaken (by simp)).trans ((enterStarting_frame _).weaken (by simp))
  obtain ⟨-, scn, lps, afc, -⟩ := requestBuild_keeps (enterStarting (scanRise s))
  have rise : (enterStarting (scanRise s)).scn = (scanRise s).scn :=
    enterStarting_frame _ .scn (by simp)
  have channel : ∀ c, (requestBuild (enterStarting (scanRise s))).channel c =
      (scanRise s).channel c := fun c => by
    unfold State.channel
    rw [scn, rise]
  obtain ⟨main, brd⟩ := channel_of_railChannels (t := scanRise s) rfl
  refine ⟨(frame.weaken (by simp)).trans ((requestBuild_frame _).weaken (by simp)),
    (enterStarting_joined (scanRise s)).to_eq (requestBuild_attention _), lps,
    ((enterStarting_kicked (scanRise s)).of_eq rfl).to_eq afc, fun c hc => (channel c).trans (main c hc),
    (channel .brd).trans brd, ?_, ?_, ?_, requestBuild_settings _, (requestBuild_asked _).of_eq rfl rfl⟩
  all_goals
    rw [scn, rise]
    rfl

end Sys2Proof.Machine
end

section
/-! The main-rail loss. The Scan Unit, the fans and LPS go first; then the lens and the banks, in either
order. The lens is described field by field: what an end of a request changes in the records of MSC and
FDT, then what the loss makes of each axis. -/

namespace Sys2Proof.Machine

variable {s t u : State}

/-! ## What the end of a request changes in MSC and FDT -/

theorem endGroup_frame (o : GroupOutcome) (s : State) :
    Unchanged [.attention, .msc] s (endGroup o s) := by
  unfold endGroup
  split
  · exact .refl _ _
  · exact ((withMsc_frame s _).weaken (by simp)).trans ((raiseOn_frame _ _ _).weaken (by simp))

/-- A change of the group record: nothing but MSC and the causes changes, and in MSC neither the last
results, nor the pointer, nor which axes have a pending record. -/
structure GroupStep (s t : State) : Prop where
  frame : Unchanged [.attention, .msc] s t
  last : t.msc.last = s.msc.last
  favoured : t.msc.favoured = s.msc.favoured
  pending : ∀ a, (t.msc.pending.get a).isNone = (s.msc.pending.get a).isNone

theorem GroupStep.refl (s : State) : GroupStep s s := ⟨.refl _ _, rfl, rfl, fun _ => rfl⟩

theorem GroupStep.trans (h : GroupStep s t) (k : GroupStep t u) : GroupStep s u :=
  ⟨h.frame.trans k.frame, k.last.trans h.last, k.favoured.trans h.favoured,
    fun a => (k.pending a).trans (h.pending a)⟩

theorem setProgress_step (a : Axis) (p : Progress) (s : State) : GroupStep s (setProgress a p s) := by
  unfold setProgress
  split
  · exact .refl s
  · exact ⟨(withMsc_frame s _).weaken (by simp), rfl, rfl, fun _ => rfl⟩

theorem endGroup_step (o : GroupOutcome) (s : State) : GroupStep s (endGroup o s) := by
  refine ⟨endGroup_frame o s, ?_, ?_, fun a => ?_⟩ <;> unfold endGroup <;> split <;> try rfl
  simp [raiseOn, clearMembers]

theorem settleGroup_step (s : State) : GroupStep s (settleGroup s) := by
  unfold settleGroup
  split
  · exact .refl s
  · split
    · exact endGroup_step _ s
    · exact .refl s

theorem tellGroup_step (a : Axis) (e : MoveEnd) (s : State) : GroupStep s (tellGroup a e s) := by
  have progress := setProgress_step a (progressOf e.outcome) s
  unfold tellGroup
  split
  · unfold memberEnd
    dsimp only
    split
    · exact progress.trans (settleGroup_step _)
    · split
      · exact progress.trans (endGroup_step _ _)
      · exact progress
  · exact .refl s

theorem focusEnd_frame (e : MoveEnd) (s : State) : Unchanged [.fdt] s (focusEnd e s) := by
  have settled : ∀ x, Unchanged [.fdt] s (settleTracker (s.withFdt x)) := fun x =>
    (withFdt_frame s x).trans (withFdt_frame _ _)
  unfold focusEnd
  split
  · exact settled _
  · exact settled _
  · exact settled _
  · exact .refl _ _

theorem tellFocus_frame (a : Axis) (e : MoveEnd) (s : State) : Unchanged [.fdt] s (tellFocus a e s) := by
  unfold tellFocus
  split
  · exact focusEnd_frame e s
  · exact .refl _ _

theorem geoMoveEnd_frame (a : Axis) (h : Bool) (f : Option Int) (s : State) :
    Unchanged [.geo, .bkm] s (geoMoveEnd a h f s) := by
  unfold geoMoveEnd
  split
  · exact .refl _ _
  · split
    · exact requestBuild_frame s
    · exact .refl _ _

theorem raiseOnIssuer_frame (c : Cause) (p : Option Port) (s : State) :
    Unchanged [.attention] s (raiseOnIssuer c p s) := by
  cases p with
  | none => exact .refl _ _
  | some p => exact raiseOn_frame c p s

/-- The state in which MSC has recorded an end and told the group. -/
def endTold (a : Axis) (e : MoveEnd) (s : State) : State :=
  tellGroup a e (raiseOnIssuer .move e.book.port (recordResult a e s))

/-- What the end of a request changes in MSC: the axis's last result, and the group. -/
theorem recordEnd_msc (a : Axis) (e : MoveEnd) (s : State) :
    (recordEnd a e s).msc.last = s.msc.last.set a ⟨e.tag, e.source, some e.outcome, e.final⟩ ∧
    (recordEnd a e s).msc.favoured = s.msc.favoured ∧
    ∀ b, ((recordEnd a e s).msc.pending.get b).isNone = (s.msc.pending.get b).isNone := by
  have after : (recordEnd a e s).msc = (endTold a e s).msc :=
    ((((tellFocus_frame a e _).weaken (m := [.fdt, .geo, .bkm]) (by simp)).trans
      ((geoMoveEnd_frame a (homedBy e) e.final _).weaken (by simp))) .msc (by simp))
  have raised : (raiseOnIssuer .move e.book.port (recordResult a e s)).msc = (recordResult a e s).msc :=
    raiseOnIssuer_frame _ _ _ .msc (by simp)
  obtain ⟨-, last, favoured, pending⟩ :=
    tellGroup_step a e (raiseOnIssuer .move e.book.port (recordResult a e s))
  rw [raised] at last favoured pending
  rw [after]
  exact ⟨last, favoured, pending⟩

/-- The tracker's settings: what a main-rail loss leaves of its record (R113). -/
def sameAnchor (x y : Fdt) : Prop :=
  y.enable = x.enable ∧ y.anchor = x.anchor ∧ y.correction = x.correction

theorem sameAnchor.refl (x : Fdt) : sameAnchor x x := ⟨rfl, rfl, rfl⟩

theorem sameAnchor.trans {x y z : Fdt} (h : sameAnchor x y) (k : sameAnchor y z) :
    sameAnchor x z := by
  obtain ⟨enable, anchor, correction⟩ := h
  obtain ⟨enable', anchor', correction'⟩ := k
  exact ⟨enable'.trans enable, anchor'.trans anchor, correction'.trans correction⟩

/-- A request lost with the power leaves anchor and correction as they were (R112, R113). -/
theorem focusEnd_powerLost {e : MoveEnd} (he : e.outcome = .powerLost) (s : State) :
    sameAnchor s.fdt (focusEnd e s).fdt := by
  unfold focusEnd
  split
  · refine ⟨rfl, rfl, ?_⟩
    unfold driftEnd
    rw [he]
    exact Int.add_zero _
  · rename_i done _
    exact absurd (he.symm.trans done) (by decide)
  · rename_i done _
    exact absurd (he.symm.trans done) (by decide)
  · exact .refl _

theorem recordEnd_powerLost {e : MoveEnd} (he : e.outcome = .powerLost) (a : Axis) (s : State) :
    sameAnchor s.fdt (recordEnd a e s).fdt := by
  have before : (endTold a e s).fdt = s.fdt :=
    (((withMsc_frame s _).weaken (m := [.attention, .msc]) (by simp)).trans
      (((raiseOnIssuer_frame _ _ _).weaken (by simp)).trans (tellGroup_step a e _).frame)) .fdt (by simp)
  have told : sameAnchor (endTold a e s).fdt (tellFocus a e (endTold a e s)).fdt := by
    unfold tellFocus
    split
    · exact focusEnd_powerLost he _
    · exact .refl _
  have after : (recordEnd a e s).fdt = (tellFocus a e (endTold a e s)).fdt :=
    geoMoveEnd_frame a (homedBy e) e.final _ .fdt (by simp)
  rw [after, ← before]
  exact told

/-! ## One axis at the loss (R80, R95) -/

theorem setRequest_pending_self (a : Axis) (s : State) :
    (setRequest a none s).msc.pending.get a = none := PerAxis.get_set_self _ _ _

theorem setRequest_pending_of_ne {a b : Axis} (h : b ≠ a) (r : Option Request) (s : State) :
    (setRequest a r s).msc.pending.get b = s.msc.pending.get b := PerAxis.get_set_of_ne _ _ h

/-- A pending record that leaves the list changes nothing of another axis in MSC. -/
theorem dropRequest_msc (a : Axis) (o : MoveOutcome) (s : State) :
    (dropRequest a o s).msc.favoured = s.msc.favoured ∧
    ((dropRequest a o s).msc.pending.get a).isNone = true ∧
    ∀ b, b ≠ a → (dropRequest a o s).msc.last.get b = s.msc.last.get b ∧
      ((dropRequest a o s).msc.pending.get b).isNone = (s.msc.pending.get b).isNone := by
  unfold dropRequest
  split
  · rename_i none
    exact ⟨rfl, by rw [none]; rfl, fun _ _ => ⟨rfl, rfl⟩⟩
  · rename_i r _
    obtain ⟨last, favoured, pending⟩ :=
      recordEnd_msc a (endOfPending (setRequest a none s) r o) (setRequest a none s)
    refine ⟨favoured, by rw [pending, setRequest_pending_self]; rfl, fun b hb => ⟨?_, ?_⟩⟩
    · rw [last, PerAxis.get_set_of_ne _ _ hb]
      rfl
    · rw [pending, setRequest_pending_of_ne hb]

/-- What the loss does on one axis leaves the records of another. -/
theorem lossEnd_msc (before : State) (a : Axis) (s : State) :
    (lossEnd before a s).msc.favoured = s.msc.favoured ∧
    ∀ b, b ≠ a → (lossEnd before a s).msc.last.get b = s.msc.last.get b ∧
      ((lossEnd before a s).msc.pending.get b).isNone = (s.msc.pending.get b).isNone := by
  unfold lossEnd
  split
  · obtain ⟨last, favoured, pending⟩ := recordEnd_msc a
      (endOfForce (before.axis a) (bookOf s a) .powerLost none) (setInForce a none s)
    refine ⟨favoured, fun b hb => ⟨?_, pending b⟩⟩
    rw [last, PerAxis.get_set_of_ne _ _ hb]
    rfl
  · obtain ⟨favoured, -, others⟩ := dropRequest_msc a .powerLost s
    exact ⟨favoured, others⟩

/-- An axis in motion ends POWER_LOST without a final position; what waits on it is left. -/
theorem lossEnd_of_inMotion {before : State} {a : Axis} (h : inMotion before a = true) (s : State) :
    ((lossEnd before a s).msc.last.get a).outcome = some .powerLost ∧
    ((lossEnd before a s).msc.last.get a).final = none ∧
    ((lossEnd before a s).msc.pending.get a).isNone = (s.msc.pending.get a).isNone := by
  obtain ⟨last, -, pending⟩ := recordEnd_msc a
    (endOfForce (before.axis a) (bookOf s a) .powerLost none) (setInForce a none s)
  unfold lossEnd lostByRail
  rw [if_pos h, last, PerAxis.get_set_self]
  exact ⟨rfl, rfl, pending a⟩

/-- A request that waits on an axis at rest leaves the list. -/
theorem lossEnd_of_atRest {before : State} {a : Axis} (h : inMotion before a = false) (s : State) :
    ((lossEnd before a s).msc.pending.get a).isNone = true := by
  unfold lossEnd lostByRail
  rw [if_neg (by simp [h])]
  obtain ⟨-, empty, -⟩ := dropRequest_msc a .powerLost s
  exact empty

theorem lossEnd_frame (before : State) (a : Axis) (s : State) :
    Unchanged [.attention, .msc, .fdt, .geo, .bkm] s (lossEnd before a s) := by
  unfold lossEnd
  split
  · exact recordEnd_keeps (end_frame s) _ _ (setInForce_keeps (end_frame s) _ _ (.refl _ _))
  · exact dropRequest_keeps (end_frame s) _ _ (.refl _ _)

theorem lossEnd_tracker (before : State) (a : Axis) (s : State) :
    sameAnchor s.fdt (lossEnd before a s).fdt := by
  unfold lossEnd
  split
  · exact recordEnd_powerLost rfl a (setInForce a none s)
  · unfold dropRequest
    split
    · exact .refl _
    · exact recordEnd_powerLost rfl a (setRequest a none s)

/-! ## The lens as a whole -/

theorem dropAxis_frame (a : Axis) (s : State) : Unchanged [.ldu] s (dropAxis a s) := by
  unfold dropAxis
  split
  · exact setAxis_frame _ _ _
  · exact .refl _ _

theorem dropAxes_frame (s : State) : Unchanged [.ldu] s (dropAxes s) :=
  overAxes_keeps (P := Unchanged [.ldu] s) (fun a t ht => ht.trans (dropAxis_frame a t)) (.refl _ _)

/-- An axis record after a main-rail loss (R80). -/
def AxisRecord.afterLoss (r : AxisRecord) : AxisRecord :=
  if r.state == .moving || r.state == .homing then r.becomeLost else r

theorem dropAxis_axis_self (a : Axis) (s : State) :
    (dropAxis a s).axis a = (s.axis a).afterLoss := by
  unfold dropAxis inMotion AxisRecord.afterLoss
  split
  · exact State.setAxis_axis_self _ _ _
  · rfl

theorem dropAxis_axis_of_ne {a b : Axis} (h : b ≠ a) (s : State) :
    (dropAxis a s).axis b = s.axis b := by
  unfold dropAxis
  split
  · exact State.setAxis_axis_of_ne _ _ h
  · rfl

/-- The state of the lens before any end is handed on (log 29). -/
def lensDropped (s : State) : State := dropAxes (dropRemainders s)

theorem lensDropped_msc (s : State) : (lensDropped s).msc = (dropRemainders s).msc :=
  dropAxes_frame _ .msc (by simp)

theorem lensLoss_axis (s : State) (a : Axis) : (lensLoss s).axis a = (s.axis a).afterLoss := by
  have ldu : (lensLoss s).ldu = (lensDropped s).ldu :=
    overAxes_keeps (P := fun t => t.ldu = (lensDropped s).ldu) (f := fun a t => lossEnd s a t)
      (fun a t ht => (lossEnd_frame s a t .ldu (by simp)).trans ht) rfl
  unfold State.axis
  rw [ldu]
  exact overAxes_at (f := dropAxis) (fun t => t.axis a) AxisRecord.afterLoss (dropAxis_axis_self a)
    (fun _ hb t => dropAxis_axis_of_ne hb.symm t) (dropRemainders s)

/-- An axis in motion ends POWER_LOST, whichever ends are handed on after its own. -/
theorem lensLoss_last {a : Axis} (h : inMotion s a = true) :
    ((lensLoss s).msc.last.get a).outcome = some .powerLost ∧
    ((lensLoss s).msc.last.get a).final = none := by
  have recorded : ∀ t, ((lossEnd s a t).msc.last.get a).outcome = some .powerLost ∧
      ((lossEnd s a t).msc.last.get a).final = none := fun t => by
    obtain ⟨outcome, final, -⟩ := lossEnd_of_inMotion h t
    exact ⟨outcome, final⟩
  have others : ∀ b, b ≠ a → ∀ t, (lossEnd s b t).msc.last.get a = t.msc.last.get a :=
    fun b hb t => ((lossEnd_msc s b t).2 a hb.symm).1
  exact ⟨overAxes_at (f := lossEnd s) (fun t => (t.msc.last.get a).outcome) (fun _ => some .powerLost)
      (fun t => (recorded t).1) (fun b hb t => by rw [others b hb]) (lensDropped s),
    overAxes_at (f := lossEnd s) (fun t => (t.msc.last.get a).final) (fun _ => none)
      (fun t => (recorded t).2) (fun b hb t => by rw [others b hb]) (lensDropped s)⟩

theorem dropRemainders_pending (s : State) (a : Axis) :
    (dropRemainders s).msc.pending.get a = if yielded s a then none else s.msc.pending.get a := by
  cases a <;> rfl

/-- Nothing waits after the loss, where a MOVING axis has at most the remainder of its own move pending. -/
theorem lensLoss_pending
    (h : ∀ a, inMotion s a = true → yielded s a = false → s.msc.pending.get a = none) :
    NonePending (lensLoss s) := by
  have others : ∀ a b : Axis, b ≠ a → ∀ t, ((lossEnd s b t).msc.pending.get a).isNone =
      (t.msc.pending.get a).isNone := fun a b hb t => ((lossEnd_msc s b t).2 a hb.symm).2
  intro a
  rw [← Option.isNone_iff_eq_none]
  cases moving : inMotion s a with
  | false =>
    exact overAxes_at (f := lossEnd s) (fun t => (t.msc.pending.get a).isNone) (fun _ => true)
      (lossEnd_of_atRest moving) (others a) (lensDropped s)
  | true =>
    have left : ∀ t, ((lossEnd s a t).msc.pending.get a).isNone = (t.msc.pending.get a).isNone :=
      fun t => by
        obtain ⟨-, -, same⟩ := lossEnd_of_inMotion moving t
        exact same
    refine (overAxes_at (f := lossEnd s) (fun t => (t.msc.pending.get a).isNone) id left (others a)
      (lensDropped s)).trans ?_
    rw [id, lensDropped_msc, dropRemainders_pending]
    cases remainder : yielded s a with
    | true => rfl
    | false => simp [h a moving remainder]

theorem lensLoss_favoured (s : State) : (lensLoss s).msc.favoured = s.msc.favoured :=
  overAxes_keeps (P := fun t => t.msc.favoured = s.msc.favoured) (f := fun a t => lossEnd s a t)
    (fun a t ht => (lossEnd_msc s a t).1.trans ht) (s := lensDropped s) (by rw [lensDropped_msc]; rfl)

theorem lensLoss_tracker (s : State) : sameAnchor s.fdt (lensLoss s).fdt := by
  have dropped : (lensDropped s).fdt = s.fdt := dropAxes_frame _ .fdt (by simp)
  exact overAxes_keeps (P := fun t => sameAnchor s.fdt t.fdt) (f := fun a t => lossEnd s a t)
    (fun a t ht => ht.trans (lossEnd_tracker s a t)) (s := lensDropped s)
    (by rw [dropped]; exact .refl _)

/-! ## The banks at the loss (R149) -/

theorem PerBank.get_set {α : Type} (x : PerBank α) (i j : BankId) (y : α) :
    (x.set i y).get j = if j = i then y else x.get j := by cases i <;> cases j <;> rfl

theorem mem_allBanks (i : BankId) : i ∈ allBanks := by cases i <;> simp [allBanks]

theorem role_of_bankIn {b : PerBank Bank} {r : Role} {i : BankId} (h : bankIn b r = some i) :
    (b.get i).role = r := by simpa using List.find?_some h

theorem bankIn_eq_none_iff (b : PerBank Bank) (r : Role) :
    bankIn b r = none ↔ ∀ i, (b.get i).role ≠ r := by
  simp [bankIn, List.find?_eq_none, mem_allBanks]

@[simp] theorem Bank.emptied_role (b : Bank) (r : Role) : (b.emptied r).role = r := rfl

/-- At most one bank is LIVE, and a LOANED one is the bank of the loan: what `BankLaw` says of the
two roles that a loss empties. -/
def Bkm.OneEach (x : Bkm) : Prop :=
  (∀ i j, (x.banks.get i).role = .live → (x.banks.get j).role = .live → i = j) ∧
  ∀ i, (x.banks.get i).role = .loaned → x.loan.map Loan.bank = some i

theorem BankLaw.oneEach (h : BankLaw s) : s.bkm.OneEach := by
  obtain ⟨-, unique, -, -, loan, -⟩ := h
  refine ⟨unique .live (by decide), fun i hi => ?_⟩
  rw [loan]
  cases hb : bankIn s.bkm.banks .loaned with
  | none => exact absurd hi ((bankIn_eq_none_iff _ _).mp hb i)
  | some j => rw [unique .loaned (by decide) j i (role_of_bankIn hb) hi]

/-- No bank is LIVE or LOANED. -/
def Bkm.Withdrawn (x : Bkm) : Prop :=
  ∀ i, (x.banks.get i).role ≠ .live ∧ (x.banks.get i).role ≠ .loaned

/-- The loan and the two counters of a bank record are the given ones. -/
def Bkm.Counts (l : Option Loan) (counter expiries : Nat) (x : Bkm) : Prop :=
  x.loan = l ∧ x.counter = counter ∧ x.expiries = expiries

/-- The bank for a build is one that was IDLE or READY; loan and counters stay. -/
theorem takeForBuild_cases (x : Bkm) : x.takeForBuild = x ∨
    ∃ i, x.takeForBuild = x.withBanks (x.banks.set i ((x.banks.get i).emptied .build)) := by
  unfold Bkm.takeForBuild
  split
  · exact .inr ⟨_, rfl⟩
  · exact .inr ⟨_, rfl⟩
  · exact .inl rfl

/-- A bank is given a role that is neither LIVE nor LOANED: no bank becomes either. -/
theorem role_of_set {b : PerBank Bank} {i j : BankId} {y : Bank} {r : Role} (hy : y.role ≠ r)
    (h : ((b.set i y).get j).role = r) : j ≠ i ∧ (b.get j).role = r := by
  rw [PerBank.get_set] at h
  split at h
  · exact absurd h hy
  · exact ⟨‹_›, h⟩

theorem Bkm.OneEach.takeForBuild {x : Bkm} (h : x.OneEach) : x.takeForBuild.OneEach := by
  obtain ⟨live, loaned⟩ := h
  rcases takeForBuild_cases x with same | ⟨i, taken⟩
  · rw [same]
    exact ⟨live, loaned⟩
  · rw [taken]
    exact ⟨fun j k hj hk => live j k (role_of_set (by simp) hj).2 (role_of_set (by simp) hk).2,
      fun j hj => loaned j (role_of_set (by simp) hj).2⟩

theorem Bkm.Withdrawn.takeForBuild {x : Bkm} (h : x.Withdrawn) : x.takeForBuild.Withdrawn := by
  rcases takeForBuild_cases x with same | ⟨i, taken⟩
  · rw [same]
    exact h
  · rw [taken]
    exact fun j => ⟨fun hj => (h j).1 (role_of_set (by simp) hj).2,
      fun hj => (h j).2 (role_of_set (by simp) hj).2⟩

theorem Bkm.Counts.takeForBuild {x : Bkm} {l : Option Loan} {c e : Nat} (h : x.Counts l c e) :
    x.takeForBuild.Counts l c e := by
  rcases takeForBuild_cases x with same | ⟨i, taken⟩
  · rwa [same]
  · rwa [taken]

/-- The lens changes the banks by builds alone. -/
theorem bkm_lens {Q : Bkm → Prop} (h : ∀ x, Q x → Q x.takeForBuild) :
    LensClosed (fun t => Q t.bkm) where
  msc _ _ _ hs := hs
  fdt _ _ hs := hs
  raise _ _ _ hs := hs
  build t hs := by
    unfold requestBuild
    split
    · exact hs
    · exact h _ hs
  axis _ _ _ _ hs := hs
  take _ _ _ _ _ _ _ _ hs := hs
  mark _ hs := hs

/-- The release of a loan makes its bank READY or IDLE. -/
theorem release_of_loan {x : Bkm} {l : Loan} (h : x.loan = some l) :
    ∃ y : Bank, (y.role = .ready ∨ y.role = .idle) ∧ x.release.banks = x.banks.set l.bank y := by
  unfold Bkm.release
  rw [h]
  dsimp only
  split
  · exact ⟨_, .inl rfl, rfl⟩
  · exact ⟨_, .inr rfl, rfl⟩

theorem release_counts (x : Bkm) : x.release.Counts none x.counter x.expiries := by
  unfold Bkm.release
  split
  · exact ⟨‹_›, rfl, rfl⟩
  · dsimp only
    split <;> exact ⟨rfl, rfl, rfl⟩

/-- After a release no bank is LOANED, and still at most one LIVE. -/
theorem Bkm.OneEach.release {x : Bkm} (h : x.OneEach) :
    (∀ i j, (x.release.banks.get i).role = .live → (x.release.banks.get j).role = .live → i = j) ∧
    ∀ i, (x.release.banks.get i).role ≠ .loaned := by
  obtain ⟨live, loaned⟩ := h
  cases hl : x.loan with
  | none =>
    have same : x.release = x := by
      unfold Bkm.release
      rw [hl]
    rw [same]
    refine ⟨live, fun i hi => ?_⟩
    have none := loaned i hi
    rw [hl] at none
    cases none
  | some l =>
    obtain ⟨y, hy, banks⟩ := release_of_loan hl
    have notLive : y.role ≠ .live := by rcases hy with h | h <;> simp [h]
    have notLoaned : y.role ≠ .loaned := by rcases hy with h | h <;> simp [h]
    rw [banks]
    refine ⟨fun i j hi hj => live i j (role_of_set notLive hi).2 (role_of_set notLive hj).2,
      fun i hi => ?_⟩
    obtain ⟨other, was⟩ := role_of_set notLoaned hi
    have its := loaned i was
    rw [hl] at its
    exact other (Option.some.inj its).symm

theorem railLoss_counts (x : Bkm) : x.railLoss.Counts none x.counter x.expiries := by
  unfold Bkm.railLoss
  dsimp only
  split
  · exact release_counts x
  · exact release_counts x

/-- A loss withdraws the LOANED and the LIVE table. -/
theorem Bkm.OneEach.railLoss {x : Bkm} (h : x.OneEach) : x.railLoss.Withdrawn := by
  obtain ⟨live, loaned⟩ := h.release
  unfold Bkm.railLoss
  dsimp only
  split
  · rename_i none
    exact fun i => ⟨(bankIn_eq_none_iff _ _).mp none i, loaned i⟩
  · rename_i i hi
    refine fun j => ⟨fun hj => ?_, fun hj => loaned j (role_of_set (by simp) hj).2⟩
    obtain ⟨other, was⟩ := role_of_set (by simp) hj
    exact other (live j i was (role_of_bankIn hi))

/-! ## The whole loss -/

/-- The state at a loss in which the Scan Unit, the fans and LPS have acted (R4, R32, R39). -/
def darkened (s : State) : State := lightLoss (stopFans (scanLoss s))

/-- The lens and the banks act in some order: the lens on what the banks left, or the other way
round. The banks end as said, and nothing but a build changes them beside (log 3). -/
theorem railLoss_eq (up : s.lps.power ≠ .off) : ∃ x y n,
    railLoss s = setTracker .suspended
      (((lensLoss ((darkened s).withBkm x)).withBkm y).withChoices n) ∧
    y.Counts none s.bkm.counter s.bkm.expiries ∧ (BankLaw s → y.Withdrawn) := by
  have counts_lens := bkm_lens (Q := Bkm.Counts none s.bkm.counter s.bkm.expiries)
    fun _ h => h.takeForBuild
  have banksFirst : (lensLoss (bankLoss (darkened s))).bkm.Counts none s.bkm.counter s.bkm.expiries ∧
      (BankLaw s → (lensLoss (bankLoss (darkened s))).bkm.Withdrawn) :=
    ⟨lensLoss_keeps counts_lens (s := bankLoss (darkened s)) (railLoss_counts s.bkm),
      fun law => lensLoss_keeps (bkm_lens fun _ h => h.takeForBuild) (s := bankLoss (darkened s))
        law.oneEach.railLoss⟩
  have lensFirst : (lensLoss (darkened s)).bkm.railLoss.Counts none s.bkm.counter s.bkm.expiries ∧
      (BankLaw s → (lensLoss (darkened s)).bkm.railLoss.Withdrawn) := by
    obtain ⟨-, counter, expiries⟩ := lensLoss_keeps
      (bkm_lens (Q := Bkm.Counts s.bkm.loan s.bkm.counter s.bkm.expiries) fun _ h => h.takeForBuild)
      (s := darkened s) ⟨rfl, rfl, rfl⟩
    refine ⟨?_, fun law => Bkm.OneEach.railLoss (lensLoss_keeps
      (bkm_lens fun _ h => h.takeForBuild) (s := darkened s) law.oneEach)⟩
    have after := railLoss_counts (lensLoss (darkened s)).bkm
    rwa [counter, expiries] at after
  have step : railLoss s = setTracker .suspended
      (eitherOrder (fun t => lensLoss (bankLoss t)) (fun t => bankLoss (lensLoss t)) (darkened s)) := by
    unfold railLoss
    rw [if_pos ((mainRailUp_iff s).mpr up)]
    rfl
  rw [step]
  unfold eitherOrder bankLoss at *
  dsimp only
  split
  · refine ⟨(darkened s).bkm.railLoss, _,
      (lensLoss ((darkened s).withBkm (darkened s).bkm.railLoss)).choices, ?_, banksFirst⟩
    rw [State.withBkm_self, State.withChoices_self]
  · split
    · refine ⟨(darkened s).bkm.railLoss, _, (darkened s).choices + 1, ?_, banksFirst⟩
      rw [State.withBkm_self]
    · refine ⟨(darkened s).bkm, _, (darkened s).choices + 1, ?_, lensFirst⟩
      rw [State.withBkm_self]

theorem lightLoss_frame (s : State) : Unchanged [.attention, .lps] s (lightLoss s) :=
  (enterPower_frame .off s).trans ((withLps_frame _ _).weaken (by simp))

theorem darkened_frame (s : State) : Unchanged [.attention, .scn, .afc, .lps] s (darkened s) :=
  (((withScn_frame s _).weaken (by simp)).trans ((withAfc_frame _ _).weaken (by simp))).trans
    ((lightLoss_frame _).weaken (by simp))

/-- LPS at a loss: OFF with the light off, the cut allowed, the loss unplanned unless it came in COOLED
(R39). -/
theorem darkened_lps (s : State) : (darkened s).lps = { darkIn s.lps .off with
    latch := false, proven := false, cooling := none,
    unplanned := s.lps.unplanned || s.lps.power != .cooled } := rfl

theorem darkened_held (s : State) : HeldOnBoth .state (darkened s) :=
  raiseBoth_held .state ((stopFans (scanLoss s)).withLps ((stopFans (scanLoss s)).lps.entering .off))

theorem darkened_fan (s : State) (f : Fan) :
    (darkened s).afc.fans.get f = unpowered (s.afc.fans.get f) := PerFan.get_map _ _ _

/-- A driven fan stops at a loss (R32). -/
theorem unpowered_of_driven {r : FanRecord}
    (h : r.state = .kick ∨ r.state = .proving ∨ r.state = .running) :
    unpowered r = { r with state := .stopped, duty := 0, kick := 0, proving := 0, stall := 0 } := by
  unfold unpowered
  rcases h with h | h | h <;> rw [h]

/-- A fan that is not driven keeps its state at a loss (R32). -/
theorem unpowered_of_undriven {r : FanRecord} (h : r.state = .stopped ∨ r.state = .failed) :
    unpowered r = { r with duty := 0 } := by
  unfold unpowered
  rcases h with h | h <;> rw [h]

theorem afterLoss_of_inMotion {a : Axis} (h : inMotion s a = true) :
    (s.axis a).afterLoss = (s.axis a).becomeLost := if_pos h

theorem afterLoss_of_atRest {a : Axis} (h : inMotion s a = false) :
    (s.axis a).afterLoss = s.axis a := if_neg (by rw [← Bool.not_eq_true] at h; exact h)

/-- A cause that is held stays held through the operations of the lens. -/
theorem held_lens (d : Cause) : LensClosed (HeldOnBoth d) where
  msc _ _ _ h := h
  fdt _ _ h := h
  raise _ c p h := h.raiseOn c p
  build := (held_closed d).build
  axis _ _ _ _ h := h
  take _ _ _ _ _ _ _ _ h := h
  mark _ h := h

theorem inMotion_of_ldu (h : t.ldu = s.ldu) (a : Axis) : inMotion t a = inMotion s a := by
  unfold inMotion State.axis
  rw [h]

theorem yielded_of_ldu (h : t.ldu = s.ldu) (a : Axis) : yielded t a = yielded s a := by
  unfold yielded State.axis
  rw [h]

/-- The lens at a loss, seen from a state with the same axes and requests: what the loss makes of an axis
in motion, that the others stay, and that nothing waits. -/
theorem lensLoss_effect (hl : t.ldu = s.ldu) (hm : t.msc = s.msc) :
    (∀ a, inMotion s a = true → (lensLoss t).axis a = (s.axis a).becomeLost ∧
      ((lensLoss t).msc.last.get a).outcome = some .powerLost ∧
      ((lensLoss t).msc.last.get a).final = none) ∧
    (∀ a, inMotion s a = false → (lensLoss t).axis a = s.axis a) ∧
    ((∀ a, inMotion s a = true → yielded s a = false → s.msc.pending.get a = none) →
      NonePending (lensLoss t)) ∧
    (lensLoss t).msc.favoured = s.msc.favoured := by
  have axis : ∀ a, (lensLoss t).axis a = (s.axis a).afterLoss := fun a => by
    rw [lensLoss_axis, State.axis, hl, State.axis]
  refine ⟨fun a moving => ⟨(axis a).trans (afterLoss_of_inMotion moving),
    lensLoss_last ((inMotion_of_ldu hl a).trans moving)⟩,
    fun a rest => (axis a).trans (afterLoss_of_atRest rest), fun free => lensLoss_pending fun a => ?_,
    (lensLoss_favoured t).trans (congrArg Msc.favoured hm)⟩
  rw [inMotion_of_ldu hl, yielded_of_ldu hl, hm]
  exact free a

/-- Settles O39: the record of each block before the lens acts, what the lens makes of it, and the banks
in either order. -/
theorem mainRailLossStopsEverythingOnTheRail : Obligations.MainRailLossStopsEverythingOnTheRail := by
  intro s awake up
  obtain ⟨x, y, n, hloss, ⟨loan, counter, expiries⟩, withdrawn⟩ := railLoss_eq up
  have dark : Unchanged [.attention, .scn, .afc, .lps, .bkm] s ((darkened s).withBkm x) :=
    ((darkened_frame s).weaken (by simp)).trans ((withBkm_frame _ _).weaken (by simp))
  have darkScn : ((darkened s).withBkm x).scn = (darkened s).scn := rfl
  have darkLps : ((darkened s).withBkm x).lps = (darkened s).lps := rfl
  have darkAfc : ((darkened s).withBkm x).afc = (darkened s).afc := rfl
  have darkHeld : HeldOnBoth .state ((darkened s).withBkm x) := darkened_held s
  generalize (darkened s).withBkm x = v at *
  have frame := lensLoss_keeps (lens_frame v) (.refl _ _)
  have kept : Unchanged [.attention, .scn, .afc, .lps, .bkm, .ldu, .msc, .fdt, .geo] s (lensLoss v) :=
    (dark.weaken (by simp)).trans (frame.weaken (by simp))
  have lps : (lensLoss v).lps = (darkened s).lps := (frame .lps (by simp)).trans darkLps
  have afc : (lensLoss v).afc = (darkened s).afc := (frame .afc (by simp)).trans darkAfc
  have held := lensLoss_keeps (held_lens .state) darkHeld
  have scn : MotionOnly (darkened s) (lensLoss v) :=
    lensLoss_keeps (motionOnly_lens _) (MotionOnly.of_scn darkScn)
  have settings := lensLoss_keeps (lens_settings s.geo.settings)
    (congrArg Geo.settings (dark .geo (by simp)))
  have tracker := lensLoss_tracker v
  rw [dark .fdt (by simp)] at tracker
  obtain ⟨moving, rest, pending, favoured⟩ :=
    lensLoss_effect (t := v) (dark .ldu (by simp)) (dark .msc (by simp))
  generalize lensLoss v = u at *
  obtain ⟨main, brd⟩ := channel_of_railChannels (t := darkened s) (k := .unpowered)
    (x := s.scn.channels) rfl
  have fan : ∀ f, u.afc.fans.get f = unpowered (s.afc.fans.get f) := fun f => by
    rw [afc, darkened_fan]
  obtain ⟨mode, pulses, heat⟩ : u.afc.mode = s.afc.mode ∧ u.afc.pulses = s.afc.pulses ∧
      u.afc.heat = s.afc.heat := by
    rw [afc]
    exact ⟨rfl, rfl, rfl⟩
  obtain ⟨window, tangent, detected⟩ : u.scn.window = [] ∧ u.scn.tangent = s.scn.tangent ∧
      u.scn.detected = s.scn.detected := by
    rw [scn]
    exact ⟨rfl, rfl, rfl⟩
  obtain ⟨enable, anchor, correction⟩ := tracker
  obtain ⟨heldM, heldS⟩ := held
  have hstep : exec .mainRailLoss s =
      .next (setTracker .suspended ((u.withBkm y).withChoices n)) := by
    rw [exec_event (f := railLoss) rfl awake, hloss]
  refine ⟨_, hstep, lps.trans (darkened_lps s), heldM, heldS, mode, pulses, heat,
    fun f => ⟨fun h => (fan f).trans (unpowered_of_driven h),
      fun h => (fan f).trans (unpowered_of_undriven h)⟩,
    fun c hc => (scn.channel c).trans (main c hc), (scn.channel .brd).trans brd, window, tangent, detected,
    fun a hm => ?_, rest, pending, favoured, rfl, enable, anchor, correction, withdrawn, loan, counter,
    expiries, settings, kept .ptb (by simp), kept .nvs (by simp), kept .prf (by simp),
    kept .ports (by simp), kept .queue (by simp), kept .inReset (by simp)⟩
  obtain ⟨lost, outcome, final⟩ := moving a hm
  have record : (setTracker .suspended ((u.withBkm y).withChoices n)).axis a = (s.axis a).becomeLost := lost
  rw [record]
  exact ⟨rfl, rfl, rfl, rfl, rfl, outcome, final⟩

end Sys2Proof.Machine
end

section
/-! The rows of the Airflow Controller: a tachometer pulse, the proving deadline and a gate end. A trip is
said once, for the deadline, the gate end and the sweep end alike. -/

namespace Sys2Proof.Machine

variable {s t : State}

/-! ## Tachometer pulses (R25) -/

theorem countPulse_of_wide {f : Fan} {width : Nat} (h : 100 * rejectWidth s ≤ (width : Int)) :
    countPulse f width s = s.withAfc
      { s.afc with pulses := s.afc.pulses.set f (s.afc.pulses.get f + 1) } := if_pos h

theorem countPulse_of_narrow {f : Fan} {width : Nat} (h : (width : Int) < 100 * rejectWidth s) :
    countPulse f width s = s := if_neg (by omega)

theorem countPulse_frame (f : Fan) (width : Nat) (s : State) :
    Unchanged [.afc] s (countPulse f width s) := by
  unfold countPulse
  split
  · exact withAfc_frame _ _
  · exact .refl _ _

/-- Settles O25: by whether the pulse has the reject width. -/
theorem tachPulsesOfTheRejectWidthAreCounted : Obligations.TachPulsesOfTheRejectWidthAreCounted := by
  intro f width s awake
  refine ⟨_, exec_event rfl awake, countPulse_frame f width s, fun wide => ?_, fun narrow => ?_⟩
  · rw [countPulse_of_wide wide]
    rfl
  · rw [countPulse_of_narrow narrow]

/-! ## Trips (R27, R47, R48) -/

/-- The record of LPS with the latch set and the cause of a trip. -/
def Lps.latched (x : Lps) (c : TripCause) : Lps := { x with latch := true, lastTrip := some c }

/-- A trip that changes the power state raises TRIP and STATE. -/
theorem takeTrip_of_entry (h : trippedState s.lps.power ≠ s.lps.power) (c : TripCause) :
    takeTrip c s = driveFans (enterPower (trippedState s.lps.power)
      (raiseBoth .trip (s.withLps (s.lps.latched c)))) := congrArg driveFans (if_neg h)

/-- A trip in COOLING leaves the power state. -/
theorem takeTrip_of_stay (h : trippedState s.lps.power = s.lps.power) (c : TripCause) :
    takeTrip c s = driveFans (raiseBoth .trip (s.withLps (s.lps.latched c))) :=
  congrArg driveFans (if_pos h)

theorem trippedState_dark (p : Power) (h : trippedState p ≠ p) :
    trippedState p ≠ .lit ∧ trippedState p ≠ .starting := by
  revert h
  cases p <;> decide

/-- The record of LPS after a trip: dark in the state it leads to, or in COOLING as it was. -/
theorem takeTrip_lps (c : TripCause) (s : State) : (takeTrip c s).lps =
    if trippedState s.lps.power = s.lps.power then s.lps.latched c
    else (darkIn s.lps (trippedState s.lps.power)).latched c := by
  split
  · rw [takeTrip_of_stay ‹_›]
    rfl
  · obtain ⟨lit, starting⟩ := trippedState_dark _ ‹_›
    rw [takeTrip_of_entry ‹_›]
    exact Lps.entering_dark _ _ lit starting

theorem takeTrip_latch (c : TripCause) (s : State) :
    (takeTrip c s).lps.latch = true ∧ (takeTrip c s).lps.lastTrip = some c := by
  rw [takeTrip_lps]
  split <;> exact ⟨rfl, rfl⟩

/-- A trip drives every fan and leaves the rest of AFC. -/
theorem takeTrip_afc (c : TripCause) (s : State) : (takeTrip c s).afc =
    { s.afc with fans := s.afc.fans.map (fun r => { r with duty := 1000 }) } := by
  unfold takeTrip
  dsimp only
  split <;> rfl

theorem takeTrip_frame (c : TripCause) (s : State) :
    Unchanged [.attention, .lps, .afc] s (takeTrip c s) := by
  have latched : Unchanged [.attention, .lps, .afc] s (raiseBoth .trip (s.withLps (s.lps.latched c))) :=
    ((withLps_frame s _).weaken (by simp)).trans ((raiseBoth_frame _ _).weaken (by simp))
  unfold takeTrip
  refine Unchanged.trans ?_ ((withAfc_frame _ _).weaken (by simp))
  dsimp only
  split
  · exact latched
  · exact latched.trans ((enterPower_frame _ _).weaken (by simp))

/-- A trip that changes the power state raises TRIP and STATE and nothing else. -/
theorem takeTrip_joined (h : trippedState s.lps.power ≠ s.lps.power) (c : TripCause) :
    JoinedBoth (causeBit .state ||| causeBit .trip) s (takeTrip c s) := by
  rw [takeTrip_of_entry h, BitVec.or_comm]
  exact (raiseBoth_joined .trip (s.withLps (s.lps.latched c))).trans (enterPower_joined _ _)

theorem takeTrip_held (c : TripCause) (s : State) : HeldOnBoth .trip (takeTrip c s) := by
  have raised := raiseBoth_held .trip (s.withLps (s.lps.latched c))
  unfold takeTrip
  dsimp only
  split
  · exact raised
  · exact (raised.raiseOn .state .m).raiseOn .state .s

/-- Without a condition, or with the latch set, no trip is taken. -/
theorem tripIf_of_none {c : Option TripCause} (h : c = none ∨ s.lps.latch = true) :
    tripIf c s = s := by
  cases c with
  | none => rfl
  | some x =>
    refine if_neg fun ⟨clear, _⟩ => ?_
    simp [clear] at h

theorem tripIf_of_due {c : TripCause} (clear : s.lps.latch = false)
    (tested : tripTested s.lps.power = true) : tripIf (some c) s = takeTrip c s :=
  if_pos ⟨clear, tested⟩

/-- What a test of a trip condition can do: nothing, or take the trip with the latch clear. -/
theorem tripIf_cases (c : Option TripCause) (s : State) :
    tripIf c s = s ∨ ∃ x, c = some x ∧ s.lps.latch = false ∧ tripIf c s = takeTrip x s := by
  cases c with
  | none => exact .inl rfl
  | some x =>
    by_cases h : s.lps.latch = false ∧ tripTested s.lps.power = true
    · exact .inr ⟨x, rfl, h.1, if_pos h⟩
    · exact .inl (if_neg h)

theorem tripIf_frame (c : Option TripCause) (s : State) :
    Unchanged [.attention, .lps, .afc] s (tripIf c s) := by
  obtain h | ⟨x, -, -, h⟩ := tripIf_cases c s <;> rw [h]
  · exact .refl _ _
  · exact takeTrip_frame x s

/-- A test of a trip condition touches nothing of AFC but the duties. -/
theorem tripIf_afc (c : Option TripCause) (s : State) :
    (tripIf c s).afc.mode = s.afc.mode ∧ (tripIf c s).afc.pulses = s.afc.pulses ∧
      (tripIf c s).afc.heat = s.afc.heat := by
  obtain h | ⟨x, -, -, h⟩ := tripIf_cases c s <;> rw [h]
  · exact ⟨rfl, rfl, rfl⟩
  · rw [takeTrip_afc]
    exact ⟨rfl, rfl, rfl⟩

/-- A fan after the test of a trip condition: its duty is 1000 when the trip was taken. -/
theorem tripIf_fan (c : Option TripCause) (s : State) (f : Fan) :
    (tripIf c s).afc.fans.get f = { s.afc.fans.get f with
      duty := if s.lps.latch = false ∧ (tripIf c s).lps.latch = true then 1000
        else (s.afc.fans.get f).duty } := by
  obtain h | ⟨x, -, clear, h⟩ := tripIf_cases c s <;> rw [h]
  · rw [if_neg (by simp)]
  · rw [takeTrip_afc, PerFan.get_map, if_pos ⟨clear, (takeTrip_latch x s).1⟩]

/-! ## The proving deadline (R38) -/

/-- The cause of a proving deadline that expires. -/
def proveTimeout (s : State) : TripCause := ⟨.proveTimeout, .fans (unprovenFans s), none⟩

theorem provingExpiry_of_starting (starting : s.lps.power = .starting) (clear : s.lps.latch = false) :
    provingExpiry s = takeTrip (proveTimeout s) s := by
  have expires : provingExpiry s = tripIf (some (proveTimeout s)) s := if_pos starting
  rw [expires, tripIf_of_due clear (by rw [starting]; rfl)]

/-- Settles O37: in STARTING the expiry is a trip into TRIPPED, elsewhere it is nothing. -/
theorem provingDeadlineTripsInStarting : Obligations.ProvingDeadlineTripsInStarting := by
  intro s awake
  refine ⟨_, exec_event rfl awake, fun starting clear => ?_, fun other => if_neg other⟩
  have enters : trippedState s.lps.power ≠ s.lps.power := by simp [starting, trippedState]
  rw [provingExpiry_of_starting starting clear]
  refine ⟨takeTrip_frame _ s, takeTrip_joined enters _, ?_, ?_⟩
  · rw [takeTrip_lps, if_neg enters, starting]
    rfl
  · rw [takeTrip_afc]
    exact ⟨rfl, rfl, rfl, fun f => PerFan.get_map _ _ f⟩

/-! ## A gate end as a whole (R26) -/

/-- The fan records after the stall test of a gate end (steps 1 to 3 of R26). -/
def testedFans (s : State) : PerFan FanRecord := (measureFans s.afc).map (stallTest s.lps.latch)

theorem testedFans_get (s : State) (f : Fan) : (testedFans s).get f =
    stallTest s.lps.latch
      { s.afc.fans.get f with measured := measuredSpeed (s.afc.pulses.get f) } := by
  cases f <;> rfl

theorem gateFans_get (s : State) (f : Fan) : (gateFans s).get f = finishFan s (testedFans s) f := by
  cases f <;> rfl

theorem fanGate_afc (s : State) : (fanGate s).afc =
    { s.afc with fans := gateFans s, pulses := .same 0, heat := heatRecord s } := by
  unfold fanGate
  dsimp only
  split <;> rfl

theorem fanGate_frame (s : State) : Unchanged [.afc, .attention] s (fanGate s) := by
  unfold fanGate
  dsimp only
  split
  · exact ((withAfc_frame s _).weaken (by simp)).trans ((raiseBoth_frame _ _).weaken (by simp))
  · exact (withAfc_frame s _).weaken (by simp)

theorem recomputeLight_frame (s : State) : Unchanged [.attention, .lps] s (recomputeLight s) := by
  unfold recomputeLight
  dsimp only
  split
  · split
    · exact ((withLps_frame s _).weaken (by simp)).trans ((raiseBoth_frame _ _).weaken (by simp))
    · exact (withLps_frame s _).weaken (by simp)
  · exact .refl _ _

theorem recomputeLight_trip (s : State) : (recomputeLight s).lps.latch = s.lps.latch ∧
    (recomputeLight s).lps.lastTrip = s.lps.lastTrip := by
  unfold recomputeLight
  dsimp only
  split
  · split <;> exact ⟨rfl, rfl⟩
  · exact ⟨rfl, rfl⟩

/-- After the test of the fan trips a gate end changes neither the fans nor the latch. -/
theorem lightGate_after (s : State) :
    Unchanged [.attention, .lps] (tripIf (gateTrip s) s) (lightGate s) ∧
      (lightGate s).lps.latch = (tripIf (gateTrip s) s).lps.latch := by
  unfold lightGate
  generalize tripIf (gateTrip s) s = t
  dsimp only
  split
  · split
    · exact ⟨(enterPower_frame _ t).trans ((withLps_frame _ _).weaken (by simp)), rfl⟩
    · exact ⟨.refl _ _, rfl⟩
  · exact ⟨recomputeLight_frame t, (recomputeLight_trip t).1⟩
  · exact ⟨.refl _ _, rfl⟩

/-- The state after a gate end outside a part reset. -/
def gateEnded (s : State) : State := lightGate (fanGate s)

theorem gateEnded_frame (s : State) : Unchanged [.afc, .lps, .attention] s (gateEnded s) :=
  ((fanGate_frame s).weaken (by simp)).trans
    (((tripIf_frame _ _).weaken (by simp)).trans ((lightGate_after _).1.weaken (by simp)))

/-- A trip was taken at the gate end. -/
abbrev gateTripped (s : State) : Prop := s.lps.latch = false ∧ (gateEnded s).lps.latch = true

theorem gateEnded_afc (s : State) : (gateEnded s).afc.mode = s.afc.mode ∧
    (gateEnded s).afc.pulses = .same 0 ∧ (gateEnded s).afc.heat = heatRecord s := by
  have after : (gateEnded s).afc = (tripIf (gateTrip (fanGate s)) (fanGate s)).afc :=
    (lightGate_after (fanGate s)).1 .afc (by simp)
  obtain ⟨mode, pulses, heat⟩ := tripIf_afc (gateTrip (fanGate s)) (fanGate s)
  rw [after, mode, pulses, heat, fanGate_afc]
  exact ⟨rfl, rfl, rfl⟩

/-- A fan after a gate end: steps 4 to 6 of R26, and 1000 when a trip was taken. -/
theorem gateEnded_fan (s : State) (f : Fan) :
    (gateEnded s).afc.fans.get f = { finishFan s (testedFans s) f with
      duty := if gateTripped s then 1000 else (finishFan s (testedFans s) f).duty } := by
  have lps : (fanGate s).lps = s.lps := fanGate_frame s .lps (by simp)
  obtain ⟨frame, latch⟩ := lightGate_after (fanGate s)
  have after : (gateEnded s).afc = (tripIf (gateTrip (fanGate s)) (fanGate s)).afc := frame .afc (by simp)
  have fan := tripIf_fan (gateTrip (fanGate s)) (fanGate s) f
  rw [← latch, lps] at fan
  rw [after, fan, fanGate_afc, gateFans_get]
  rfl

/-! ## One fan at a gate end (R24, R26 to R31) -/

/-- The stall test changes the state and the stall count alone. -/
theorem stallTest_keeps (latch : Bool) (r : FanRecord) : stallTest latch r =
    { r with state := (stallTest latch r).state, stall := (stallTest latch r).stall } := by
  unfold stallTest
  split
  · split
    · split <;> rfl
    · rfl
  · rfl

/-- The kick and proving step changes the state and the counts alone. -/
theorem proveStep_keeps (latch : Bool) (r : FanRecord) : proveStep latch r =
    { r with state := (proveStep latch r).state, kick := (proveStep latch r).kick,
             proving := (proveStep latch r).proving, stall := (proveStep latch r).stall } := by
  unfold proveStep
  split
  · split <;> rfl
  · split
    · rfl
    · split
      · split <;> rfl
      · rfl
  · rfl

/-- A fan is tested for a stall and stalls at this gate end (R31). -/
def Stalls (latch : Bool) (r : FanRecord) : Prop :=
  stallTested latch r.state = true ∧ r.measured < 240 ∧ 300 ≤ r.duty

/-- The sixth stalled gate in a row fails the fan (R31). -/
theorem stallTest_of_last {latch : Bool} {r : FanRecord} (h : Stalls latch r) (last : 5 ≤ r.stall) :
    stallTest latch r = { r with stall := 6, state := .failed } := by
  obtain ⟨tested, slow, driven⟩ := h
  rw [stallTest, if_pos tested, if_pos ⟨slow, driven⟩, if_pos (by omega)]

theorem stallTest_of_stalls {latch : Bool} {r : FanRecord} (h : Stalls latch r) (early : r.stall < 5) :
    stallTest latch r = { r with stall := r.stall + 1 } := by
  obtain ⟨tested, slow, driven⟩ := h
  rw [stallTest, if_pos tested, if_pos ⟨slow, driven⟩, if_neg (by omega)]

theorem stallTest_of_turns {latch : Bool} {r : FanRecord} (tested : stallTested latch r.state = true)
    (h : ¬Stalls latch r) : stallTest latch r = { r with stall := 0 } := by
  rw [stallTest, if_pos tested, if_neg fun slow => h ⟨tested, slow⟩]

theorem stallTest_of_untested {latch : Bool} {r : FanRecord} (h : stallTested latch r.state = false) :
    stallTest latch r = r := by
  rw [stallTest, h]
  rfl

/-- A fan that does not fail in the stall test keeps its state. -/
theorem stallTest_state {latch : Bool} {r : FanRecord} (h : ¬(Stalls latch r ∧ 5 ≤ r.stall)) :
    (stallTest latch r).state = r.state := by
  cases tested : stallTested latch r.state
  · rw [stallTest_of_untested tested]
  · by_cases stalls : Stalls latch r
    · have early : r.stall < 5 := Nat.lt_of_not_le fun last => h ⟨stalls, last⟩
      rw [stallTest_of_stalls stalls early]
    · rw [stallTest_of_turns tested stalls]

theorem stallTested_iff (latch : Bool) (x : FanState) : stallTested latch x = true ↔
    x = .proving ∨ x = .running ∨ (x = .kick ∧ latch = true) := by
  cases x <;> simp [stallTested]

/-! The kick and proving step by the state that the stall test left (R29, R30). -/

theorem proveStep_of_settled {r : FanRecord}
    (h : r.state = .stopped ∨ r.state = .running ∨ r.state = .failed) (latch : Bool) :
    proveStep latch r = r := by
  unfold proveStep
  rcases h with h | h | h <;> rw [h]

theorem proveStep_of_first_kick {r : FanRecord} (h : r.state = .kick) (first : r.kick = 0)
    (latch : Bool) : proveStep latch r = { r with kick := 1 } := by
  simp only [proveStep, h, first]
  rfl

theorem proveStep_of_last_kick {r : FanRecord} (h : r.state = .kick) (last : 1 ≤ r.kick)
    (latch : Bool) :
    proveStep latch r = { r with kick := 2, state := .proving, proving := 0, stall := 0 } := by
  simp only [proveStep, h]
  exact if_pos (by omega)

theorem proveStep_of_latched {r : FanRecord} (h : r.state = .proving) : proveStep true r = r := by
  simp only [proveStep, h, if_true]

theorem proveStep_of_slow {r : FanRecord} (h : r.state = .proving)
    (slow : 10 * r.measured < 8 * r.target) : proveStep false r = { r with proving := 0 } := by
  simp only [proveStep, h, Bool.false_eq_true, if_false]
  exact if_neg (by omega)

theorem proveStep_of_fast {r : FanRecord} (h : r.state = .proving)
    (fast : 8 * r.target ≤ 10 * r.measured) : proveStep false r =
      if 1 ≤ r.proving then { r with proving := 2, state := .running }
      else { r with proving := r.proving + 1 } := by
  simp only [proveStep, h, fast, if_true, show 2 ≤ r.proving + 1 ↔ 1 ≤ r.proving by omega]
  rfl

/-- Only the end of a kick touches the stall count in the kick and proving step. -/
theorem proveStep_stall {r : FanRecord} (h : r.state ≠ .kick ∨ r.kick = 0) (latch : Bool) :
    (proveStep latch r).stall = r.stall := by
  unfold proveStep
  split
  · rename_i kick
    rw [if_neg (by have := h.resolve_left (· kick); omega)]
  · split
    · rfl
    · split
      · split <;> rfl
      · rfl
  · rfl

/-- The kick and proving step makes no fan FAILED and mends none. -/
theorem proveStep_failed_iff (latch : Bool) (r : FanRecord) :
    (proveStep latch r).state = .failed ↔ r.state = .failed := by
  unfold proveStep
  split
  · split <;> simp [*]
  · split
    · rfl
    · split
      · split <;> simp [*]
      · simp
  · rfl

/-! ## The steps of a gate end put together -/

/-- The record of a fan at a gate end with its measured speed (R26, step 1). -/
def measuredFan (s : State) (f : Fan) : FanRecord :=
  { s.afc.fans.get f with measured := measuredSpeed (s.afc.pulses.get f) }

/-- The target and the capped flag of a fan at a gate end (R24). -/
def gateTarget (s : State) (f : Fan) : Int × Bool :=
  targetOf s.lps.power s.afc.mode (testedFans s) f (curveTarget s f)

/-- The record of a fan before its kick and proving step: stall test and target done. -/
def targetedFan (s : State) (f : Fan) : FanRecord :=
  { stallTest s.lps.latch (measuredFan s f) with
    target := (gateTarget s f).1, capped := (gateTarget s f).2 }

/-- The duty that a gate end leaves a fan (R27). -/
def gateDuty (s : State) (f : Fan) : Int :=
  if gateTripped s then 1000
  else dutyOf s.lps.power s.lps.latch (param s.prf.fan 46) (targetedFan s f).state
    (proveStep s.lps.latch (targetedFan s f))

/-- A fan after a gate end: the kick and proving step, and the duty. -/
theorem gateEnded_fan_eq (s : State) (f : Fan) : (gateEnded s).afc.fans.get f =
    { proveStep s.lps.latch (targetedFan s f) with duty := gateDuty s f } := by
  have tested : (testedFans s).get f = stallTest s.lps.latch (measuredFan s f) := testedFans_get s f
  rw [gateEnded_fan, finishFan, tested]
  rfl

/-- What the steps of a gate end leave of a fan's record: its kick and proving counts before the kick and
proving step, its duty before the duties, its measured speed throughout. -/
theorem targetedFan_keeps (s : State) (f : Fan) :
    (targetedFan s f).kick = (s.afc.fans.get f).kick ∧
    (targetedFan s f).proving = (s.afc.fans.get f).proving ∧
    (targetedFan s f).duty = (s.afc.fans.get f).duty ∧
    (targetedFan s f).measured = measuredSpeed (s.afc.pulses.get f) ∧
    (targetedFan s f).stall = (stallTest s.lps.latch (measuredFan s f)).stall := by
  unfold targetedFan
  rw [stallTest_keeps]
  exact ⟨rfl, rfl, rfl, rfl, rfl⟩

theorem gateEnded_fan_keeps (s : State) (f : Fan) :
    ((gateEnded s).afc.fans.get f).measured = measuredSpeed (s.afc.pulses.get f) ∧
    ((gateEnded s).afc.fans.get f).target = (gateTarget s f).1 ∧
    ((gateEnded s).afc.fans.get f).capped = (gateTarget s f).2 := by
  obtain ⟨-, -, -, measured, -⟩ := targetedFan_keeps s f
  rw [gateEnded_fan_eq, proveStep_keeps]
  exact ⟨measured, rfl, rfl⟩

/-! ## Speeds and heat indices (R20, R26) -/

theorem heatIndex_of_normal {c : Channel} {x : Int} (normal : (shownOf s c).condition = .normal)
    (temp : (shownOf s c).temp = some x) : heatIndex s c =
      heatAt (param s.prf.fan (2 * channelNumber c)) (param s.prf.fan (2 * channelNumber c + 1)) x := by
  simp only [heatIndex, normalTemp, normal, temp, if_true]

theorem heatIndex_of_not_normal {c : Channel} (h : (shownOf s c).condition ≠ .normal) :
    heatIndex s c = 1000 := by
  simp only [heatIndex, normalTemp, h, if_false]

theorem heatRecord_get {c : Channel} (h : c ∈ thermistors) (s : State) :
    (heatRecord s).get c = some (heatIndex s c) := by
  cases c <;> first | rfl | simp [thermistors] at h

/-- Settles O26: the speeds and the heat record of AFC's part, which LPS's part leaves. -/
theorem gateEndMeasuresSpeedsAndHeat : Obligations.GateEndMeasuresSpeedsAndHeat := by
  intro s awake
  obtain ⟨mode, pulses, heat⟩ := gateEnded_afc s
  refine ⟨gateEnded s, exec_event rfl awake, gateEnded_frame s, mode, fun f => ⟨?_, ?_⟩,
    fun c hc => ⟨fun x normal temp => ?_, fun h => ?_⟩⟩
  · rw [pulses]
    cases f <;> rfl
  · exact (gateEnded_fan_keeps s f).1
  · rw [heat, heatRecord_get hc, heatIndex_of_normal normal temp]
    rfl
  · rw [heat, heatRecord_get hc, heatIndex_of_not_normal h]

/-! ## States, kicks, proving and stalls (R29 to R31) -/

/-- A fan that enters FAILED at a gate end raises FAN on both ports (R31). -/
theorem gateEnded_fan_held {f : Fan} (before : (s.afc.fans.get f).state ≠ .failed)
    (after : ((gateEnded s).afc.fans.get f).state = .failed) : HeldOnBoth .fan (gateEnded s) := by
  have failed : ((gateFans s).get f).state = .failed := by
    rw [← after, gateEnded_fan, gateFans_get]
  have entered : newlyFailed s.afc.fans (gateFans s) = true := by
    refine List.any_eq_true.mpr ⟨f, by cases f <;> simp [allFans], ?_⟩
    simp [before, failed]
  refine (held_closed .fan).lightGate ?_
  unfold fanGate
  dsimp only
  rw [if_pos entered]
  exact raiseBoth_held _ _

/-- The sixth stalled gate in a row leaves the fan FAILED. -/
theorem gateEnded_fan_of_last {f : Fan} (h : Stalls s.lps.latch (measuredFan s f))
    (last : 5 ≤ (s.afc.fans.get f).stall) :
    ((gateEnded s).afc.fans.get f).state = .failed ∧ ((gateEnded s).afc.fans.get f).stall = 6 := by
  obtain ⟨-, -, -, -, stall⟩ := targetedFan_keeps s f
  have test := stallTest_of_last h last
  have failed : (targetedFan s f).state = .failed := congrArg FanRecord.state test
  rw [gateEnded_fan_eq, proveStep_of_settled (.inr (.inr failed))]
  exact ⟨failed, stall.trans (congrArg FanRecord.stall test)⟩

/-- An earlier stalled gate is counted, unless the fan leaves KICK. -/
theorem gateEnded_stall_of_stalls {f : Fan} (h : Stalls s.lps.latch (measuredFan s f))
    (early : (s.afc.fans.get f).stall < 5)
    (stays : (s.afc.fans.get f).state ≠ .kick ∨ (s.afc.fans.get f).kick = 0) :
    ((gateEnded s).afc.fans.get f).stall = (s.afc.fans.get f).stall + 1 := by
  obtain ⟨kick, -, -, -, stall⟩ := targetedFan_keeps s f
  have test := stallTest_of_stalls h early
  have state : (targetedFan s f).state = (s.afc.fans.get f).state := by
    show (stallTest _ _).state = _
    rw [test]
    rfl
  have stays : (targetedFan s f).state ≠ .kick ∨ (targetedFan s f).kick = 0 := by rwa [state, kick]
  rw [gateEnded_fan_eq]
  exact (proveStep_stall stays _).trans (stall.trans (congrArg FanRecord.stall test))

/-- A fan that turns ends its run of stalled gates. -/
theorem gateEnded_stall_of_turns {f : Fan}
    (tested : stallTested s.lps.latch (measuredFan s f).state = true)
    (h : ¬Stalls s.lps.latch (measuredFan s f)) : ((gateEnded s).afc.fans.get f).stall = 0 := by
  obtain ⟨-, -, -, -, stall⟩ := targetedFan_keeps s f
  rw [stallTest_of_turns tested h] at stall
  rw [gateEnded_fan_eq]
  show (proveStep _ _).stall = 0
  by_cases leaves : (targetedFan s f).state = .kick ∧ 1 ≤ (targetedFan s f).kick
  · rw [proveStep_of_last_kick leaves.1 leaves.2]
  · rw [proveStep_stall ((not_and_or.mp leaves).imp_right fun k => by omega), stall]

/-- Settles O27: by the stall test's cases, then by the state before the kick and proving step. -/
theorem gateEndMovesTheFanStates : Obligations.GateEndMovesTheFanStates := by
  intro s awake
  refine ⟨gateEnded s, exec_event rfl awake, fun f before after => gateEnded_fan_held before after,
    fun f => ?_⟩
  intro r q tested stalled
  obtain ⟨kick, proving, -, measured, stall⟩ := targetedFan_keeps s f
  obtain ⟨speed, target, -⟩ := gateEnded_fan_keeps s f
  have fan : q = { proveStep s.lps.latch (targetedFan s f) with duty := gateDuty s f } :=
    gateEnded_fan_eq s f
  have tested_iff : stallTested s.lps.latch (measuredFan s f).state = true ↔ tested :=
    stallTested_iff _ _
  have stalled_iff : Stalls s.lps.latch (measuredFan s f) ↔ stalled := by
    show _ ↔ tested ∧ q.measured < 240 ∧ _
    rw [← tested_iff, speed]
    rfl
  refine ⟨fun stalls last => gateEnded_fan_of_last (stalled_iff.mpr stalls) last, fun fit => ?_⟩
  have state : (targetedFan s f).state = r.state :=
    stallTest_state fun h => fit ⟨stalled_iff.mp h.1, h.2⟩
  have untested : r.state = .failed → stallTested s.lps.latch (measuredFan s f).state = false :=
    fun h => by
      show stallTested _ r.state = false
      rw [h]
      rfl
  have sameTarget : q.target = (targetedFan s f).target := target
  have sameSpeed : q.measured = (targetedFan s f).measured := speed.trans measured.symm
  have settled : r.state = .stopped ∨ r.state = .running ∨ r.state = .failed →
      q.state = r.state ∧ q.stall = (targetedFan s f).stall := fun h => by
    rw [fan, proveStep_of_settled (state ▸ h)]
    exact ⟨state, rfl⟩
  refine ⟨fun h => (settled (.inl h)).1.trans h, fun h => ⟨(settled (.inr (.inr h))).1.trans h, ?_⟩,
    fun h => (settled (.inr (.inl h))).1.trans h, fun h first => ?_, fun h last => ?_, fun h latched => ?_,
    fun h clear fast => ⟨fun first => ?_, fun last => ?_⟩, fun h clear slow => ?_,
    fun stalls stays => gateEnded_stall_of_stalls (stalled_iff.mpr stalls)
      (Nat.lt_of_not_le fun last => fit ⟨stalls, last⟩) stays,
    fun test turns => gateEnded_stall_of_turns (tested_iff.mpr test) (mt stalled_iff.mp turns)⟩
  · rw [(settled (.inr (.inr h))).2, stall, stallTest_of_untested (untested h)]
    rfl
  · rw [fan, proveStep_of_first_kick (state.trans h) (kick.trans first)]
    exact ⟨state.trans h, rfl⟩
  · rw [fan, proveStep_of_last_kick (state.trans h) (kick ▸ last)]
    exact ⟨rfl, rfl, rfl, rfl⟩
  · rw [fan, latched, proveStep_of_latched (state.trans h)]
    exact ⟨state.trans h, proving⟩
  · rw [sameTarget, sameSpeed] at fast
    rw [fan, clear, proveStep_of_fast (state.trans h) fast, if_neg (by rw [proving, first]; decide)]
    exact ⟨state.trans h, congrArg (· + 1) (proving.trans first)⟩
  · rw [sameTarget, sameSpeed] at fast
    rw [fan, clear, proveStep_of_fast (state.trans h) fast, if_pos (proving ▸ last)]
    exact ⟨rfl, rfl⟩
  · rw [sameTarget, sameSpeed] at slow
    rw [fan, clear, proveStep_of_slow (state.trans h) slow]
    exact ⟨state.trans h, rfl⟩

/-! ## Targets and duties (R24, R27, R28) -/

theorem failedCount_congr {x y : PerFan FanRecord}
    (h : ∀ f, (x.get f).state = .failed ↔ (y.get f).state = .failed) : failedCount x = failedCount y := by
  have same : ∀ f, ((x.get f).state == .failed) = ((y.get f).state == .failed) := fun f =>
    Bool.eq_iff_iff.mpr (by simpa using h f)
  unfold failedCount
  simp only [same]

/-- After its stall test a gate end makes no fan FAILED and mends none. -/
theorem gateEnded_failed_iff (s : State) (f : Fan) :
    ((gateEnded s).afc.fans.get f).state = .failed ↔ ((testedFans s).get f).state = .failed := by
  rw [gateEnded_fan_eq, testedFans_get]
  exact proveStep_failed_iff _ _

theorem fanLoss_iff (s : State) : fanLoss (testedFans s) = true ↔
    failedCount (gateEnded s).afc.fans = 1 ∧ (gateEnded s).afc.fans.f2.state ≠ .failed := by
  have blower : (testedFans s).f2.state = .failed ↔ (gateEnded s).afc.fans.f2.state = .failed :=
    (gateEnded_failed_iff s .f2).symm
  rw [failedCount_congr (gateEnded_failed_iff s)]
  simp [fanLoss, blower]

/-- A fan that is in PROVING after its kick and proving step kept its state in the stall test. -/
theorem targetedFan_state_of_proving {f : Fan}
    (h : (proveStep s.lps.latch (targetedFan s f)).state = .proving) :
    (targetedFan s f).state = (s.afc.fans.get f).state := by
  refine stallTest_state fun ⟨stalls, last⟩ => ?_
  have failed : (targetedFan s f).state = .failed :=
    congrArg FanRecord.state (stallTest_of_last stalls last)
  rw [proveStep_of_settled (.inr (.inr failed)), failed] at h
  cases h

/-- Settles O28: the target is that of R24's table over the fans of the stall test, FAILED then as they
are FAILED after the gate end; the duty is that of R27's, unless a trip was taken. -/
theorem gateEndSetsTargetsAndDuties : Obligations.GateEndSetsTargetsAndDuties := by
  intro s awake
  refine ⟨gateEnded s, exec_event rfl awake, fun f => ?_⟩
  intro r q curve
  obtain ⟨-, -, duty, -, -⟩ := targetedFan_keeps s f
  obtain ⟨-, target, capped⟩ := gateEnded_fan_keeps s f
  have fan : q = { proveStep s.lps.latch (targetedFan s f) with duty := gateDuty s f } :=
    gateEnded_fan_eq s f
  have loss : (fanLoss (testedFans s) = true ∧ ((testedFans s).get f).state ≠ .failed) ↔
      failedCount (gateEnded s).afc.fans = 1 ∧ (gateEnded s).afc.fans.f2.state ≠ .failed ∧
        q.state ≠ .failed := by
    rw [fanLoss_iff, and_assoc]
    exact and_congr_right' (and_congr_right' (not_congr (gateEnded_failed_iff s f).symm))
  refine ⟨?_, ?_⟩
  · show (((gateEnded s).afc.fans.get f).target, ((gateEnded s).afc.fans.get f).capped) = _
    rw [target, capped]
    unfold gateTarget targetOf
    simp only [loss]
    rfl
  · have state : (proveStep s.lps.latch (targetedFan s f)).state = q.state :=
      (congrArg FanRecord.state fan).symm
    have waits : (q.state = .proving ∧ (targetedFan s f).state = .kick) ↔
        q.state = .proving ∧ r.state = .kick :=
      and_congr_right fun h => by rw [targetedFan_state_of_proving (state.trans h)]
    have kept : (proveStep s.lps.latch (targetedFan s f)).duty = r.duty := by
      rw [proveStep_keeps]
      exact duty
    rw [fan]
    show gateDuty s f = _
    unfold gateDuty dutyOf
    simp only [state, waits, kept]
    rfl

end Sys2Proof.Machine
end

section
/-! What the Light and Power Supervisor does at a sweep end. The lens, the drift evaluation and the builds
act beside it, in either order; they touch neither its record nor what it reads, and raise no cause but
MOVE and RECALL. So the sweep end is LPS's part on the presented values, said once in `lightSweep`. -/

namespace Sys2Proof.Machine

variable {s t u v : State}

/-! ## Which causes an operation raises -/

/-- No cause but those listed has joined a pending set. `SweepClosed` cannot say this, since it
lets every cause but SENSOR be raised. -/
def RaisesOnly (l : List Cause) (s t : State) : Prop := ∀ d, d ∉ l → HeldAsBefore d s t

theorem HeldAsBefore.trans {d : Cause} (h : HeldAsBefore d s t) (k : HeldAsBefore d t u) :
    HeldAsBefore d s u := ⟨k.1.trans h.1, k.2.trans h.2⟩

namespace RaisesOnly

variable {l m : List Cause}

theorem refl (l : List Cause) (s : State) : RaisesOnly l s s := fun _ _ => ⟨rfl, rfl⟩

theorem trans (h : RaisesOnly l s t) (k : RaisesOnly l t u) : RaisesOnly l s u :=
  fun d hd => (h d hd).trans (k d hd)

theorem weaken (h : RaisesOnly l s t) (hl : ∀ c ∈ l, c ∈ m) : RaisesOnly m s t :=
  fun d hd => h d fun k => hd (hl d k)

/-- What leaves the attention records raises no cause. -/
theorem of_unchanged {p : List Part} (h : Unchanged p s t) (hp : Part.attention ∉ p) :
    RaisesOnly l s t := fun _ _ => by
  obtain ⟨hm, hs⟩ : t.pif.attnM = s.pif.attnM ∧ t.pif.attnS = s.pif.attnS := h .attention hp
  rw [HeldAsBefore, hm, hs]
  exact ⟨rfl, rfl⟩

theorem raiseOn {c : Cause} (hc : c ∈ l) (p : Port) (s : State) : RaisesOnly l s (raiseOn c p s) :=
  fun d hd => HeldAsBefore.raiseOn (s := s) (t := s) (fun h : c = d => hd (h ▸ hc)) ⟨rfl, rfl⟩ p

theorem raiseBoth {c : Cause} (hc : c ∈ l) (s : State) : RaisesOnly l s (raiseBoth c s) :=
  (raiseOn hc .m s).trans (raiseOn hc .s _)

/-- A cause that is not listed is held on both ports as long as it was. -/
theorem held (h : RaisesOnly l s t) {d : Cause} (hd : d ∉ l) (k : HeldOnBoth d s) :
    HeldOnBoth d t := ⟨(h d hd).1.trans k.1, (h d hd).2.trans k.2⟩

end RaisesOnly

/-- What the ends of requests raise (R94, R96). -/
def endCauses : List Cause := [.move, .recall]

theorem setProgress_frame (a : Axis) (p : Progress) (s : State) :
    Unchanged [.msc] s (setProgress a p s) := by
  unfold setProgress
  split
  · exact .refl _ _
  · exact withMsc_frame _ _

theorem endGroup_raises (o : GroupOutcome) (s : State) : RaisesOnly endCauses s (endGroup o s) := by
  unfold endGroup
  split
  · exact .refl _ _
  · exact (RaisesOnly.of_unchanged (withMsc_frame s _) (by simp)).trans
      (.raiseOn (by simp [endCauses]) _ _)

theorem settleGroup_raises (s : State) : RaisesOnly endCauses s (settleGroup s) := by
  unfold settleGroup
  split
  · exact .refl _ _
  · split
    · exact endGroup_raises _ s
    · exact .refl _ _

theorem tellGroup_raises (a : Axis) (e : MoveEnd) (s : State) :
    RaisesOnly endCauses s (tellGroup a e s) := by
  have progress : RaisesOnly endCauses s (setProgress a (progressOf e.outcome) s) :=
    .of_unchanged (setProgress_frame _ _ s) (by simp)
  unfold tellGroup
  split
  · unfold memberEnd
    dsimp only
    split
    · exact progress.trans (settleGroup_raises _)
    · split
      · exact progress.trans (endGroup_raises _ _)
      · exact progress
  · exact .refl _ _

theorem raiseOnIssuer_raises (p : Option Port) (s : State) :
    RaisesOnly endCauses s (raiseOnIssuer .move p s) := by
  cases p with
  | none => exact .refl _ _
  | some p => exact .raiseOn (by simp [endCauses]) p s

/-- The end of a request raises MOVE and RECALL alone. -/
theorem recordEnd_raises (a : Axis) (e : MoveEnd) (s : State) :
    RaisesOnly endCauses s (recordEnd a e s) :=
  (RaisesOnly.of_unchanged (withMsc_frame s _) (by simp)).trans <|
    (raiseOnIssuer_raises _ _).trans <| (tellGroup_raises a e _).trans <|
    (RaisesOnly.of_unchanged (tellFocus_frame a e _) (by simp)).trans <|
    .of_unchanged (geoMoveEnd_frame a (homedBy e) e.final _) (by simp)

theorem finishForce_raises (a : Axis) (r : AxisRecord) (o : MoveOutcome) (f : Option Int) (s : State) :
    RaisesOnly endCauses s (finishForce a r o f s) :=
  (RaisesOnly.of_unchanged (setAxis_frame s a r) (by simp)).trans <|
    (RaisesOnly.of_unchanged (withMsc_frame _ _) (by simp)).trans (recordEnd_raises _ _ _)

theorem supersedePending_raises (a : Axis) (s : State) :
    RaisesOnly endCauses s (supersedePending a s) := by
  have removed : RaisesOnly endCauses s (setRequest a none s) :=
    .of_unchanged (withMsc_frame s _) (by simp)
  unfold supersedePending
  split
  · unfold endYielded
    split
    · exact removed
    · exact removed.trans (finishForce_raises _ _ _ _ _)
  · unfold dropRequest
    split
    · exact .refl _ _
    · exact removed.trans (recordEnd_raises _ _ _)

theorem startMove_frame (a : Axis) (p goal : Int) (d : DriveSlot) (s : State) :
    Unchanged [.scn, .ldu] s (startMove a p goal d s) := by
  unfold startMove
  dsimp only
  split
  · exact .refl _ _
  · exact ((setAxis_frame s a _).weaken (by simp)).trans ((withScn_frame _ _).weaken (by simp))

theorem grantMove_raises (a : Axis) (q : Request) (p : Int) (d : DriveSlot) (s : State) :
    RaisesOnly endCauses s (grantMove a q p d s) := by
  have taken : ∀ r, RaisesOnly endCauses s (s.setAxis a r) := fun r =>
    .of_unchanged (setAxis_frame s a r) (by simp)
  unfold grantMove
  dsimp only
  split
  · exact (taken _).trans (finishForce_raises _ _ _ _ _)
  · split
    · exact (taken _).trans (finishForce_raises _ _ _ _ _)
    · exact (taken _).trans (.of_unchanged (startMove_frame _ _ _ _ _) (by simp))

theorem grantHome_frame (a : Axis) (q : Request) (d : DriveSlot) (s : State) :
    Unchanged [.scn, .ldu] s (grantHome a q d s) :=
  ((setAxis_frame s a _).weaken (by simp)).trans ((withScn_frame _ _).weaken (by simp))

theorem lduGrant_raises (a : Axis) (q : Request) (d : DriveSlot) (s : State) :
    RaisesOnly endCauses s (lduGrant a q d s) := by
  unfold lduGrant
  split
  · exact .of_unchanged (grantHome_frame _ _ _ _) (by simp)
  · exact grantMove_raises _ _ _ _ _
  · exact (RaisesOnly.of_unchanged (setAxis_frame s a _) (by simp)).trans (finishForce_raises _ _ _ _ _)

theorem grantOne_raises (a : Axis) (d : DriveSlot) (s : State) :
    RaisesOnly endCauses s (grantOne a d s) := by
  have left : ∀ x, RaisesOnly endCauses s (s.withMsc x) := fun x =>
    .of_unchanged (withMsc_frame s x) (by simp)
  unfold grantOne
  split
  · exact .refl _ _
  · dsimp only
    split
    · exact (left _).trans <| (RaisesOnly.of_unchanged (setProgress_frame _ _ _) (by simp)).trans
        (lduGrant_raises _ _ _ _)
    · exact (left _).trans (lduGrant_raises _ _ _ _)

theorem grantLoop_raises (x : Option Axis) (n : Nat) (s : State) :
    RaisesOnly endCauses s (grantLoop x n s) := by
  induction n generalizing s with
  | zero => exact .refl _ _
  | succ n ih =>
    unfold grantLoop
    split
    · exact .refl _ _
    · split
      · exact (grantOne_raises _ _ s).trans (ih _)
      · exact .refl _ _

/-- A drift request is issued for an IDLE axis only, so it replaces no move in force (R109). -/
theorem issueDrift_raises (d : Int) (idle : (s.axis .fc).state = .idle) :
    RaisesOnly endCauses s (issueDrift d s) := by
  have stamped : RaisesOnly endCauses s
      (nextStamp (s.withFdt { s.fdt with outstanding := some d, state := .correcting })) :=
    (RaisesOnly.of_unchanged (withFdt_frame s _) (by simp)).trans
      (.of_unchanged (withMsc_frame _ _) (by simp))
  have notMoving : (s.axis .fc).state ≠ .moving := by simp [idle]
  unfold issueDrift place
  dsimp only
  split
  · rw [passToRunning_eq (by simp [Machine.stamped, driftRequest]) rfl notMoving]
    exact stamped
  · exact stamped.trans <| (supersedePending_raises _ _).trans
      (.of_unchanged (withMsc_frame _ _) (by simp))

theorem evaluateDrift_raises (s : State) : RaisesOnly endCauses s (evaluateDrift s) := by
  have tracked : ∀ x, RaisesOnly endCauses s (setTracker x s) := fun x =>
    .of_unchanged (withFdt_frame s _) (by simp)
  unfold evaluateDrift
  split
  · exact tracked _
  · split
    · exact tracked _
    · split
      · exact tracked _
      · rename_i free
        have idle : (s.axis .fc).state = .idle := by
          simp only [focusFree, Bool.and_eq_true, beq_iff_eq, Bool.not_eq_false] at free
          exact free.1.1
        split
        · unfold computeDrift
          dsimp only
          split
          · exact tracked _
          · split
            · exact tracked _
            · exact issueDrift_raises _ idle
        · exact tracked _

/-! ## What acts beside LPS at a sweep end -/

/-- A change that neither LPS's record nor anything it reads shows: the lens, the tracker, GEO and the
banks may have acted, the channels, the fans and the profile are as they were, and no cause but MOVE and
RECALL has joined. -/
structure BesideLps (s t : State) : Prop where
  frame : Unchanged [.choices, .attention, .scn, .ldu, .msc, .fdt, .geo, .bkm] s t
  scan : MotionOnly s t
  causes : RaisesOnly endCauses s t

namespace BesideLps

theorem refl (s : State) : BesideLps s s := ⟨.refl _ _, .of_scn rfl, .refl _ _⟩

theorem trans (h : BesideLps s t) (k : BesideLps t u) : BesideLps s u :=
  ⟨h.frame.trans k.frame, h.scan.trans k.scan, h.causes.trans k.causes⟩

theorem choices (n : Nat) (s : State) : BesideLps s (s.withChoices n) :=
  ⟨(withChoices_frame s n).weaken (by simp), .of_scn rfl, .of_unchanged (withChoices_frame s n) (by simp)⟩

theorem build (s : State) : BesideLps s (requestBuild s) :=
  ⟨(requestBuild_frame s).weaken (by simp), .of_scn (requestBuild_scn s),
    .of_unchanged (requestBuild_frame s) (by simp)⟩

theorem buildIf (c : Prop) [Decidable c] (s : State) :
    BesideLps s (if c then requestBuild s else s) := by
  split
  · exact build s
  · exact refl s

theorem drift (s : State) : BesideLps s (evaluateDrift s) :=
  ⟨(evaluateDrift_keeps (lens_frame s) (.refl _ _)).weaken (by simp),
    evaluateDrift_keeps (motionOnly_lens s) (.of_scn rfl), evaluateDrift_raises s⟩

theorem grants (x : Option Axis) (s : State) : BesideLps s (grantOccasion x s) :=
  ⟨(grantOccasion_keeps (lens_frame s) x (.refl _ _)).weaken (by simp),
    grantOccasion_keeps (motionOnly_lens s) x (.of_scn rfl), grantLoop_raises x 4 s⟩

end BesideLps

/-- What both orders lead to, and the use of a choice keeps, an event in either order leads to. -/
theorem eitherOrder_of_both {P : State → Prop} {f g : State → State}
    (choices : ∀ n t, P t → P (t.withChoices n)) (hf : P (f s)) (hg : P (g s)) :
    P (eitherOrder f g s) := by
  unfold eitherOrder
  dsimp only
  split
  · exact hf
  · split
    · exact choices _ _ hf
    · exact choices _ _ hg

theorem geoSweep_beside (o : Orientation) (s : State) : BesideLps s (geoSweep o s) := by
  unfold geoSweep
  dsimp only
  exact eitherOrder_of_both (P := BesideLps s) (fun n t h => h.trans (.choices n t))
    ((BesideLps.buildIf _ s).trans (.buildIf _ _)) ((BesideLps.buildIf _ s).trans (.buildIf _ _))

/-- LPS acts once at a sweep end; what comes before and after it in either order is beside it. -/
theorem powerAndDrift_beside (s : State) :
    ∃ u, BesideLps s u ∧ BesideLps (lightSweep u) (powerAndDrift s) := by
  have both := eitherOrder_of_both (s := s)
    (P := fun v => ∃ u, BesideLps s u ∧ BesideLps (lightSweep u) v)
    (f := fun t => evaluateDrift (lightSweep t)) (g := fun t => lightSweep (evaluateDrift t))
    (fun n t ⟨u, before, after⟩ => ⟨u, before, after.trans (.choices n t)⟩)
    ⟨s, .refl s, .drift _⟩ ⟨_, .drift s, .refl _⟩
  unfold powerAndDrift
  dsimp only
  split
  · obtain ⟨u, before, after⟩ := both
    exact ⟨u, before, after.trans (.grants none _)⟩
  · exact both

/-! ## What LPS sees at the sweep end (R2, R12) -/

/-- The values of a state are those that LPS reads in another: what was converted there is presented
here, with the record of LPS, the fans and the profile as they were. -/
structure SeenBy (s u : State) : Prop where
  lps : u.lps = s.lps
  afc : u.afc = s.afc
  prf : u.prf = s.prf
  shown : ∀ c, c ≠ .acz →
    shownOf u c = ⟨(s.channel c).raw, (s.channel c).condition, (s.channel c).temp⟩
  causes : RaisesOnly (.sensor :: endCauses) s u

theorem SeenBy.beside (h : SeenBy s t) (k : BesideLps t u) : SeenBy s u where
  lps := (k.frame .lps (by simp)).trans h.lps
  afc := (k.frame .afc (by simp)).trans h.afc
  prf := (k.frame .prf (by simp)).trans h.prf
  shown c hc := (congrArg ChannelRecord.shown (k.scan.channel c)).trans (h.shown c hc)
  causes := h.causes.trans (k.causes.weaken (by simp [endCauses]))

theorem joinPair_frame (s : State) : Unchanged [.scn] s (joinPair s) := by
  cases h : joiningPair s with
  | none => rw [joinPair_of_none h]; exact .refl _ _
  | some p =>
    rw [joinPair_of_some h]
    split
    · exact (withScn_frame s _).trans (withScn_frame _ _)
    · exact withScn_frame s _

theorem presentAll_frame (s : State) : Unchanged [.scn, .attention] s (presentAll s) := by
  unfold presentAll
  dsimp only
  split
  · exact ((withScn_frame s _).weaken (by simp)).trans ((raiseBoth_frame _ _).weaken (by simp))
  · exact (withScn_frame s _).weaken (by simp)

theorem presentAll_raises (s : State) : RaisesOnly [.sensor] s (presentAll s) := by
  have presented : ∀ x, RaisesOnly [.sensor] s (s.withScn x) := fun x =>
    .of_unchanged (withScn_frame s x) (by simp)
  unfold presentAll
  dsimp only
  split
  · exact (presented _).trans (.raiseBoth (by simp) _)
  · exact presented _

/-- Presenting the state in which ACZ has been converted shows every earlier channel as it stood. -/
theorem presentAll_seen (s : State) (code : Int) :
    SeenBy s (presentAll (rearmMotion (joinPair (afterAcz s code)))) := by
  have unpresented : Unchanged [.scn] s (rearmMotion (joinPair (afterAcz s code))) :=
    (((applyConversion_frame .acz code s).trans (setConversion_frame .idle _)).trans
      (joinPair_frame _)).trans (withScn_frame _ _)
  have frame : Unchanged [.scn, .attention] s (presentAll (rearmMotion (joinPair (afterAcz s code)))) :=
    (unpresented.weaken (by simp)).trans (presentAll_frame _)
  refine ⟨frame .lps (by simp), frame .afc (by simp), frame .prf (by simp), fun c hc => ?_, ?_⟩
  · obtain ⟨channels, -, -⟩ := joinPair_scn (afterAcz s code)
    have record : (rearmMotion (joinPair (afterAcz s code))).channel c = s.channel c :=
      (congrArg (PerChannel.get · c) channels).trans (afterAcz_channel_of_ne hc s code)
    rw [shownOf, State.channel, presentAll_scn, PerChannel.get_map]
    show ChannelRecord.shown (ChannelRecord.presented (State.channel _ c)) = _
    rw [record]
    rfl
  · exact (RaisesOnly.of_unchanged unpresented (by simp)).trans
      ((presentAll_raises _).weaken (by simp))

/-- The end of a full sweep is LPS's part on the presented values, with what acts beside it. -/
theorem sweepEnd_light (hv : s.scn.conversion = .sweep .acz) (code : Int) :
    ∃ u, SeenBy s u ∧ BesideLps (lightSweep u) (completeConversion .acz code s) := by
  have seen := presentAll_seen s code
  rw [completeConversion_of_last hv]
  obtain ⟨u, before, after⟩ := powerAndDrift_beside (geoSweep (effectiveOrientation (afterAcz s code))
    (presentAll (rearmMotion (joinPair (afterAcz s code)))))
  exact ⟨u, (seen.beside (geoSweep_beside _ _)).beside before, after⟩

/-! ## The trip conditions of a sweep end (R47) -/

theorem lshFaulted_iff (h : SeenBy s u) :
    faultCondition (shownOf u .lsh).condition = true ↔ lshFaulted s := by
  rw [h.shown .lsh (by decide)]
  simp [faultCondition, lshFaulted]

theorem SeenBy.normalTemp (h : SeenBy s u) {c : Channel} (hc : c ≠ .acz) : normalTemp u c =
    if (s.channel c).condition = .normal then (s.channel c).temp else none := by
  rw [Machine.normalTemp, h.shown c hc]

theorem SeenBy.normalTemp_of_normal (h : SeenBy s u) {c : Channel} (hc : c ≠ .acz) {x : Int}
    (normal : (s.channel c).condition = .normal) (temp : (s.channel c).temp = some x) :
    Machine.normalTemp u c = some x := by
  rw [h.normalTemp hc, if_pos normal, temp]

theorem ne_acz_of_thermistor {c : Channel} (h : c ∈ thermistors) : c ≠ .acz := by
  rintro rfl
  simp [thermistors] at h

theorem SeenBy.tripTemp (h : SeenBy s u) (c : Channel) : tripTemp u c = tripTemp s c := by
  rw [Machine.tripTemp, h.prf]
  rfl

/-- A channel that is too hot trips with its temperature. -/
theorem overTemp_of_tooHot (h : SeenBy s u) {c : Channel} (hc : c ∈ thermistors) (hot : tooHot s c) :
    overTemp u c = (s.channel c).temp := by
  obtain ⟨normal, x, temp, above⟩ := hot
  rw [overTemp, h.normalTemp_of_normal (ne_acz_of_thermistor hc) normal temp]
  dsimp only
  rw [h.tripTemp, if_pos above, temp]

theorem overTemp_of_not_tooHot (h : SeenBy s u) {c : Channel} (hc : c ∈ thermistors)
    (cool : ¬tooHot s c) : overTemp u c = none := by
  rw [overTemp, h.normalTemp (ne_acz_of_thermistor hc)]
  split
  · rfl
  · rename_i x temp
    rw [h.tripTemp]
    refine if_neg fun above => cool ?_
    split at temp
    · exact ⟨‹_›, x, temp, above⟩
    · cases temp

theorem overTemp_isSome_iff (h : SeenBy s u) {c : Channel} (hc : c ∈ thermistors) :
    (overTemp u c).isSome = true ↔ tooHot s c := by
  refine ⟨fun some => by_contra fun cool => ?_, fun hot => ?_⟩
  · rw [overTemp_of_not_tooHot h hc cool] at some
    cases some
  · rw [overTemp_of_tooHot h hc hot]
    obtain ⟨-, x, temp, -⟩ := hot
    rw [temp]
    rfl

/-- In a list in rising order of a number, the search for a property finds the one of smallest number. -/
theorem find?_of_least {α : Type} {l : List α} {p : α → Bool} {number : α → Nat}
    (rising : l.Pairwise fun x y => number x < number y) {c : α} (hc : c ∈ l) (hp : p c = true)
    (least : ∀ d ∈ l, number d < number c → p d = false) : l.find? p = some c := by
  induction rising with
  | nil => cases hc
  | @cons a l first _ ih =>
    rcases List.mem_cons.mp hc with rfl | later
    · exact List.find?_cons_of_pos hp
    · rw [List.find?_cons_of_neg (by simp [least a (by simp) (first c later)])]
      exact ih later fun d hd => least d (by simp [hd])

theorem thermistors_rising : thermistors.Pairwise fun x y => channelNumber x < channelNumber y := by
  decide

theorem sweepTrip_of_faulted (h : SeenBy s u) (faulted : lshFaulted s) :
    sweepTrip u = some ⟨.sensorFault, .channel .lsh, none⟩ :=
  if_pos ((lshFaulted_iff h).mpr faulted)

/-- The lowest-numbered channel that is too hot trips (R47). -/
theorem sweepTrip_of_first (h : SeenBy s u) {c : Channel} (hc : c ∈ thermistors)
    (sound : ¬lshFaulted s) (hot : tooHot s c)
    (first : ∀ d ∈ thermistors, channelNumber d < channelNumber c → ¬tooHot s d) :
    sweepTrip u = some ⟨.tempLimit, .channel c, (s.channel c).temp⟩ := by
  have found : thermistors.find? (fun d => (overTemp u d).isSome) = some c :=
    find?_of_least thermistors_rising hc ((overTemp_isSome_iff h hc).mpr hot) fun d hd less =>
      Bool.eq_false_iff.mpr fun k => first d hd less ((overTemp_isSome_iff h hd).mp k)
  rw [sweepTrip, if_neg (mt (lshFaulted_iff h).mp sound), found, ← overTemp_of_tooHot h hc hot]

theorem sweepTrip_of_cool (h : SeenBy s u) (cool : NoTripDue s) : sweepTrip u = none := by
  obtain ⟨sound, cool⟩ := cool
  have none : thermistors.find? (fun d => (overTemp u d).isSome) = none :=
    List.find?_eq_none.mpr fun d hd k => cool d hd ((overTemp_isSome_iff h hd).mp k)
  rw [sweepTrip, if_neg (mt (lshFaulted_iff h).mp sound), none]

theorem sweepTrip_of_due (h : SeenBy s u) (due : lshFaulted s ∨ ∃ c ∈ thermistors, tooHot s c) :
    ∃ x, sweepTrip u = some x := by
  by_contra never
  have none : sweepTrip u = none := Option.eq_none_iff_forall_ne_some.mpr fun x hx => never ⟨x, hx⟩
  by_cases faulted : lshFaulted s
  · exact never ⟨_, sweepTrip_of_faulted h faulted⟩
  · obtain ⟨c, hc, hot⟩ := due.resolve_left faulted
    rw [sweepTrip, if_neg (mt (lshFaulted_iff h).mp faulted)] at none
    split at none
    · rename_i cold
      exact List.find?_eq_none.mp cold c hc ((overTemp_isSome_iff h hc).mpr hot)
    · cases none

/-! ## LPS's part of a sweep end (R44, R47, R50 to R56) -/

theorem enterCooled_lps (s : State) :
    (enterCooled s).lps = { darkIn s.lps .cooled with unplanned := false } := rfl

theorem enterCooled_held (s : State) : HeldOnBoth .state (enterCooled s) :=
  raiseBoth_held .state (s.withLps (s.lps.entering .cooled))

theorem enterCooled_frame (s : State) : Unchanged [.attention, .lps] s (enterCooled s) :=
  (enterPower_frame .cooled s).trans ((withLps_frame _ _).weaken (by simp))

theorem updateDerate_frame (s : State) : Unchanged [.lps] s (updateDerate s) := by
  unfold updateDerate
  split
  · exact .refl _ _
  · exact withLps_frame _ _

theorem updateDerate_trip (s : State) : (updateDerate s).lps.latch = s.lps.latch ∧
    (updateDerate s).lps.lastTrip = s.lps.lastTrip := by
  unfold updateDerate
  split <;> exact ⟨rfl, rfl⟩

/-- What follows the trip test of LPS's part: nothing but its record and the causes changes, neither the
latch nor the trip cause with it, and no cause leaves a pending set. -/
structure AfterTripTest (s t : State) : Prop where
  frame : Unchanged [.attention, .lps] s t
  latch : t.lps.latch = s.lps.latch
  lastTrip : t.lps.lastTrip = s.lps.lastTrip
  held : ∀ d, HeldOnBoth d s → HeldOnBoth d t

theorem AfterTripTest.refl (s : State) : AfterTripTest s s := ⟨.refl _ _, rfl, rfl, fun _ h => h⟩

theorem enterCooled_after (s : State) : AfterTripTest s (enterCooled s) :=
  ⟨enterCooled_frame s, rfl, rfl, fun _ h => (h.raiseOn .state .m).raiseOn .state .s⟩

theorem lightUpdate_after (s : State) : AfterTripTest s (recomputeLight (updateDerate s)) := by
  obtain ⟨latch, lastTrip⟩ := recomputeLight_trip (updateDerate s)
  obtain ⟨latch', lastTrip'⟩ := updateDerate_trip s
  exact ⟨((updateDerate_frame s).weaken (by simp)).trans (recomputeLight_frame _), latch.trans latch',
    lastTrip.trans lastTrip', fun d h => (held_closed d).recomputeLight ((held_closed d).updateDerate h)⟩

theorem lightSweep_after (u : State) : AfterTripTest (tripIf (sweepTrip u) u) (lightSweep u) := by
  unfold lightSweep
  generalize tripIf (sweepTrip u) u = t
  dsimp only
  split
  · split
    · exact enterCooled_after t
    · exact .refl t
  · exact lightUpdate_after t
  · exact .refl t

/-- A trip outside COOLING ends LPS's part of the sweep end. -/
theorem lightSweep_of_trip {x : TripCause} (due : sweepTrip u = some x) (clear : u.lps.latch = false)
    (tested : tripTested u.lps.power = true) (other : u.lps.power ≠ .cooling) :
    lightSweep u = takeTrip x u := by
  have power : (takeTrip x u).lps.power = trippedState u.lps.power := by
    rw [takeTrip_lps]
    split
    · exact Eq.symm ‹_›
    · rfl
  unfold lightSweep
  rw [due, tripIf_of_due clear tested]
  dsimp only
  rw [power]
  cases h : u.lps.power with
  | starting | ready | lit => rfl
  | cooled => exact if_neg (by simp)
  | cooling => exact absurd h other
  | off | tripped => rw [h] at tested; cases tested

/-- In COOLING without a trip LPS makes the cooling completion check (R44). -/
theorem lightSweep_of_cooling (none : sweepTrip u = none ∨ u.lps.latch = true)
    (cooling : u.lps.power = .cooling) :
    lightSweep u = if coolingDone u = true then enterCooled u else u := by
  unfold lightSweep
  rw [tripIf_of_none none]
  simp only [cooling, true_and]

/-- In LIT without a trip LPS updates the derate limit and the limits (R50, R53). -/
theorem lightSweep_of_lit (none : sweepTrip u = none ∨ u.lps.latch = true) (lit : u.lps.power = .lit) :
    lightSweep u = recomputeLight (updateDerate u) := by
  unfold lightSweep
  rw [tripIf_of_none none]
  simp only [lit]

/-- The cooling completion check, with the record of LSH that was converted (R44). -/
theorem coolingDone_iff (h : SeenBy s u) : coolingDone u = true ↔
    ∃ n, s.lps.cooling = some n ∧ (maxCooling s ≤ (n : Int) ∨
      (minCooling s ≤ (n : Int) ∧ (s.channel .lsh).condition = .normal ∧
        ∃ x, (s.channel .lsh).temp = some x ∧ x ≤ coolDone s)) := by
  have parameters : maxCooling u = maxCooling s ∧ minCooling u = minCooling s ∧
      coolDone u = coolDone s := by
    simp only [maxCooling, minCooling, coolDone, h.prf, and_self]
  obtain ⟨longest, least, done⟩ := parameters
  unfold coolingDone
  rw [h.lps, h.normalTemp (c := .lsh) (by decide), longest, least, done]
  cases s.lps.cooling with
  | none => simp
  | some n =>
    by_cases normal : (s.channel .lsh).condition = .normal
    · cases temp : (s.channel .lsh).temp with
      | none => simp [normal]
      | some x => simp [normal]; tauto
    · simp [normal]

/-- The effective limit is the smallest of the derate limit and the caps in force (R50, R54, R55). -/
theorem effectiveLimit_eq (s : State) : effectiveLimit s = limitUnder s s.lps.derate := by
  have quiet : quietCapped s = true ↔ s.afc.mode = .quiet ∧ (s.afc.fans.f0.capped ||
      s.afc.fans.f1.capped || s.afc.fans.f2.capped) = true := by
    simp [quietCapped, allFans, PerFan.get, or_assoc]
  have loss : fanLossCapped s = true ↔ failedCount s.afc.fans = 1 := by simp [fanLossCapped]
  unfold effectiveLimit limitUnder
  simp only [quiet, loss]

theorem crossesFull_iff (a b : Int) : crossesFull a b = true ↔ ¬(a = 1000 ↔ b = 1000) := by
  unfold crossesFull
  by_cases h : a = 1000 <;> by_cases k : b = 1000 <;> simp [h, k]

/-- In LIT with LSH NORMAL the light follows its temperature. -/
theorem lightUpdate_follows {x : Int} (lit : s.lps.power = .lit) (temp : normalTemp s .lsh = some x) :
    LightFollows x s (recomputeLight (updateDerate s)) := by
  have update : updateDerate s = s.withLps { s.lps with derate := derateAfter s s.lps.derate x } := by
    unfold updateDerate
    rw [temp]
  have limit : effectiveLimit (updateDerate s) = limitUnder s (derateNext s s.lps.derate x) := by
    rw [effectiveLimit_eq, update]
    rfl
  have stays : (updateDerate s).lps.power = .lit ∧ (updateDerate s).lps.effLimit = s.lps.effLimit := by
    rw [update]
    exact ⟨lit, rfl⟩
  obtain ⟨lit, before⟩ := stays
  unfold recomputeLight
  rw [if_pos lit, limit, before, update]
  dsimp only
  split
  · exact ⟨rfl, fun _ => raiseBoth_held _ _, fun same => absurd ((crossesFull_iff _ _).mp ‹_›) same⟩
  · exact ⟨rfl, fun crosses => absurd ((crossesFull_iff _ _).mpr crosses) ‹_›, fun _ => ⟨rfl, rfl⟩⟩

theorem derateNext_of_prf (h : t.prf = v.prf) (d x : Int) : derateNext t d x = derateNext v d x := by
  unfold derateNext limitAt derateStart derateEnd derateFloor derateHyst
  rw [h]

theorem limitUnder_of_afc (h : t.afc = v.afc) (d : Int) : limitUnder t d = limitUnder v d := by
  unfold limitUnder
  rw [h]

/-- What the light follows depends on the profile, the fans, the record of LPS and LIGHT alone. -/
theorem LightFollows.transfer {x : Int} (h : LightFollows x u v) (seen : SeenBy s u)
    (beside : BesideLps v t) : LightFollows x s t := by
  have derate := derateNext_of_prf (beside.frame .prf (by simp))
  have under := limitUnder_of_afc (beside.frame .afc (by simp))
  have lps : t.lps = v.lps := beside.frame .lps (by simp)
  obtain ⟨record, raised, kept⟩ := h
  rw [seen.lps] at record raised kept
  unfold LightFollows
  simp only [derate, under, lps]
  exact ⟨record, fun crosses => beside.causes.held (by decide) (raised crosses), fun same =>
    (seen.causes .light (by decide)).trans ((kept same).trans (beside.causes .light (by decide)))⟩

/-! ## The sweep end (R47, R48, R44, R50) -/

/-- A trip outside COOLING changes the power state. -/
theorem trippedState_ne {p : Power} (tested : tripTested p = true) (other : p ≠ .cooling) :
    trippedState p ≠ p := by
  revert tested other
  cases p <;> decide

/-- A trip is taken at the sweep end: the latch, the cause, the fans, TRIP, and where LPS goes. -/
theorem sweepEnd_of_trip {x : TripCause} (seen : SeenBy s u) (beside : BesideLps (lightSweep u) t)
    (due : sweepTrip u = some x) (clear : s.lps.latch = false) (tested : tripTested s.lps.power = true) :
    t.lps.lastTrip = some x ∧ t.lps.latch = true ∧
    (s.lps.power ≠ .cooling → t.lps.lightEn = false ∧ t.lps.lightLevel = 0) ∧
    HeldOnBoth .trip t ∧ (∀ f, (t.afc.fans.get f).duty = 1000) ∧
    (s.lps.power = .starting ∨ s.lps.power = .ready ∨ s.lps.power = .lit → t.lps.power = .tripped) ∧
    (s.lps.power = .cooled → t.lps.power = .cooling ∧ t.lps.cutOk = false) := by
  rw [← seen.lps] at clear tested
  rw [← seen.lps]
  have lps : t.lps = (lightSweep u).lps := beside.frame .lps (by simp)
  have afc : t.afc = (lightSweep u).afc := beside.frame .afc (by simp)
  have after := lightSweep_after u
  rw [due, tripIf_of_due clear tested] at after
  have elsewhere : u.lps.power ≠ .cooling →
      t.lps = (darkIn u.lps (trippedState u.lps.power)).latched x := fun other => by
    rw [lps, lightSweep_of_trip due clear tested other, takeTrip_lps,
      if_neg (trippedState_ne tested other)]
  obtain ⟨latch, lastTrip⟩ := takeTrip_latch x u
  refine ⟨?_, ?_, fun other => ?_, ?_, fun f => ?_, fun h => ?_, fun h => ?_⟩
  · rw [lps, after.lastTrip, lastTrip]
  · rw [lps, after.latch, latch]
  · rw [elsewhere other]
    exact ⟨rfl, rfl⟩
  · exact beside.causes.held (by decide) (after.held .trip (takeTrip_held x u))
  · have fans : t.afc = (takeTrip x u).afc := afc.trans (after.frame .afc (by simp))
    rw [fans, takeTrip_afc, PerFan.get_map]
  · rw [elsewhere (by rcases h with h | h | h <;> simp [h])]
    rcases h with h | h | h <;> rw [h] <;> rfl
  · rw [elsewhere (by simp [h]), h]
    exact ⟨rfl, rfl⟩

/-- Settles O38: LPS's part on the values as they were converted, by the trip that is due. -/
theorem sweepEndTripsOnTemperature : Obligations.SweepEndTripsOnTemperature := by
  intro k s awake hv faulted hot
  obtain ⟨u, seen, beside⟩ := sweepEnd_light hv k.toNat
  have lps : (completeConversion .acz k.toNat s).lps = (lightSweep u).lps := beside.frame .lps (by simp)
  have noTrip : s.lps.latch = true ∨ NoTripDue s → sweepTrip u = none ∨ u.lps.latch = true := fun h => by
    rw [seen.lps]
    exact h.symm.imp_left (sweepTrip_of_cool seen)
  refine ⟨_, exec_event rfl awake, fun clear tested => ⟨fun h => ?_, fun c hc sound h first => ?_,
    fun h => ?_, fun sound cool => ?_⟩, fun cooling h => ⟨fun passes => ?_, fun fails => ?_⟩,
    fun lit h x normal temp => ?_⟩
  · exact (sweepEnd_of_trip seen beside (sweepTrip_of_faulted seen h) clear tested).1
  · exact (sweepEnd_of_trip seen beside (sweepTrip_of_first seen hc sound h first) clear tested).1
  · obtain ⟨x, due⟩ := sweepTrip_of_due seen h
    obtain ⟨-, latch, dark, ⟨heldM, heldS⟩, rest⟩ := sweepEnd_of_trip seen beside due clear tested
    exact ⟨latch, dark, heldM, heldS, rest⟩
  · have after := lightSweep_after u
    rw [tripIf_of_none (noTrip (.inr ⟨sound, cool⟩))] at after
    rw [lps, after.latch, after.lastTrip, seen.lps]
    exact ⟨clear, rfl⟩
  · have light := lightSweep_of_cooling (noTrip h) (seen.lps ▸ cooling)
    rw [if_pos ((coolingDone_iff seen).mpr passes)] at light
    rw [light] at lps beside
    rw [lps, enterCooled_lps, seen.lps]
    exact ⟨rfl, beside.causes.held (by decide) (enterCooled_held u)⟩
  · have light := lightSweep_of_cooling (noTrip h) (seen.lps ▸ cooling)
    rw [if_neg (mt (coolingDone_iff seen).mp fails)] at light
    rw [light] at lps beside
    exact ⟨lps.trans seen.lps,
      (seen.causes .state (by decide)).trans (beside.causes .state (by decide))⟩
  · have lit : u.lps.power = .lit := seen.lps ▸ lit
    have follows := lightUpdate_follows lit (seen.normalTemp_of_normal (by decide) normal temp)
    rw [← lightSweep_of_lit (noTrip h) lit] at follows
    exact follows.transfer seen beside

end Sys2Proof.Machine
end

section
/-! The acoustic mode. A change of it is a grant occasion: what an occasion can do to the axes that run, and
which record a QUIET part at rest grants and how, are said first. -/

namespace Sys2Proof.Machine

variable {s t u : State}

/-! ## Taking a command (R155) -/

/-- A command that passes the four checks has its effect and is answered with what it returns. -/
theorem takeCommand_of_accepted {α : Type} {c : Cmd} {parse : List Byte → Option α}
    {run : α → State → State × Answer} {p : Port} {d : List Byte} {x : α} (awake : s.inReset = false)
    (permitted : cmdPermitted c p = true) (length : cmdLengthOk c d.length = true)
    (parsed : parse d = some x) : takeCommand c parse run p d s =
      respond p (cmdCode c) (run x (shiftOut p (d.length + 2) s)).2
        (run x (shiftOut p (d.length + 2) s)).1 := by
  simp only [takeCommand, checkCommand, awake, permitted, length, parsed, Bool.false_eq_true,
    Bool.true_eq_false, if_false]

/-! ## Eligibility (R90) -/

theorem eligible_iff (s : State) (q : Request) : eligible s q = true ↔ Eligible s q := by
  have follow : followFree s q.follow = true ↔
      ∀ f, q.follow = some f → running s f = false ∧ s.msc.pending.get f = none := by
    cases q.follow <;> simp [followFree]
  have drift : (q.source != .drift || s.lps.power == .lit) = true ↔
      (q.source = .drift → s.lps.power = .lit) := by
    simp [imp_iff_not_or]
  unfold eligible Eligible
  rw [Bool.and_eq_true, Bool.and_eq_true, follow, drift, and_assoc, Bool.not_eq_true']

theorem axisEligible_iff (s : State) (a : Axis) : axisEligible s a = true ↔
    ∃ q, s.msc.pending.get a = some q ∧ Eligible s q := by
  unfold axisEligible
  cases s.msc.pending.get a with
  | none => simp
  | some q => simp [eligible_iff]

/-! ## The selection (R92) -/

theorem oldest_mem {l : List Axis} {a : Axis} (h : oldest s l = some a) : a ∈ l := by
  induction l with
  | nil => cases h
  | cons b rest ih =>
    unfold oldest at h
    split at h
    · cases h
      exact List.mem_cons_self
    · rename_i c hc
      split at h
      · exact List.mem_cons_of_mem _ (ih (hc.trans h))
      · cases h
        exact List.mem_cons_self

theorem allowed_of_selectAmong {allowed : Axis → Bool} {a : Axis}
    (h : selectAmong s allowed = some a) : allowed a = true := by
  unfold selectAmong at h
  split at h
  · exact List.find?_some h
  · exact (List.mem_filter.mp (oldest_mem h)).2

/-- A grant goes to an axis with an eligible record. -/
theorem eligible_of_selectGrant {x : Option Axis} {a : Axis} (h : selectGrant s x = some a) :
    axisEligible s a = true := by
  unfold selectGrant at h
  split at h
  · rename_i b hb
    cases h
    have both := allowed_of_selectAmong hb
    rw [Bool.and_eq_true] at both
    exact both.1
  · exact allowed_of_selectAmong h

/-- The place of an axis on the ring from another on (R92). -/
def ringPlace (favoured a : Axis) : Nat := (axisNumber a + 4 - axisNumber favoured) % 4

theorem ringFrom_rising (f : Axis) : (ringFrom f).Pairwise fun x y => ringPlace f x < ringPlace f y := by
  cases f <;> decide

theorem mem_ringFrom (f a : Axis) : a ∈ ringFrom f := by
  cases f <;> cases a <;> decide

theorem mem_allAxes (a : Axis) : a ∈ allAxes := by cases a <;> decide

/-- The one axis of a list whose stamp is below all others is its oldest. -/
theorem oldest_of_least {l : List Axis} {a : Axis} (ha : a ∈ l)
    (least : ∀ b ∈ l, b ≠ a → stampOf s a < stampOf s b) : oldest s l = some a := by
  induction l with
  | nil => cases ha
  | cons b rest ih =>
    unfold oldest
    by_cases hb : b = a
    · subst hb
      split
      · rfl
      · rename_i c hc
        refine if_neg fun younger => ?_
        by_cases same : c = b
        · exact absurd younger (by simp [same])
        · exact absurd younger (by have := least c (by simp [oldest_mem hc]) same; omega)
    · have later : a ∈ rest := (List.mem_cons.mp ha).resolve_left (Ne.symm hb)
      rw [ih later fun c hc => least c (by simp [hc])]
      exact if_pos (least b (by simp) hb)

/-- The record whose turn it is: first on the ring under ROTATING, of the oldest stamp under FIXED. -/
def HasTheTurn (s : State) (a : Axis) (q : Request) : Prop :=
  ∀ c r, c ≠ a → s.msc.pending.get c = some r → Eligible s r →
    if policyRotating s = true then ringPlace s.msc.favoured a < ringPlace s.msc.favoured c
    else q.book.stamp < r.book.stamp

theorem stampOf_eq {a : Axis} {q : Request} (h : s.msc.pending.get a = some q) :
    stampOf s a = q.book.stamp := by
  rw [stampOf, h]

/-- An occasion at which no axis has just yielded selects the record whose turn it is. -/
theorem selectGrant_of_turn {a : Axis} {q : Request} (hq : s.msc.pending.get a = some q)
    (eligible : Eligible s q) (turn : HasTheTurn s a q) : selectGrant s none = some a := by
  have allowed : (fun b => axisEligible s b && none != some b) = axisEligible s := by
    funext b
    simp
  have mine : axisEligible s a = true := (axisEligible_iff s a).mpr ⟨q, hq, eligible⟩
  have selected : selectAmong s (axisEligible s) = some a := by
    unfold selectAmong
    split
    · rename_i rotating
      refine find?_of_least (ringFrom_rising _) (mem_ringFrom _ a) mine fun c _ before => ?_
      refine Bool.eq_false_iff.mpr fun k => ?_
      obtain ⟨r, hr, also⟩ := (axisEligible_iff s c).mp k
      have after := turn c r (by rintro rfl; omega) hr also
      rw [if_pos rotating] at after
      omega
    · rename_i fixed
      refine oldest_of_least (List.mem_filter.mpr ⟨mem_allAxes a, mine⟩) fun c hc other => ?_
      obtain ⟨r, hr, also⟩ := (axisEligible_iff s c).mp (List.mem_filter.mp hc).2
      have older := turn c r other hr also
      rw [if_neg fixed] at older
      rwa [stampOf_eq hq, stampOf_eq hr]
  rw [selectGrant, allowed, selected]

/-! ## What a grant changes of the axes (R66, R91) -/

theorem OnlyAxes.trans {l : List Axis} (h : OnlyAxes l s t) (k : OnlyAxes l t u) : OnlyAxes l s u :=
  fun a ha => (k a ha).trans (h a ha)

theorem OnlyAxes.of_ldu {l : List Axis} (h : t.ldu = s.ldu) : OnlyAxes l s t := fun a _ => by
  unfold State.axis
  rw [h]

theorem startMove_axes (a : Axis) (p goal : Int) (d : DriveSlot) (s : State) :
    OnlyAxes [a] s (startMove a p goal d s) := by
  unfold startMove
  dsimp only
  split
  · exact .of_ldu rfl
  · exact setAxis_only s a _

theorem lduGrant_axes (a : Axis) (q : Request) (d : DriveSlot) (s : State) :
    OnlyAxes [a] s (lduGrant a q d s) := by
  have taken := fun r => setAxis_only s a r
  unfold lduGrant
  split
  · exact setAxis_only s a _
  · unfold grantMove
    dsimp only
    split
    · exact (taken _).trans (finishForce_axes _ _ _ _ _).2
    · split
      · exact (taken _).trans (finishForce_axes _ _ _ _ _).2
      · exact (taken _).trans (startMove_axes _ _ _ _ _)
  · exact (taken _).trans (finishForce_axes _ _ _ _ _).2

/-- The state in which MSC has handed a record to LDU: it has left the list, the pointer has moved on, it is
in force, and a member of the group is RUNNING (R91). -/
def handedOver (a : Axis) (q : Request) (s : State) : State :=
  let s1 := s.withMsc { s.msc with
    pending := s.msc.pending.set a none, favoured := nextAxis a,
    inForce := s.msc.inForce.set a (some q.book) }
  if q.book.member then setProgress a .running s1 else s1

theorem grantOne_eq {a : Axis} {q : Request} (h : s.msc.pending.get a = some q) (d : DriveSlot) :
    grantOne a d s = lduGrant a q d (handedOver a q s) := by
  unfold grantOne
  rw [h]
  rfl

theorem setProgress_eq (a : Axis) (p : Progress) (s : State) : ∃ g,
    setProgress a p s = s.withMsc { s.msc with group := g } := by
  unfold setProgress
  split
  · exact ⟨s.msc.group, rfl⟩
  · exact ⟨_, rfl⟩

/-- The hand-over changes the list, the pointer, what is in force and the group, all in MSC. -/
theorem handedOver_eq (a : Axis) (q : Request) (s : State) : ∃ x, handedOver a q s = s.withMsc x ∧
    x.pending = s.msc.pending.set a none ∧ x.favoured = nextAxis a ∧
    x.inForce = s.msc.inForce.set a (some q.book) := by
  unfold handedOver
  dsimp only
  split
  · obtain ⟨g, progress⟩ := setProgress_eq a .running (s.withMsc { s.msc with
      pending := s.msc.pending.set a none, favoured := nextAxis a,
      inForce := s.msc.inForce.set a (some q.book) })
    exact ⟨_, progress, rfl, rfl, rfl⟩
  · exact ⟨_, rfl, rfl, rfl, rfl⟩

theorem grantOne_axes (a : Axis) (d : DriveSlot) (s : State) : OnlyAxes [a] s (grantOne a d s) := by
  cases h : s.msc.pending.get a with
  | none =>
    unfold grantOne
    rw [h]
    exact .of_ldu rfl
  | some q =>
    obtain ⟨x, handed, -⟩ := handedOver_eq a q s
    rw [grantOne_eq h, handed]
    exact lduGrant_axes a q d (s.withMsc x)

/-- With every pending record in its own axis's place, grants leave the axes that run as they were. -/
theorem grantLoop_running (x : Option Axis) (n : Nat) {a : Axis} (placed : s.msc.Placed)
    (runs : running s a = true) : (grantLoop x n s).axis a = s.axis a := by
  induction n generalizing s with
  | zero => rfl
  | succ n ih =>
    unfold grantLoop
    split
    · rfl
    · split
      · rename_i b d selected free
        obtain ⟨q, hq, rests, -⟩ := (axisEligible_iff s b).mp (eligible_of_selectGrant selected)
        rw [placed b q hq] at rests
        have other : a ≠ b := by
          rintro rfl
          exact absurd (runs.symm.trans rests) (by decide)
        have same : (grantOne b d s).axis a = s.axis a := grantOne_axes b d s a (by simpa using other)
        have still : running (grantOne b d s) a = true := by rwa [running, same]
        rw [ih (grantOne_keeps placed_closed.toLensClosed b d free placed) still, same]
      · rfl

/-! ## The record of an axis that a grant starts (R64, R66, R76) -/

/-- The record of an axis that has been granted a request and has started: its slot, what it takes over from
the request, and for a move its path and its rate. -/
structure Started (s : State) (a : Axis) (q : Request) (d : DriveSlot) (r : AxisRecord) : Prop where
  slot : r.slot = some d
  drvEn : r.drvEn = true
  segment : r.segment = 0
  tag : r.tag = some q.tag
  source : r.source = some q.source
  home : q.kind = .home → r.state = .homing
  move : ∀ p, q.kind ≠ .home → (s.axis a).position = some p →
    r.state = .moving ∧ r.mode = some q.mode ∧ r.target = some (goalFrom s a p q.kind) ∧
      r.start = some p ∧ r.rate = some (axisRate s a)

theorem resolve_eq (s : State) (a : Axis) (p : Int) (k : ReqKind) (h : k ≠ .home) :
    resolve (axisMaximum s a) p k = goalFrom s a p k := by
  cases k with
  | home => exact absurd rfl h
  | absolute v => rfl
  | relative v => rfl

/-- Between two different positions there is a path. -/
theorem planFrom_of_ne {p goal : Int} (h : goal ≠ p) (backlash : Int) (d : Direction) :
    ∃ x, planFrom p goal backlash d = some x := by
  unfold planFrom
  dsimp only
  split
  · exact ⟨_, rfl⟩
  · split
    · exact ⟨_, rfl⟩
    · omega

theorem grantHome_started {q : Request} (h : q.kind = .home) (a : Axis) (d : DriveSlot) (s : State) :
    ∃ r, grantHome a q d s = markMotion (s.setAxis a r) ∧ Started s a q d r := by
  refine ⟨_, rfl, ?_⟩
  unfold AxisRecord.firstStage
  split <;> exact ⟨rfl, rfl, rfl, rfl, rfl, fun _ => rfl, fun _ other => absurd h other⟩

theorem setAxis_setAxis (s : State) (a : Axis) (x y : AxisRecord) :
    (s.setAxis a x).setAxis a y = s.setAxis a y := by
  simp [State.setAxis, State.withLdu]

/-- The record of an axis that starts on a path (R66). -/
theorem startMove_of_plan {a : Axis} {p goal : Int} {x : Plan}
    (plan : planFrom p goal (axisBacklash s a) (s.axis a).lastStep = some x) (d : DriveSlot) :
    startMove a p goal d s = markMotion (s.setAxis a
      (AxisRecord.beginPlan
        { (s.axis a).holding d with state := .moving, rate := some (axisRate s a) } x)) := by
  unfold startMove
  dsimp only [AxisRecord.holding]
  rw [plan]

theorem grantMove_started {q : Request} {a : Axis} {p : Int} (h : q.kind ≠ .home)
    (position : (s.axis a).position = some p) (free : ¬((s.axis a).switch = true ∧ 200 < p))
    (away : goalFrom s a p q.kind ≠ p) (d : DriveSlot) :
    ∃ r, grantMove a q p d s = markMotion (s.setAxis a r) ∧ Started s a q d r := by
  obtain ⟨x, plan⟩ := planFrom_of_ne away (axisBacklash s a) (s.axis a).lastStep
  have free : ¬((s.axis a).switch = true ∧ homeWindow < p) := free
  have start : grantMove a q p d s = startMove a p (goalFrom s a p q.kind) d
      (s.setAxis a ((s.axis a).granted q (some (goalFrom s a p q.kind)) (some p))) := by
    unfold grantMove
    dsimp only
    rw [resolve_eq s a p q.kind h, if_neg free, if_neg away]
  rw [start, startMove_of_plan (x := x) (by rw [State.setAxis_axis_self]; exact plan), setAxis_setAxis,
    State.setAxis_axis_self]
  refine ⟨_, rfl, rfl, rfl, rfl, rfl, rfl, fun home => absurd home h, fun p' _ position' => ?_⟩
  cases Option.some.inj (position.symm.trans position')
  exact ⟨rfl, rfl, rfl, rfl, rfl⟩

/-- A request that starts its axis when it is granted starts it. -/
theorem lduGrant_started {q : Request} {a : Axis} (starts : StartsWhenGranted s a q) (d : DriveSlot) :
    ∃ r, lduGrant a q d s = markMotion (s.setAxis a r) ∧ Started s a q d r := by
  by_cases home : q.kind = .home
  · have grant : lduGrant a q d s = grantHome a q d s := by
      unfold lduGrant
      rw [home]
    rw [grant]
    exact grantHome_started home a d s
  · obtain ⟨p, position, free, away⟩ := starts.resolve_left home
    have grant : lduGrant a q d s = grantMove a q p d s := by
      unfold lduGrant
      rw [position]
      cases h : q.kind with
      | home => exact absurd h home
      | absolute v => rfl
      | relative v => rfl
    rw [grant]
    exact grantMove_started home position free away d

/-! ## A grant occasion of a QUIET part at rest (R63, R91) -/

theorem runningCount_eq_zero (still : ∀ c, running s c = false) : runningCount s = 0 := by
  simp [runningCount, still]

theorem runningCount_pos {a : Axis} (runs : running s a = true) : 1 ≤ runningCount s :=
  List.length_pos_of_mem (List.mem_filter.mpr ⟨mem_allAxes a, runs⟩)

theorem freeSlot_of_still (still : ∀ c, running s c = false) : freeSlot s = some .slot0 := by
  have none : ∀ c, (s.axis c).slot = none := fun c => by simpa [running] using still c
  simp [freeSlot, slotHeld, none]

/-- With one slot and nothing running an occasion makes one grant, when that starts its axis. -/
theorem grantOccasion_of_quiet {a : Axis} (quiet : s.afc.mode = .quiet)
    (still : ∀ c, running s c = false) (selected : selectGrant s none = some a)
    (started : running (grantOne a .slot0 s) a = true) :
    grantOccasion none s = grantOne a .slot0 s := by
  have mode : (grantOne a .slot0 s).afc.mode = .quiet := by
    rw [grantOne_keeps (lens_frame s) a .slot0 (freeSlot_of_still still) (.refl _ _) .afc (by simp)]
    exact quiet
  have one : ∀ t : State, t.afc.mode = .quiet → slotCount t = 1 := fun t h => if_pos h
  unfold grantOccasion
  rw [grantLoop, one s quiet, runningCount_eq_zero still, selected, freeSlot_of_still still,
    if_neg (by decide)]
  dsimp only
  rw [grantLoop, one _ mode, if_pos (runningCount_pos started)]

/-- The occasion grants slot 0 to the record whose turn it is: its axis starts, the other axes stay, the
others wait on, and the pointer moves on (R90 to R92). -/
theorem grantOccasion_of_turn {a : Axis} {q : Request} (quiet : s.afc.mode = .quiet)
    (still : ∀ c, running s c = false) (hq : s.msc.pending.get a = some q) (eligible : Eligible s q)
    (starts : StartsWhenGranted s a q) (turn : HasTheTurn s a q) :
    let t := grantOccasion none s
    OnlyAxes [a] s t ∧ t.msc.pending = s.msc.pending.set a none ∧ t.msc.favoured = nextAxis a ∧
      t.msc.inForce.get a = some q.book ∧ Started s a q .slot0 (t.axis a) := by
  obtain ⟨x, handed, pending, favoured, inForce⟩ := handedOver_eq a q s
  obtain ⟨r, grant, started⟩ := lduGrant_started (s := s.withMsc x) (a := a) (q := q) starts .slot0
  have one : grantOne a .slot0 s = markMotion ((s.withMsc x).setAxis a r) := by
    rw [grantOne_eq hq, handed, grant]
  have axis : (grantOne a .slot0 s).axis a = r := by
    rw [one]
    exact State.setAxis_axis_self _ a r
  have runs : running (grantOne a .slot0 s) a = true := by
    rw [running, axis, started.slot]
    rfl
  dsimp only
  rw [grantOccasion_of_quiet quiet still (selectGrant_of_turn hq eligible turn) runs]
  have msc : (grantOne a .slot0 s).msc = x := by
    rw [one]
    rfl
  rw [msc, pending, favoured, inForce, axis]
  exact ⟨grantOne_axes a .slot0 s, rfl, rfl, PerAxis.get_set_self _ a _, started.slot, started.drvEn,
    started.segment, started.tag, started.source, started.home, started.move⟩

/-! ## The row -/

theorem setAcoustic_of_same {m : AcousticMode} (h : s.afc.mode = m) : setAcoustic m s = s := if_pos h

theorem setAcoustic_of_change {m : AcousticMode} (h : s.afc.mode ≠ m) :
    setAcoustic m s = grantOccasion none (s.withAfc { s.afc with mode := m }) := if_neg h

theorem setAcoustic_frame (m : AcousticMode) (s : State) :
    Unchanged [.attention, .afc, .scn, .ldu, .msc, .fdt, .geo, .bkm] s (setAcoustic m s) := by
  unfold setAcoustic
  split
  · exact .refl _ _
  · exact ((withAfc_frame s _).weaken (by simp)).trans
      ((grantOccasion_keeps (lens_frame _) none (.refl _ _)).weaken (by simp))

theorem setAcoustic_afc (m : AcousticMode) (s : State) :
    (setAcoustic m s).afc = { s.afc with mode := m } := by
  by_cases h : s.afc.mode = m
  · rw [setAcoustic_of_same h, ← h]
  · rw [setAcoustic_of_change h]
    exact grantOccasion_keeps (lens_frame (s.withAfc { s.afc with mode := m })) none (.refl _ _)
      .afc (by simp)

/-- A change of the acoustic mode leaves the axes that run as they were. -/
theorem setAcoustic_running (m : AcousticMode) (placed : s.msc.Placed) {a : Axis}
    (runs : running s a = true) : (setAcoustic m s).axis a = s.axis a := by
  unfold setAcoustic
  split
  · rfl
  · exact grantLoop_running none 4 (s := s.withAfc { s.afc with mode := m }) placed runs

/-- The state in which the frame of ACOUSTIC has been taken and the mode has been set. -/
def acousticSet (m : AcousticMode) (s : State) : State := setAcoustic m (shiftOut .m 3 s)

theorem exec_acoustic {b : Byte} {m : AcousticMode} (awake : s.inReset = false)
    (mode : acousticOfByte b = some m) : exec (.acoustic .m [b]) s =
      .next (respond .m 0x12 (answerOk []) (acousticSet m s)) :=
  (exec_next _ s).trans (congrArg _ (takeCommand_of_accepted awake rfl rfl mode))

/-- Settles O29: the frames of a grant occasion, and the one grant of a QUIET part at rest. -/
theorem acousticSetsTheMode : Obligations.AcousticSetsTheMode := by
  intro b m s awake mode ring
  have frame := setAcoustic_frame m (shiftOut .m 3 s)
  refine ⟨_, exec_acoustic awake mode, respond_answered .m 0x12 [b] (answerOk []) (frame .ports (by simp)),
    ?_, setAcoustic_afc m _, fun same => ?_,
    fun placed a runs => setAcoustic_running (s := shiftOut .m 3 s) m placed runs,
    fun a q placed quiet loud still hq eligible starts turn => ?_⟩
  · exact ((shiftOut_frame .m 3 s).weaken (by simp)).trans
      ((frame.weaken (by simp)).trans ((respond_frame _ _ _ _).weaken (by simp)))
  · rw [acousticSet, setAcoustic_of_same (s := shiftOut .m 3 s) same.symm]
    exact (shiftOut_frame .m 3 s).trans (respond_frame _ _ _ _)
  · obtain ⟨only, pending, favoured, inForce, started⟩ := grantOccasion_of_turn
      (s := (shiftOut .m 3 s).withAfc { s.afc with mode := m }) quiet still hq eligible starts turn
    have set : acousticSet m s =
        grantOccasion none ((shiftOut .m 3 s).withAfc { s.afc with mode := m }) :=
      setAcoustic_of_change (s := shiftOut .m 3 s) (quiet ▸ loud)
    rw [set]
    refine ⟨only, pending, favoured, inForce, started.slot, started.drvEn, started.segment, started.tag,
      started.source, started.home, fun p move position => ?_⟩
    obtain ⟨moving, grantMode, target, start, rate⟩ := started.move p move position
    refine ⟨moving, grantMode, target, start, rate.trans ?_⟩
    rw [axisRate, State.withAfc_afc, if_pos quiet]
    rfl

end Sys2Proof.Machine
end

section
/-! SUPPORT. The power law in two parts: what the record of LPS satisfies by itself, and what it owes to the
fans. A gate end changes the fans before LPS acts, so between the two only the first part holds. -/

namespace Sys2Proof.Machine

variable {s t : State} {x y : Lps} {p : Power}

/-- What the record of LPS in LIT satisfies by itself (R40, R42, R50, R51). -/
def Lps.Shining (x : Lps) : Prop :=
  x.cover = .closed ∧ x.effLimit ≤ x.derate ∧
    ∃ r, x.request = some r ∧ 100 ≤ r ∧ r ≤ 1000 ∧ x.lightLevel = min r x.effLimit

/-- The part of the power law that speaks of the record of LPS alone; `resetting` says whether a part reset
runs. -/
structure Lps.Lawful (resetting : Bool) (x : Lps) : Prop where
  cutOk : x.cutOk = (!resetting && cutAllowed x.power)
  resetOff : resetting = true → x.power = .off
  lightEn : x.lightEn = (x.power == .lit)
  light : x.power = .lit → x.Shining
  dark : x.power ≠ .lit →
    x.lightLevel = 0 ∧ x.request = none ∧ x.derate = 1000 ∧ x.effLimit = 1000
  latchIn : x.latch = true → x.power = .tripped ∨ x.power = .cooling ∨ x.power = .cooled
  tripped : x.power = .tripped → x.latch = true
  cooling : x.cooling.isSome = true ↔ x.power = .cooling ∨ x.power = .cooled
  deadline : x.deadline.isSome = true ↔ x.power = .starting
  proven : x.power = .ready ∨ x.power = .lit → x.proven = true

/-- The fan-loss cap bounds the limit in LIT (R55). -/
def LossCapped (s : State) : Prop :=
  s.lps.power = .lit → failedCount s.afc.fans = 1 → s.lps.effLimit ≤ 600

/-- No fan trip condition is left untripped (R47). -/
def FansTripped (s : State) : Prop :=
  tripTested s.lps.power = true → s.lps.latch = false → FansFit s

theorem powerLaw_iff (s : State) :
    PowerLaw s ↔ s.lps.Lawful s.inReset ∧ LossCapped s ∧ FansTripped s := by
  constructor
  · rintro ⟨cutOk, resetOff, lightEn, light, dark, latchIn, tripped, cooling, deadline, proven, fit⟩
    refine ⟨⟨cutOk, resetOff, lightEn, fun lit => ?_, dark, latchIn, tripped, cooling, deadline, proven⟩,
      fun lit => ?_, fit⟩
    · obtain ⟨cover, limit, -, level⟩ := light lit
      exact ⟨cover, limit, level⟩
    · obtain ⟨-, -, capped, -⟩ := light lit
      exact capped
  · rintro ⟨law, capped, fit⟩
    refine ⟨law.cutOk, law.resetOff, law.lightEn, fun lit => ?_, law.dark, law.latchIn, law.tripped,
      law.cooling, law.deadline, law.proven, fit⟩
    obtain ⟨cover, limit, level⟩ := law.light lit
    exact ⟨cover, limit, capped lit, level⟩

theorem PowerLaw.lawful (h : PowerLaw s) : s.lps.Lawful s.inReset := ((powerLaw_iff s).mp h).1

theorem PowerLaw.fansTripped (h : PowerLaw s) : FansTripped s := ((powerLaw_iff s).mp h).2.2

/-- The power law reads the record of LPS, the fans and whether a part reset runs. -/
theorem PowerLaw.of_eq (h : PowerLaw s) (lps : t.lps = s.lps) (inReset : t.inReset = s.inReset)
    (fans : t.afc.fans = s.afc.fans) : PowerLaw t := by
  unfold PowerLaw LightLaw DarkLaw FansFit at *
  rw [lps, inReset, fans]
  exact h

theorem PowerLaw.of_unchanged {l : List Part} (h : PowerLaw s) (hf : Unchanged l s t)
    (lps : Part.lps ∉ l) (inReset : Part.inReset ∉ l) (afc : Part.afc ∉ l) : PowerLaw t :=
  h.of_eq (hf .lps lps) (hf .inReset inReset) (congrArg Afc.fans (hf .afc afc))

/-- In a state without light the fan-loss cap bounds nothing. -/
theorem powerLaw_of_dark (law : t.lps.Lawful t.inReset) (dark : t.lps.power ≠ .lit)
    (fit : FansTripped t) : PowerLaw t :=
  (powerLaw_iff t).mpr ⟨law, fun lit => absurd lit dark, fit⟩

/-- Trip conditions are not tested in OFF (R47). -/
theorem on_of_tested (h : tripTested p = true) : p ≠ .off := by
  rintro rfl
  cases h

/-! ## The record of LPS -/

namespace Lps.Lawful

variable {b : Bool}

/-- A part reset runs only in OFF (R173). -/
theorem awake (law : x.Lawful b) (on : x.power ≠ .off) : b = false :=
  Bool.eq_false_iff.mpr fun running => on (law.resetOff running)

/-- The latch is clear outside TRIPPED, COOLING and COOLED (R48). -/
theorem clear (law : x.Lawful b) (h : x.power ≠ .tripped ∧ x.power ≠ .cooling ∧ x.power ≠ .cooled) :
    x.latch = false := by
  obtain ⟨tripped, cooling, cooled⟩ := h
  refine Bool.eq_false_iff.mpr fun latched => ?_
  rcases law.latchIn latched with k | k | k <;> contradiction

/-- The cooling timer is stopped outside COOLING and COOLED (R39, R46). -/
theorem uncooled (law : x.Lawful b) (h : x.power ≠ .cooling ∧ x.power ≠ .cooled) : x.cooling = none := by
  obtain ⟨cooling, cooled⟩ := h
  refine Option.not_isSome_iff_eq_none.mp fun runs => ?_
  rcases law.cooling.mp runs with k | k <;> contradiction

/-- A record without light is lawful when its latch, timers and fans-proven mark suit its state. -/
theorem of_dark (dark : y = { darkIn y p with deadline := y.deadline }) (notLit : p ≠ .lit)
    (latchIn : y.latch = true → p = .tripped ∨ p = .cooling ∨ p = .cooled)
    (tripped : p = .tripped → y.latch = true)
    (cooling : y.cooling.isSome = true ↔ p = .cooling ∨ p = .cooled)
    (deadline : y.deadline.isSome = true ↔ p = .starting)
    (proven : p = .ready → y.proven = true) : y.Lawful false := by
  have power : y.power = p := by rw [dark]; rfl
  refine ⟨?_, fun k => (by cases k), ?_, fun lit => absurd (power.symm.trans lit) notLit, fun _ => ?_,
    ?_, ?_, ?_, ?_, fun h => proven ?_⟩
  · rw [power, dark]; rfl
  · rw [power, dark]; exact (beq_eq_false_iff_ne.mpr notLit).symm
  · rw [dark]; exact ⟨rfl, rfl, rfl, rfl⟩
  · rwa [power]
  · rwa [power]
  · rwa [power]
  · rwa [power]
  · rw [power] at h
    exact h.resolve_right notLit

/-- In LIT the request, the limits and the level may take any values that agree (R50, R51). -/
theorem relit (law : x.Lawful b) (lit : x.power = .lit) {r d e : Int} (low : 100 ≤ r) (high : r ≤ 1000)
    (limit : e ≤ d) : Lawful b
      { x with request := some r, derate := d, effLimit := e, lightLevel := min r e } where
  cutOk := law.cutOk
  resetOff := law.resetOff
  lightEn := law.lightEn
  light _ := by
    obtain ⟨cover, -⟩ := law.light lit
    exact ⟨cover, limit, r, rfl, low, high, rfl⟩
  dark other := absurd lit other
  latchIn := law.latchIn
  tripped := law.tripped
  cooling := law.cooling
  deadline := law.deadline
  proven := law.proven

/-- One millisecond starts and stops no timer. -/
theorem tick (law : x.Lawful b) : x.tick.Lawful b where
  cutOk := law.cutOk
  resetOff := law.resetOff
  lightEn := law.lightEn
  light := law.light
  dark := law.dark
  latchIn := law.latchIn
  tripped := law.tripped
  cooling := by rw [Lps.tick, Option.isSome_map]; exact law.cooling
  deadline := by rw [Lps.tick, Option.isSome_map]; exact law.deadline
  proven := law.proven

/-- Without light the cover may change. -/
theorem covered (law : x.Lawful b) (dark : x.power ≠ .lit) (c : Cover) :
    Lawful b { x with cover := c } where
  cutOk := law.cutOk
  resetOff := law.resetOff
  lightEn := law.lightEn
  light lit := absurd lit dark
  dark := law.dark
  latchIn := law.latchIn
  tripped := law.tripped
  cooling := law.cooling
  deadline := law.deadline
  proven := law.proven

end Lps.Lawful

/-! ## Entries into a power state without light -/

theorem FansKicked.fit (h : FansKicked s t) : FansFit t := by
  obtain ⟨-, -, -, fans⟩ := h
  have state : ∀ f, (t.afc.fans.get f).state = .kick := fun f => by rw [fans f]
  have blower : t.afc.fans.f2.state = .kick := state .f2
  exact ⟨by simp [blower], by simp only [failedCount, state]; decide⟩

/-- An entry into a state without light that leaves the latch and the fans. -/
theorem PowerLaw.darken (h : PowerLaw s) (tested : s.lps.latch = false → tripTested s.lps.power = true)
    (notLit : p ≠ .lit) (notStarting : p ≠ .starting) (dark : t.lps = darkIn t.lps p)
    (latch : t.lps.latch = s.lps.latch) (inReset : t.inReset = s.inReset)
    (fans : t.afc.fans = s.afc.fans)
    (latchIn : s.lps.latch = true → p = .tripped ∨ p = .cooling ∨ p = .cooled)
    (tripped : p = .tripped → s.lps.latch = true)
    (cooling : t.lps.cooling.isSome = true ↔ p = .cooling ∨ p = .cooled)
    (proven : p = .ready → t.lps.proven = true) : PowerLaw t := by
  have law := h.lawful
  have on : s.lps.power ≠ .off := fun off =>
    on_of_tested (tested (law.clear (by simp [off]))) off
  have power : t.lps.power = p := by rw [dark]; rfl
  have stopped : t.lps.deadline = none := by rw [dark]; rfl
  refine powerLaw_of_dark ?_ (by rwa [power]) fun _ clear => ?_
  · rw [inReset, law.awake on]
    refine .of_dark (p := p) ?_ notLit (by rwa [latch]) (by rwa [latch]) cooling ?_ proven
    · rw [stopped]; exact dark
    · simp [stopped, notStarting]
  · have fit := h.fansTripped (tested (latch.symm.trans clear)) (latch.symm.trans clear)
    unfold FansFit at *
    rwa [fans]

/-- The light goes off and LPS enters READY from LIT (R41, R42). -/
theorem PowerLaw.leaveLit (h : PowerLaw s) (lit : s.lps.power = .lit)
    (dark : t.lps = darkIn t.lps .ready) (latch : t.lps.latch = s.lps.latch)
    (inReset : t.inReset = s.inReset) (fans : t.afc.fans = s.afc.fans)
    (cooling : t.lps.cooling = s.lps.cooling) (proven : t.lps.proven = s.lps.proven) : PowerLaw t := by
  have clear := h.lawful.clear (by simp [lit])
  have stopped := h.lawful.uncooled (by simp [lit])
  exact h.darken (fun _ => by rw [lit]; rfl) (by decide) (by decide) dark latch inReset fans
    (by simp [clear]) (by simp) (by simp [cooling, stopped])
    (fun _ => proven.trans (h.lawful.proven (.inr lit)))

/-- An entry into STARTING with the latch clear and the fans kicked. -/
theorem powerLaw_of_starting {d : Nat} (awake : t.inReset = false)
    (dark : t.lps = { darkIn t.lps .starting with deadline := some d }) (clear : t.lps.latch = false)
    (cooling : t.lps.cooling = none) (kicked : FansKicked s t) : PowerLaw t := by
  have running : t.lps.deadline = some d := by rw [dark]
  refine powerLaw_of_dark ?_ (by rw [dark]; simp [darkIn]) fun _ _ => kicked.fit
  rw [awake]
  refine .of_dark (p := .starting) ?_ (by decide) (by simp [clear]) (by simp) (by simp [cooling])
    (by simp [running]) (by simp)
  rw [running]
  exact dark

end Sys2Proof.Machine
end

section
/-! The power law is kept by every step. The operations of LPS are taken one by one; whatever leaves the
record of LPS, the fans and the part reset as they were keeps it at once. -/

namespace Sys2Proof.Machine

variable {s t : State}

/-! ## Light limits (R50 to R56) -/

theorem effectiveLimit_le (s : State) : effectiveLimit s ≤ s.lps.derate ∧
    (failedCount s.afc.fans = 1 → effectiveLimit s ≤ 600) := by
  rw [effectiveLimit_eq]
  unfold limitUnder
  exact ⟨min_le_left _ _, fun one => by rw [if_pos one]; omega⟩

theorem updateDerate_eq (s : State) : ∃ d, updateDerate s = s.withLps { s.lps with derate := d } := by
  unfold updateDerate
  split
  · exact ⟨s.lps.derate, rfl⟩
  · exact ⟨_, rfl⟩

theorem recomputeLight_lps (lit : s.lps.power = .lit) : (recomputeLight s).lps =
    { s.lps with effLimit := effectiveLimit s,
                 lightLevel := levelFor s.lps.request (effectiveLimit s) } := by
  unfold recomputeLight
  rw [if_pos lit]
  dsimp only
  split <;> rfl

/-- Any state in LIT whose limits have been computed keeps the power law, when its record was lawful but
for request, limits and level. -/
theorem powerLaw_recomputeLight {x : Lps} {r : Int} (law : x.Lawful s.inReset) (lit : x.power = .lit)
    (lps : s.lps = { x with request := some r, derate := s.lps.derate, effLimit := s.lps.effLimit,
                            lightLevel := s.lps.lightLevel })
    (low : 100 ≤ r) (high : r ≤ 1000) (fit : FansTripped s) : PowerLaw (recomputeLight s) := by
  have frame := recomputeLight_frame s
  have power : s.lps.power = .lit := by rw [lps]; exact lit
  obtain ⟨limit, capped⟩ := effectiveLimit_le s
  have record : (recomputeLight s).lps = { x with
      request := some r, derate := s.lps.derate, effLimit := effectiveLimit s,
      lightLevel := min r (effectiveLimit s) } := by
    rw [recomputeLight_lps power, lps]
    rfl
  have afc : (recomputeLight s).afc = s.afc := frame .afc (by simp)
  refine (powerLaw_iff _).mpr ⟨?_, fun _ one => ?_, fun _ _ => ?_⟩
  · rw [record, frame .inReset (by simp)]
    exact law.relit lit low high limit
  · rw [record]
    exact capped (afc ▸ one)
  · have clear : s.lps.latch = false := by
      rw [lps]
      exact law.clear (by simp [lit])
    have kept := fit (by rw [power]; rfl) clear
    unfold FansFit at *
    rwa [afc]

/-- In LIT the limits may be computed again at any time, whatever the fans have done since. -/
theorem powerLaw_relimit (law : s.lps.Lawful s.inReset) (lit : s.lps.power = .lit)
    (fit : FansTripped s) :
    PowerLaw (recomputeLight s) ∧ PowerLaw (recomputeLight (updateDerate s)) := by
  obtain ⟨-, -, r, request, low, high, -⟩ := law.light lit
  obtain ⟨d, update⟩ := updateDerate_eq s
  rw [update]
  refine ⟨powerLaw_recomputeLight law lit ?_ low high fit,
    powerLaw_recomputeLight (s := s.withLps _) law lit ?_ low high fit⟩
  · rw [← request]
  · rw [← request]
    rfl

/-! ## Trips and the events of LPS -/

/-- The record of LPS after a trip is lawful (R48). -/
theorem Lps.Lawful.trip {x : Lps} {b : Bool} (law : x.Lawful b) (tested : tripTested x.power = true)
    (c : TripCause) : Lawful false
      (if trippedState x.power = x.power then x.latched c
       else (darkIn x (trippedState x.power)).latched c) := by
  have awake := law.awake (on_of_tested tested)
  have toTripped : x.power ≠ .cooling ∧ x.power ≠ .cooled →
      Lawful false ((darkIn x .tripped).latched c) := fun other => by
    have stopped : ((darkIn x .tripped).latched c).cooling = none := law.uncooled other
    exact .of_dark (p := .tripped) rfl (by decide) (fun _ => .inl rfl) (fun _ => rfl)
      (by simp [stopped]) (by simp [darkIn, Lps.latched]) (by simp)
  cases h : x.power with
  | starting | ready | lit => exact toTripped (by simp [h])
  | cooling =>
    subst awake
    exact { law with latchIn := fun _ => .inr (.inl h), tripped := fun _ => rfl }
  | cooled =>
    have running : ((darkIn x .cooling).latched c).cooling.isSome = true := law.cooling.mpr (.inr h)
    show Lawful false ((darkIn x .cooling).latched c)
    exact .of_dark (p := .cooling) rfl (by decide) (fun _ => .inr (.inl rfl)) (fun _ => rfl)
      (by simp [running]) (by simp [darkIn, Lps.latched]) (by simp)
  | off | tripped => rw [h] at tested; cases tested

/-- A trip keeps the power law, whatever the fans have done since the last test. -/
theorem powerLaw_takeTrip (law : s.lps.Lawful s.inReset) (tested : tripTested s.lps.power = true)
    (c : TripCause) : PowerLaw (takeTrip c s) := by
  have latch := (takeTrip_latch c s).1
  have tripped := law.trip tested c
  rw [← takeTrip_lps] at tripped
  have awake := law.awake (on_of_tested tested)
  refine powerLaw_of_dark ?_ (fun lit => ?_) fun _ clear => by rw [latch] at clear; cases clear
  · rw [takeTrip_frame c s .inReset (by simp), awake]
    exact tripped
  · rw [tripped.clear (by simp [lit])] at latch
    cases latch

/-- A test of a trip condition either takes the trip or leaves the state without that condition. -/
theorem tripIf_keeps_law (law : s.lps.Lawful s.inReset) (c : Option TripCause) :
    PowerLaw (tripIf c s) ∨ tripIf c s = s ∧
      (tripTested s.lps.power = true → s.lps.latch = false → c = none) := by
  cases c with
  | none => exact .inr ⟨rfl, fun _ _ => rfl⟩
  | some x =>
    by_cases due : s.lps.latch = false ∧ tripTested s.lps.power = true
    · obtain ⟨clear, tested⟩ := due
      rw [tripIf_of_due clear tested]
      exact .inl (powerLaw_takeTrip law tested x)
    · exact .inr ⟨if_neg due, fun tested clear => absurd ⟨clear, tested⟩ due⟩

theorem powerLaw_tripIf (h : PowerLaw s) (c : Option TripCause) : PowerLaw (tripIf c s) := by
  obtain law | ⟨same, -⟩ := tripIf_keeps_law h.lawful c
  · exact law
  · rwa [same]

theorem gateTrip_eq_none_iff (s : State) : gateTrip s = none ↔ FansFit s := by
  unfold gateTrip FansFit
  split
  · rename_i failed
    simp [failed]
  · rename_i sound
    split
    · simp; omega
    · simp [sound]; omega

/-- A cooling completion (R44). -/
theorem powerLaw_enterCooled (h : PowerLaw s) (cooling : s.lps.power = .cooling) :
    PowerLaw (enterCooled s) :=
  h.darken (p := .cooled) (fun _ => by rw [cooling]; rfl) (by decide) (by decide) rfl rfl rfl rfl
    (fun _ => .inr (.inr rfl)) (fun k => by cases k)
    ⟨fun _ => .inr rfl, fun _ => h.lawful.cooling.mpr (.inl cooling)⟩ (fun k => by cases k)

theorem powerLaw_lightSweep (h : PowerLaw s) : PowerLaw (lightSweep s) := by
  have tested := powerLaw_tripIf h (sweepTrip s)
  unfold lightSweep
  dsimp only
  split
  · rename_i cooling
    split
    · exact powerLaw_enterCooled tested cooling
    · exact tested
  · rename_i lit
    exact (powerLaw_relimit tested.lawful lit tested.fansTripped).2
  · exact tested

/-- READY with the fans proven (R38). -/
theorem powerLaw_enterProven (h : PowerLaw s) (starting : s.lps.power = .starting) :
    PowerLaw (enterProven s) := by
  have clear := h.lawful.clear (by simp [starting])
  have stopped : (enterProven s).lps.cooling = none := h.lawful.uncooled (by simp [starting])
  exact h.darken (p := .ready) (fun _ => by rw [starting]; rfl) (by decide) (by decide) rfl rfl rfl rfl
    (by simp [clear]) (by simp) (by simp [stopped]) (fun _ => rfl)

/-- What LPS does after a gate end restores the power law, whatever the gate end did to the fans. -/
theorem powerLaw_lightGate (law : s.lps.Lawful s.inReset) : PowerLaw (lightGate s) := by
  have tested : (tripIf (gateTrip s) s).lps.Lawful (tripIf (gateTrip s) s).inReset ∧
      FansTripped (tripIf (gateTrip s) s) := by
    obtain kept | ⟨same, fit⟩ := tripIf_keeps_law law (gateTrip s)
    · exact ⟨kept.lawful, kept.fansTripped⟩
    · rw [same]
      exact ⟨law, fun tested clear => (gateTrip_eq_none_iff s).mp (fit tested clear)⟩
  obtain ⟨law, fit⟩ := tested
  unfold lightGate
  generalize tripIf (gateTrip s) s = t at law fit
  dsimp only
  cases h : t.lps.power with
  | starting =>
    have kept := powerLaw_of_dark law (by simp [h]) fit
    dsimp only
    split
    · exact powerLaw_enterProven kept h
    · exact kept
  | lit => exact (powerLaw_relimit law h fit).1
  | off | ready | cooling | cooled | tripped => exact powerLaw_of_dark law (by simp [h]) fit

theorem powerLaw_gateEnded (h : PowerLaw s) : PowerLaw (gateEnded s) := by
  refine powerLaw_lightGate ?_
  rw [fanGate_frame s .lps (by simp), fanGate_frame s .inReset (by simp)]
  exact h.lawful

theorem powerLaw_provingExpiry (h : PowerLaw s) : PowerLaw (provingExpiry s) := by
  unfold provingExpiry
  split
  · exact powerLaw_tripIf h _
  · exact h

theorem powerLaw_lightOffNow (h : PowerLaw s) : PowerLaw (lightOffNow s) := by
  unfold lightOffNow
  split
  · exact h.leaveLit (t := enterPower .ready s) ‹_› rfl rfl rfl rfl rfl rfl
  · exact h

/-! ## The cover and the commands of LPS (R40 to R49) -/

/-- The cover opens in LIT: the light goes off (R42). -/
theorem coverTo_of_lit (changes : s.lps.cover ≠ .opened) (lit : s.lps.power = .lit) :
    coverTo .opened s =
      enterPower .ready (raiseBoth .state (s.withLps { s.lps with cover := .opened })) := by
  rw [coverTo, if_neg changes]
  exact if_pos lit

/-- A change of the cover that does not end the light (R42). -/
theorem coverTo_of_change {c : Cover} (changes : s.lps.cover ≠ c)
    (keeps : c = .closed ∨ s.lps.power ≠ .lit) :
    coverTo c s = raiseBoth .state (s.withLps { s.lps with cover := c }) := by
  rw [coverTo, if_neg changes]
  cases c with
  | closed => rfl
  | opened => exact if_neg (keeps.resolve_left (by decide))

theorem powerLaw_coverTo (h : PowerLaw s) (c : Cover) : PowerLaw (coverTo c s) := by
  have law := h.lawful
  by_cases same : s.lps.cover = c
  · rwa [coverTo, if_pos same]
  by_cases lit : s.lps.power = .lit
  · obtain ⟨closed, -⟩ := law.light lit
    cases c with
    | closed => exact absurd closed same
    | opened =>
      rw [coverTo_of_lit same lit]
      exact h.leaveLit lit rfl rfl rfl rfl rfl rfl
  · rw [coverTo_of_change same (.inr lit)]
    exact powerLaw_of_dark (law.covered lit c) lit h.fansTripped

/-- POWER_DOWN (R43). -/
theorem powerLaw_powerDownNow (h : PowerLaw s) : PowerLaw (powerDownNow s) := by
  have down : (s.lps.latch = false → tripTested s.lps.power = true) →
      PowerLaw (startCooling (enterPower .cooling s)) := fun tested =>
    h.darken (p := .cooling) tested (by decide) (by decide) rfl rfl rfl rfl (fun _ => .inr (.inl rfl))
      (fun k => by cases k) ⟨fun _ => .inl rfl, fun _ => rfl⟩ (fun k => by cases k)
  unfold powerDownNow
  cases power : s.lps.power with
  | starting | ready | lit => exact down fun _ => by rw [power]; rfl
  | tripped => exact down fun clear => by rw [h.lawful.tripped power] at clear; cases clear
  | cooling | cooled | off => exact h

/-- POWER_UP (R46). -/
theorem powerLaw_powerUpNow (h : PowerLaw s) : PowerLaw (powerUpNow s).1 := by
  have up : tripTested s.lps.power = true → PowerLaw
      (if s.lps.latch then stopCooling (enterPower .tripped s)
       else if s.lps.proven then stopCooling (enterPower .ready s)
       else stopCooling (enterStarting s)) := fun tested => by
    split
    · rename_i latched
      exact h.darken (p := .tripped) (fun _ => tested) (by decide) (by decide) rfl rfl rfl rfl
        (fun _ => .inl rfl) (fun _ => latched) (by simp [stopCooling]) (by simp)
    · rename_i clear
      split
      · rename_i proven
        exact h.darken (p := .ready) (fun _ => tested) (by decide) (by decide) rfl rfl rfl rfl
          (fun latched => absurd latched clear) (by simp) (by simp [stopCooling]) (fun _ => proven)
      · have awake := h.lawful.awake (on_of_tested tested)
        exact powerLaw_of_starting (t := stopCooling (enterStarting s)) awake rfl
          (Bool.eq_false_iff.mpr clear) rfl (enterStarting_kicked s)
  unfold powerUpNow
  cases power : s.lps.power with
  | starting | ready | lit | tripped | off => exact h
  | cooling | cooled => exact up (by rw [power]; rfl)

/-- CLEAR_TRIP (R49). -/
theorem powerLaw_clearTripNow (h : PowerLaw s) : PowerLaw (clearTripNow s).1 := by
  unfold clearTripNow
  split
  · rename_i tripped
    split
    · exact powerLaw_of_starting (t := enterStarting (s.withLps { s.lps with latch := false }))
        (h.lawful.awake (by simp [tripped])) rfl rfl (h.lawful.uncooled (by simp [tripped]))
        (enterStarting_kicked (s.withLps { s.lps with latch := false }))
    · exact h
  · exact h

theorem requestLevel_bounds (level : Nat) : 100 ≤ requestLevel level ∧ requestLevel level ≤ 1000 :=
  clamp_bounds (by decide) _

/-- What surrounds LPS keeps the power law: the lens, the tracker, the builds and the causes. -/
theorem powerLaw_lens : LensClosed PowerLaw where
  msc _ _ _ h := h
  fdt _ _ h := h
  raise _ _ _ h := h
  build s h := h.of_unchanged (requestBuild_frame s) (by simp) (by simp) (by simp)
  axis _ _ _ _ h := h
  take _ _ _ _ _ _ _ _ h := h
  mark _ h := h

/-- The record of LPS at the entry to LIT, before the limits are computed (R40, R51). -/
def Lps.lighting (x : Lps) (level : Int) : Lps :=
  { x.entering .lit with request := some level, lightEn := true, derate := 1000, effLimit := 1000 }

/-- The state at the entry to LIT, before the limits are computed. -/
def litWith (level : Int) (s : State) : State :=
  (enterPower .lit s).withLps (s.lps.lighting level)

theorem enterLit_eq (level : Int) (s : State) :
    enterLit level s = grantOccasion none (recomputeLight (updateDerate (litWith level s))) := rfl

/-- The light comes on from READY with the cover closed (R40). -/
theorem powerLaw_enterLit (h : PowerLaw s) (ready : s.lps.power = .ready)
    (closed : s.lps.cover = .closed) {level : Int} (low : 100 ≤ level) (high : level ≤ 1000) :
    PowerLaw (enterLit level s) := by
  have law := h.lawful
  have awake := law.awake (by simp [ready])
  have clear := law.clear (by simp [ready])
  have stopped := law.uncooled (by simp [ready])
  have shines : Lps.Lawful false { s.lps.lighting level with lightLevel := min level 1000 } :=
    { cutOk := rfl, resetOff := fun k => (by cases k), lightEn := rfl,
      light := fun _ => ⟨closed, le_refl _, level, rfl, low, high, rfl⟩,
      dark := fun other => absurd rfl other,
      latchIn := fun latched => absurd (clear.symm.trans latched) (by decide),
      tripped := fun k => (by cases k),
      cooling := by simp [Lps.lighting, Lps.entering, stopped],
      deadline := by simp [Lps.lighting, Lps.entering],
      proven := fun _ => law.proven (.inl ready) }
  have fit : FansTripped (litWith level s) := fun _ clear =>
    h.fansTripped (by rw [ready]; rfl) clear
  obtain ⟨d, update⟩ := updateDerate_eq (litWith level s)
  rw [enterLit_eq, update]
  refine grantOccasion_keeps powerLaw_lens _ (powerLaw_recomputeLight
    (x := { s.lps.lighting level with lightLevel := min level 1000 }) ?_ rfl rfl low high fit)
  show Lps.Lawful s.inReset _
  rwa [awake]

/-- LIGHT_ON (R40). -/
theorem powerLaw_lightOnNow (h : PowerLaw s) (level : Nat) : PowerLaw (lightOnNow level s).1 := by
  obtain ⟨low, high⟩ := requestLevel_bounds level
  unfold lightOnNow
  cases power : s.lps.power with
  | ready =>
    dsimp only
    split
    · exact powerLaw_enterLit h power ‹_› low high
    · exact h
  | lit =>
    obtain ⟨law, capped, fit⟩ := (powerLaw_iff s).mp h
    obtain ⟨-, limit, -⟩ := law.light power
    exact (powerLaw_iff _).mpr ⟨law.relit power low high limit, capped, fit⟩
  | off | starting | cooling | cooled | tripped => exact h

/-! ## Rails and reset -/

theorem powerLaw_requestBuild (h : PowerLaw s) : PowerLaw (requestBuild s) := powerLaw_lens.build _ h

theorem powerLaw_railRise (h : PowerLaw s) (awake : s.inReset = false) : PowerLaw (railRise s) := by
  by_cases down : s.lps.power = .off
  · rw [railRise_of_down down]
    exact powerLaw_requestBuild (powerLaw_of_starting (t := enterStarting (scanRise s)) awake rfl
      (h.lawful.clear (by simp [down])) (h.lawful.uncooled (by simp [down])) (enterStarting_kicked _))
  · rwa [railRise_of_up down]

theorem powerLaw_railLoss (h : PowerLaw s) : PowerLaw (railLoss s) := by
  by_cases up : s.lps.power ≠ .off
  · have lawful : (darkened s).lps.Lawful false := by
      rw [darkened_lps]
      exact .of_dark (p := .off) rfl (by decide) (fun k => by cases k) (fun k => by cases k) (by simp)
        (by simp [darkIn]) (fun k => by cases k)
    have dark : PowerLaw (darkened s) := by
      refine powerLaw_of_dark ?_ (by simp [darkened_lps, darkIn]) fun tested => by cases tested
      rwa [darkened_frame s .inReset (by simp), h.lawful.awake up]
    obtain ⟨x, y, n, loss, -⟩ := railLoss_eq up
    rw [loss]
    exact lensLoss_keeps powerLaw_lens (s := (darkened s).withBkm x) dark
  · rwa [railLoss, if_neg fun k => up ((mainRailUp_iff s).mp k)]

theorem powerLaw_reset : PowerLaw State.reset :=
  powerLaw_of_dark ⟨rfl, fun _ => rfl, rfl, fun k => (by cases k), fun _ => ⟨rfl, rfl, rfl, rfl⟩,
    fun k => (by cases k), fun k => (by cases k), by decide, by decide, by decide⟩ (by decide)
    fun k => by cases k

theorem powerLaw_partReset (s : State) : PowerLaw (partReset s) := powerLaw_reset.of_eq rfl rfl rfl

/-- The end of a part reset leads to STARTING, or to OFF with CUT_OK (R174). -/
theorem powerLaw_endReset (h : PowerLaw s) (x : InputLevels) : PowerLaw (endReset x s) := by
  cases running : s.inReset with
  | false => rwa [endReset, if_neg (by simp [running])]
  | true =>
    have off := h.lawful.resetOff running
    have law := h.lawful.covered (by simp [off]) x.cover
    have awake : (resetEnded x s).inReset = false := resetEnded_frame x s .inReset (by simp)
    rw [endReset_eq running]
    refine powerLaw_requestBuild ?_
    cases good : x.mainGood with
    | true =>
      obtain ⟨lps, kicked, -⟩ := resetEnded_of_good good s
      refine powerLaw_of_starting (d := 8000) awake ?_ ?_ ?_ kicked <;> rw [lps]
      · rfl
      · exact law.clear (by simp [off])
      · exact law.uncooled (by simp [off])
    | false =>
      obtain ⟨lps, -⟩ := resetEnded_of_low good s
      refine powerLaw_of_dark ?_ (by rw [lps]; simp [off]) fun tested => ?_
      · rw [awake, lps]
        exact { law with cutOk := by simp [off, cutAllowed], resetOff := fun k => by cases k }
      · rw [lps] at tested
        simp [off, tripTested] at tested

/-! ## Sweep ends, settings and the profile -/

theorem PowerLaw.beside (h : PowerLaw s) (k : BesideLps s t) : PowerLaw t :=
  h.of_unchanged k.frame (by simp) (by simp) (by simp)

theorem powerLaw_presentAndAct (h : PowerLaw s) (o : Orientation) : PowerLaw (presentAndAct o s) := by
  have presented : PowerLaw (presentAll (rearmMotion s)) :=
    PowerLaw.of_unchanged (s := rearmMotion s) h (presentAll_frame _) (by simp) (by simp) (by simp)
  obtain ⟨u, before, after⟩ := powerAndDrift_beside (geoSweep o (presentAll (rearmMotion s)))
  exact (powerLaw_lightSweep ((presented.beside (geoSweep_beside o _)).beside before)).beside after

theorem powerLaw_completeConversion (h : PowerLaw s) (c : Channel) (code : Int) :
    PowerLaw (completeConversion c code s) := by
  have next : ∀ x, PowerLaw (setConversion x (applyConversion c code s)) := fun x =>
    h.of_unchanged ((applyConversion_frame c code s).trans (setConversion_frame x _))
      (by simp) (by simp) (by simp)
  have joined : ∀ t, PowerLaw t → PowerLaw (joinPair t) := fun t ht =>
    ht.of_unchanged (joinPair_frame t) (by simp) (by simp) (by simp)
  unfold completeConversion
  dsimp only
  split
  · exact h
  · split
    · split
      · exact next _
      · exact powerLaw_presentAndAct (joined _ (next _)) _
    · exact h
  · split
    · exact powerLaw_presentAndAct (next _) _
    · exact h
  · split
    · exact next _
    · exact h

theorem powerLaw_changeSettings (h : PowerLaw s) (x : Settings) : PowerLaw (changeSettings x s) :=
  powerLaw_requestBuild (PowerLaw.of_unchanged (s := s.withGeo { s.geo with settings := x }) h
    (markDirty_frame _ _) (by simp) (by simp) (by simp))

theorem powerLaw_storeSettings (h : PowerLaw s) (x : Settings) : PowerLaw (storeSettings x s) := by
  unfold storeSettings
  split
  · exact h
  · exact powerLaw_changeSettings h x

theorem powerLaw_changeSlot (h : PowerLaw s) (n : Fin 10) (x : Option Preset) :
    PowerLaw (changeSlot n x s) :=
  PowerLaw.of_unchanged (s := s.withPtb { s.ptb with slots := s.ptb.slots.set n x }) h
    (markDirty_frame _ _) (by simp) (by simp) (by simp)

theorem powerLaw_savePreset (h : PowerLaw s) (x : SaveOperands) : PowerLaw (savePreset x s).1 := by
  unfold savePreset
  split
  · exact h
  · exact powerLaw_changeSlot h _ _

theorem powerLaw_erasePreset (h : PowerLaw s) (n : Fin 10) : PowerLaw (erasePreset n s).1 := by
  unfold erasePreset
  split
  · exact h
  · exact powerLaw_changeSlot h _ _

theorem powerLaw_acceptRecall (h : PowerLaw s) (n : Fin 10) (g : Byte) (p : Port) (x : Preset) :
    PowerLaw (acceptRecall n g p x s) := by
  have formed : PowerLaw (formGroup n g p x (supersedeGroup s)) := supersedeGroup_keeps powerLaw_lens h
  unfold acceptRecall
  dsimp only
  refine grantOccasion_keeps powerLaw_lens _ (settleGroup_keeps powerLaw_lens.toEndClosed
    (forAxes_keeps (fun _ _ ht => placeMember_keeps powerLaw_lens _ _ _ _ _ ht) _ ?_))
  split
  · exact formed
  · exact powerLaw_changeSettings formed _

theorem powerLaw_recallPreset (h : PowerLaw s) (p : Port) (n : Fin 10) (g : Byte) :
    PowerLaw (recallPreset p n g s).1 := by
  unfold recallPreset
  split
  · exact h
  · exact powerLaw_acceptRecall h _ _ _ _
  · exact h

/-- An accepted write of the profile; a change of the derate parameters acts in LIT at once (R57). -/
theorem powerLaw_applyWrite (h : PowerLaw s) (k : ProfileSection) (i n : Nat) (v : List Int) :
    PowerLaw (applyWrite k i n v s) := by
  have maxima : PowerLaw (refreshMaxima s (s.withPrf (s.prf.setSection k v))) :=
    overAxes_keeps (f := fun a t => refreshMaximum s a t)
      (fun a _ ht => refreshMaximum_keeps powerLaw_lens s a ht) h
  have derated : PowerLaw (refreshDerate s (refreshMaxima s (s.withPrf (s.prf.setSection k v)))) := by
    unfold refreshDerate
    split
    · rename_i changed
      exact (powerLaw_relimit maxima.lawful changed.1 maxima.fansTripped).2
    · exact maxima
  unfold applyWrite
  dsimp only
  split
  · exact powerLaw_requestBuild derated
  · exact derated

theorem powerLaw_writeProfile (h : PowerLaw s) (k : ProfileSection) (o : Nat) (d : List Byte) :
    PowerLaw (writeProfile k o d s).1 := by
  unfold writeProfile
  split
  · exact h
  · split
    · exact h
    · dsimp only
      split
      · exact powerLaw_applyWrite h _ _ _ _
      · exact h

theorem powerLaw_takeNow (h : PowerLaw s) (g c : Nat) : PowerLaw (takeNow g c s).1 := by
  unfold takeNow
  split
  · exact h
  · split <;> exact h

theorem powerLaw_dropNow (h : PowerLaw s) (g : Nat) : PowerLaw (dropNow g s).1 := by
  unfold dropNow
  split <;> exact h

theorem powerLaw_setAcoustic (h : PowerLaw s) (m : AcousticMode) : PowerLaw (setAcoustic m s) := by
  refine h.of_eq (setAcoustic_frame m s .lps (by simp)) (setAcoustic_frame m s .inReset (by simp)) ?_
  rw [setAcoustic_afc]

/-! ## Every row -/

theorem powerLaw_takeCommand {α : Type} {c : Cmd} {parse : List Byte → Option α}
    {run : α → State → State × Answer} (hr : ∀ x t, PowerLaw t → PowerLaw (run x t).1) (p : Port)
    (d : List Byte) (h : PowerLaw s) : PowerLaw (takeCommand c parse run p d s) := by
  unfold takeCommand
  split
  · exact h
  · exact checkCommand_keeps hr p d (s := shiftOut p (d.length + 2) s) h

theorem powerLaw_takeKnown (h : PowerLaw s) (c : Cmd) (p : Port) (d : List Byte) :
    PowerLaw (takeKnown c p d s) := by
  have lens := powerLaw_lens
  cases c
  case resetPart =>
    show PowerLaw (takeResetPart p d s)
    unfold takeResetPart
    split
    · exact h
    · split
      · exact powerLaw_partReset s
      · exact powerLaw_takeCommand (fun _ _ ht => ht) p d h
  case lightOn => exact powerLaw_takeCommand (fun x _ ht => powerLaw_lightOnNow ht x) p d h
  case lightOff => exact powerLaw_takeCommand (fun _ _ ht => powerLaw_lightOffNow ht) p d h
  case powerDown => exact powerLaw_takeCommand (fun _ _ ht => powerLaw_powerDownNow ht) p d h
  case powerUp => exact powerLaw_takeCommand (fun _ _ ht => powerLaw_powerUpNow ht) p d h
  case clearTrip => exact powerLaw_takeCommand (fun _ _ ht => powerLaw_clearTripNow ht) p d h
  case acoustic => exact powerLaw_takeCommand (fun m _ ht => powerLaw_setAcoustic ht m) p d h
  case profileWrite =>
    exact powerLaw_takeCommand (fun x _ ht => powerLaw_writeProfile ht x.1 x.2.1 x.2.2) p d h
  case profileRead =>
    exact powerLaw_takeCommand (fun x _ ht => readProfile_keeps x.1 x.2.1 x.2.2 ht) p d h
  case move => exact powerLaw_takeCommand (fun x _ ht => moveNow_keeps lens p x ht) p d h
  case home => exact powerLaw_takeCommand (fun x _ ht => homeNow_keeps lens p x.1 x.2 ht) p d h
  case stop => exact powerLaw_takeCommand (fun x _ ht => stopNow_keeps lens x ht) p d h
  case drift => exact powerLaw_takeCommand (fun x _ ht => driftNow_keeps lens x ht) p d h
  case presetSave => exact powerLaw_takeCommand (fun x _ ht => powerLaw_savePreset ht x) p d h
  case presetErase => exact powerLaw_takeCommand (fun x _ ht => powerLaw_erasePreset ht x) p d h
  case presetRecall =>
    exact powerLaw_takeCommand (fun x _ ht => powerLaw_recallPreset ht p x.1 x.2) p d h
  case trims | keystone | orientation =>
    exact powerLaw_takeCommand (fun _ _ ht => powerLaw_storeSettings ht _) p d h
  case rebuild => exact powerLaw_takeCommand (fun _ _ ht => powerLaw_requestBuild ht) p d h
  case takeTable => exact powerLaw_takeCommand (fun x _ ht => powerLaw_takeNow ht x.1 x.2) p d h
  case dropTable => exact powerLaw_takeCommand (fun x _ ht => powerLaw_dropNow ht x) p d h
  all_goals exact powerLaw_takeCommand (fun _ _ ht => ht) p d h

theorem powerLaw_exchange (h : PowerLaw s) (p : Port) (b : List Byte) (n : Nat) :
    PowerLaw (exchange p b n s) := by
  unfold exchange
  split
  · exact h
  · split
    · cases p <;> exact h
    · exact h
    · exact h
    · unfold takeFrame
      split
      · exact powerLaw_takeKnown h _ _ _
      · exact h

theorem powerLaw_finishBuild (h : PowerLaw s) : PowerLaw (finishBuild s) := by
  have again : ∀ t, PowerLaw t → PowerLaw (afterBuild t) := fun t ht => by
    unfold afterBuild
    split <;> exact ht
  unfold finishBuild
  split
  · have judged : ∀ b g, PowerLaw ((s.withBkm b).withGeo g) := fun _ _ => h
    exact again _ (powerLaw_lens.raise _ _ _ (judged _ _))
  · exact h

theorem powerLaw_writeEnd (h : PowerLaw s) : PowerLaw (writeEnd s) := by
  unfold writeEnd
  split
  · exact h
  · rename_i f _
    exact PowerLaw.of_unchanged
      (s := raiseBoth .nv (s.withNvs { storeCopy s.nvs f with inFlight := none })) h
      (startWrite_frame _) (by simp) (by simp) (by simp)

/-- A row that acts outside a part reset alone. -/
theorem outsideReset_keeps_awake {P : State → Prop} {f : State → State}
    (hf : s.inReset = false → P (f s)) (hs : P s) : P (outsideReset f s) := by
  unfold outsideReset
  split
  · exact hs
  · exact hf (Bool.eq_false_iff.mpr ‹_›)

/-- Every command keeps the power law. -/
theorem powerLaw_afterCommand (h : PowerLaw s) (i : Instr) : PowerLaw (afterCommand i s) := by
  have lens := powerLaw_lens
  cases i
  case unknownCommand => exact powerLaw_exchange h _ _ _
  case brokenFrame => exact powerLaw_exchange h _ _ _
  case responseRead => exact outsideReset_keeps h h
  case partReset => exact powerLaw_partReset s
  case resetEnd => exact powerLaw_endReset h _
  case mainRailRise => exact outsideReset_keeps_awake (powerLaw_railRise h) h
  case mainRailLoss => exact outsideReset_keeps (powerLaw_railLoss h) h
  case coverChange => exact outsideReset_keeps (powerLaw_coverTo h _) h
  case homeSwitchChange a b =>
    exact outsideReset_keeps (f := fun t => occasionAfter a t (switchChange a b t))
      (occasionAfter_keeps lens _ _ (switchChange_keeps lens _ _ h)) h
  case tachPulse f w =>
    refine outsideReset_keeps ?_ h
    unfold countPulse
    split
    · exact h.of_eq rfl rfl rfl
    · exact h
  case sweepStart =>
    exact outsideReset_keeps (h.of_unchanged (startSweep_frame s) (by simp) (by simp) (by simp)) h
  case standbyBrdConversion =>
    exact outsideReset_keeps (h.of_unchanged (startStandby_frame s) (by simp) (by simp) (by simp)) h
  case conversionComplete => exact outsideReset_keeps (powerLaw_completeConversion h _ _) h
  case gateEnd => exact outsideReset_keeps (f := gateEnded) (powerLaw_gateEnded h) h
  case provingDeadlineExpiry => exact outsideReset_keeps (powerLaw_provingExpiry h) h
  case step => exact outsideReset_keeps (axisStep_keeps lens _ h) h
  case dwellExpiry a =>
    exact outsideReset_keeps (f := fun t => occasionAfter a t (dwellEnd a t))
      (occasionAfter_keeps lens _ _ (dwellEnd_keeps lens _ h)) h
  case buildEnd => exact outsideReset_keeps (powerLaw_finishBuild h) h
  case loanExpiry => exact outsideReset_keeps (f := loanExpires) h h
  case nvWriteEnd => exact outsideReset_keeps (powerLaw_writeEnd h) h
  all_goals exact powerLaw_takeKnown h _ _ _

/-- A millisecond keeps the power law. -/
theorem powerLaw_passMillisecond (h : PowerLaw s) : PowerLaw (passMillisecond s) := by
  obtain ⟨law, capped, fit⟩ := (powerLaw_iff s).mp h
  exact (powerLaw_iff _).mpr ⟨law.tick, capped, fit⟩

/-- Settles O10: every row by what it does to LPS and the fans; a gate end is LPS's part on the fans it left. -/
theorem everyStepKeepsThePowerLaw : Obligations.EveryStepKeepsThePowerLaw := by
  intro s t h hstep
  unfold step at hstep
  split at hstep
  · cases hstep
    exact powerLaw_passMillisecond h
  · rw [exec_next] at hstep
    cases hstep
    rename_i rest _
    exact powerLaw_afterCommand (s := s.withPending rest) h _

end Sys2Proof.Machine
end

section
/-! The limit function: the three rows of its table, and how it falls between them. -/

namespace Sys2Proof.Machine

variable {s : State} {x y : Int}

/-! ## Rounding up (section 5.3) -/

/-- A quotient rounded up is the smallest whole number that is not below it. -/
theorem divUp_bounds {d : Int} (hd : 0 < d) (n : Int) :
    n ≤ divUp n d * d ∧ (divUp n d - 1) * d < n := by
  have below := Int.ediv_mul_le (-n) hd.ne'
  have above := Int.lt_ediv_add_one_mul_self (-n) hd
  unfold divUp
  constructor <;> linarith

theorem divUp_mono {m n d : Int} (hd : 0 < d) (h : m ≤ n) : divUp m d ≤ divUp n d :=
  neg_le_neg (Int.ediv_le_ediv hd (neg_le_neg h))

theorem divUp_mul_self {d : Int} (hd : 0 < d) (n : Int) : divUp (n * d) d = n := by
  rw [divUp, ← neg_mul, Int.mul_ediv_cancel _ hd.ne', neg_neg]

/-! ## The rows of the table (R52) -/

/-- The reduction between Ts and Te, rounded up. -/
def reduction (s : State) (x : Int) : Int :=
  divUp ((1000 - derateFloor s) * (x - derateStart s)) (derateEnd s - derateStart s)

theorem limitAt_of_cool (h : x ≤ derateStart s) : limitAt s x = 1000 := if_pos h

theorem limitAt_of_hot (order : derateStart s < derateEnd s) (h : derateEnd s ≤ x) :
    limitAt s x = derateFloor s := by
  rw [limitAt, if_neg (by omega), if_pos h]

theorem limitAt_of_between (low : derateStart s < x) (high : x < derateEnd s) :
    limitAt s x = 1000 - reduction s x := by
  rw [limitAt, if_neg (by omega), if_neg (by omega)]
  rfl

/-- The reduction rises with the temperature. -/
theorem reduction_mono (order : derateStart s < derateEnd s) (floor : derateFloor s ≤ 1000)
    (h : x ≤ y) : reduction s x ≤ reduction s y :=
  divUp_mono (by omega) (mul_le_mul_of_nonneg_left (by omega) (by omega))

/-- The reduction is none at Ts and leads to Lf at Te. -/
theorem reduction_ends (order : derateStart s < derateEnd s) :
    reduction s (derateStart s) = 0 ∧ reduction s (derateEnd s) = 1000 - derateFloor s := by
  refine ⟨?_, divUp_mul_self (by omega) _⟩
  simp [reduction, divUp]

/-- The limit function is the line clamped at both ends. -/
theorem limitAt_eq_clamp (order : derateStart s < derateEnd s) (x : Int) :
    limitAt s x = 1000 - reduction s (clamp (derateStart s) (derateEnd s) x) := by
  obtain ⟨atStart, atEnd⟩ := reduction_ends order
  rcases le_or_gt x (derateStart s) with cool | low
  · have : clamp (derateStart s) (derateEnd s) x = derateStart s := by unfold clamp; omega
    rw [limitAt_of_cool cool, this, atStart, sub_zero]
  · rcases le_or_gt (derateEnd s) x with hot | high
    · have : clamp (derateStart s) (derateEnd s) x = derateEnd s := by unfold clamp; omega
      rw [limitAt_of_hot order hot, this, atEnd, sub_sub_cancel]
    · have : clamp (derateStart s) (derateEnd s) x = x := by unfold clamp; omega
      rw [limitAt_of_between low high, this]

/-- Settles O30: the limit function is a falling line over the clamped temperature. -/
theorem limitFunctionFallsFromTsToTe : Obligations.LimitFunctionFallsFromTsToTe := by
  intro s order floor
  obtain ⟨atStart, atEnd⟩ := reduction_ends order
  refine ⟨fun x => limitAt_of_cool, fun x => limitAt_of_hot order, fun x low high =>
    ⟨reduction s x, limitAt_of_between low high, divUp_bounds (by omega) _⟩, fun x y h => ?_, fun x => ?_⟩
  · have rises := reduction_mono order floor (x := clamp (derateStart s) (derateEnd s) x)
      (y := clamp (derateStart s) (derateEnd s) y) (by unfold clamp; omega)
    rw [limitAt_eq_clamp order, limitAt_eq_clamp order]
    omega
  · obtain ⟨low, high⟩ := clamp_bounds order.le x
    have fromStart := reduction_mono order floor low
    have toEnd := reduction_mono order floor high
    rw [limitAt_eq_clamp order]
    omega

end Sys2Proof.Machine
end

section
/-! The commands of LPS and the change of the cover: by the power state, an entry into another one, or
nothing but the answer. -/

namespace Sys2Proof.Machine

variable {s t u : State}

/-! ## A taken command (R155) -/

/-- Beside the effect of a taken command only the ports change. -/
theorem Unchanged.taken {l : List Part} {p : Port} {n : Nat} (h : Unchanged l (shiftOut p n s) u)
    (c : Byte) (a : Answer) : Unchanged (.ports :: l) s (respond p c a u) :=
  (((shiftOut_frame p n s).weaken (by simp)).trans (h.weaken fun _ => List.mem_cons_of_mem _)).trans
    ((respond_frame p c a u).weaken (by simp))

/-- A taken command with no other effect is answered, and only the ports change. -/
theorem answered_only (p : Port) (c : Byte) (d : List Byte) (a : Answer) (s : State) :
    Answered p c d a.result a.payload s (respond p c a (shiftOut p (d.length + 2) s)) ∧
      Unchanged [.ports] s (respond p c a (shiftOut p (d.length + 2) s)) :=
  ⟨respond_answered p c d a rfl, (Unchanged.refl [] (shiftOut p (d.length + 2) s)).taken c a⟩

@[simp] theorem respond_lps (p : Port) (c : Byte) (a : Answer) (s : State) :
    (respond p c a s).lps = s.lps := rfl

theorem HeldOnBoth.respond {d : Cause} (h : HeldOnBoth d u) (p : Port) (c : Byte) (a : Answer) :
    HeldOnBoth d (respond p c a u) := h

/-! ## LIGHT_OFF (R41) -/

theorem exec_lightOff (awake : s.inReset = false) : exec (.lightOff .m []) s =
    .next (respond .m 0x11 (answerOk []) (lightOffNow (shiftOut .m 2 s))) :=
  (exec_next _ s).trans (congrArg _ (takeCommand_of_accepted awake rfl rfl rfl))

theorem lightOffNow_of_lit (lit : s.lps.power = .lit) : lightOffNow s = enterPower .ready s :=
  if_pos lit

theorem lightOffNow_of_dark (dark : s.lps.power ≠ .lit) : lightOffNow s = s := if_neg dark

theorem lightOffNow_frame (s : State) : Unchanged [.attention, .lps] s (lightOffNow s) := by
  unfold lightOffNow
  split
  · exact enterPower_frame _ _
  · exact .refl _ _

/-- Settles O32: LIT is left for READY, and in another state nothing is done. -/
theorem lightOffEntersReadyFromLit : Obligations.LightOffEntersReadyFromLit := by
  intro s awake
  have frame := lightOffNow_frame (shiftOut .m 2 s)
  refine ⟨_, exec_lightOff awake, respond_answered .m 0x11 [] (answerOk []) (frame .ports (by simp)),
    fun lit => ?_, fun dark => ?_⟩
  · have enters := lightOffNow_of_lit (s := shiftOut .m 2 s) lit
    rw [enters] at frame ⊢
    exact ⟨frame.taken _ _, rfl, enterPower_joined .ready (shiftOut .m 2 s)⟩
  · rw [lightOffNow_of_dark (s := shiftOut .m 2 s) dark]
    exact (answered_only _ _ [] _ s).2

/-! ## POWER_DOWN (R43) -/

theorem exec_powerDown {p : Port} (awake : s.inReset = false) (port : p = .m ∨ p = .s) :
    exec (.powerDown p []) s =
      .next (respond p 0x18 (answerOk []) (powerDownNow (shiftOut p 2 s))) := by
  have permitted : cmdPermitted .powerDown p = true := by rcases port with rfl | rfl <;> rfl
  exact (exec_next _ s).trans (congrArg _ (takeCommand_of_accepted awake permitted rfl rfl))

theorem powerDownNow_of_on (on : s.lps.power = .starting ∨ s.lps.power = .ready ∨
    s.lps.power = .lit ∨ s.lps.power = .tripped) :
    powerDownNow s = startCooling (enterPower .cooling s) := by
  unfold powerDownNow
  rcases on with h | h | h | h <;> rw [h]

theorem powerDownNow_of_down (down : s.lps.power = .cooling ∨ s.lps.power = .cooled ∨
    s.lps.power = .off) : powerDownNow s = s := by
  unfold powerDownNow
  rcases down with h | h | h <;> rw [h]

theorem powerDownNow_frame (s : State) : Unchanged [.attention, .lps] s (powerDownNow s) := by
  have down : Unchanged [.attention, .lps] s (startCooling (enterPower .cooling s)) :=
    (enterPower_frame _ _).trans ((withLps_frame _ _).weaken (by simp))
  unfold powerDownNow
  split <;> first | exact down | exact .refl _ _

/-- Settles O33: an entry into COOLING with the timer from 0, or nothing. -/
theorem powerDownEntersCooling : Obligations.PowerDownEntersCooling := by
  intro p s awake port
  have frame := powerDownNow_frame (shiftOut p 2 s)
  refine ⟨_, exec_powerDown awake port, respond_answered p 0x18 [] (answerOk []) (frame .ports (by simp)),
    fun on => ?_, fun down => ?_⟩
  · have enters := powerDownNow_of_on (s := shiftOut p 2 s) on
    rw [enters] at frame ⊢
    exact ⟨frame.taken _ _, rfl, enterPower_joined .cooling (shiftOut p 2 s)⟩
  · rw [powerDownNow_of_down (s := shiftOut p 2 s) down]
    exact (answered_only _ _ [] _ s).2

/-! ## POWER_UP (R46) -/

/-- The entry that POWER_UP makes from COOLING and COOLED. -/
def poweredUp (s : State) : State :=
  if s.lps.latch then stopCooling (enterPower .tripped s)
  else if s.lps.proven then stopCooling (enterPower .ready s)
  else stopCooling (enterStarting s)

theorem exec_powerUp {p : Port} (awake : s.inReset = false) (port : p = .m ∨ p = .s) :
    exec (.powerUp p []) s =
      .next (respond p 0x19 (powerUpNow (shiftOut p 2 s)).2 (powerUpNow (shiftOut p 2 s)).1) := by
  have permitted : cmdPermitted .powerUp p = true := by rcases port with rfl | rfl <;> rfl
  exact (exec_next _ s).trans (congrArg _ (takeCommand_of_accepted awake permitted rfl rfl))

theorem powerUpNow_of_cooling (h : s.lps.power = .cooling ∨ s.lps.power = .cooled) :
    powerUpNow s = (poweredUp s, answerOk []) := by
  unfold powerUpNow
  rcases h with h | h <;> rw [h] <;> rfl

theorem powerUpNow_of_on (on : s.lps.power = .starting ∨ s.lps.power = .ready ∨
    s.lps.power = .lit ∨ s.lps.power = .tripped) : powerUpNow s = (s, answerOk []) := by
  unfold powerUpNow
  rcases on with h | h | h | h <;> rw [h]

theorem powerUpNow_of_off (off : s.lps.power = .off) : powerUpNow s = (s, refuse .noPower) := by
  unfold powerUpNow
  rw [off]

theorem stopCooling_frame (s : State) : Unchanged [.lps] s (stopCooling s) := withLps_frame _ _

theorem poweredUp_frame (s : State) : Unchanged [.attention, .lps, .afc] s (poweredUp s) := by
  have stopped : ∀ t, Unchanged [.attention, .lps, .afc] s t →
      Unchanged [.attention, .lps, .afc] s (stopCooling t) := fun t h =>
    h.trans ((stopCooling_frame t).weaken (by simp))
  have entered := fun p => stopped _ ((enterPower_frame p s).weaken (by simp))
  unfold poweredUp
  split
  · exact entered _
  · split
    · exact entered _
    · exact stopped _ (enterStarting_frame s)

theorem poweredUp_joined (s : State) : JoinedBoth (causeBit .state) s (poweredUp s) := by
  unfold poweredUp
  split
  · exact enterPower_joined .tripped s
  · split
    · exact enterPower_joined .ready s
    · exact enterStarting_joined s

theorem poweredUp_of_latch (latched : s.lps.latch = true) :
    poweredUp s = stopCooling (enterPower .tripped s) := if_pos latched

theorem poweredUp_of_proven (clear : s.lps.latch = false) (proven : s.lps.proven = true) :
    poweredUp s = stopCooling (enterPower .ready s) := by
  rw [poweredUp, if_neg (by simp [clear]), if_pos proven]

theorem poweredUp_of_unproven (clear : s.lps.latch = false) (unproven : s.lps.proven = false) :
    poweredUp s = stopCooling (enterStarting s) := by
  rw [poweredUp, if_neg (by simp [clear]), if_neg (by simp [unproven])]

/-- Settles O34: from COOLING and COOLED by the latch and the fans-proven mark, elsewhere no entry. -/
theorem powerUpFollowsTheLatchAndTheFans : Obligations.PowerUpFollowsTheLatchAndTheFans := by
  intro p s awake port
  refine ⟨_, exec_powerUp awake port, fun cooling => ?_, fun on => ?_, fun off => ?_⟩
  · rw [powerUpNow_of_cooling (s := shiftOut p 2 s) cooling]
    have frame := poweredUp_frame (shiftOut p 2 s)
    refine ⟨respond_answered p 0x19 [] (answerOk []) (frame .ports (by simp)),
      poweredUp_joined (shiftOut p 2 s), frame.taken _ _, fun latched => ?_, fun clear proven => ?_,
      fun clear unproven => ?_⟩
    · rw [poweredUp_of_latch (s := shiftOut p 2 s) latched]
      exact ⟨rfl, rfl⟩
    · rw [poweredUp_of_proven (s := shiftOut p 2 s) clear proven]
      exact ⟨rfl, rfl⟩
    · rw [poweredUp_of_unproven (s := shiftOut p 2 s) clear unproven]
      exact ⟨enterStarting_kicked (shiftOut p 2 s), rfl⟩
  · rw [powerUpNow_of_on (s := shiftOut p 2 s) on]
    exact answered_only p 0x19 [] (answerOk []) s
  · rw [powerUpNow_of_off (s := shiftOut p 2 s) off]
    exact answered_only p 0x19 [] (refuse .noPower) s

/-! ## CLEAR_TRIP (R49) -/

theorem exec_clearTrip {p : Port} (awake : s.inReset = false) (port : p = .m ∨ p = .s) :
    exec (.clearTrip p []) s =
      .next (respond p 0x1A (clearTripNow (shiftOut p 2 s)).2 (clearTripNow (shiftOut p 2 s)).1) := by
  have permitted : cmdPermitted .clearTrip p = true := by rcases port with rfl | rfl <;> rfl
  exact (exec_next _ s).trans (congrArg _ (takeCommand_of_accepted awake permitted rfl rfl))

/-- The clearing test passes with LSH NORMAL and no NORMAL thermistor above its reset temperature. -/
theorem clearingTest_iff (s : State) : clearingTest s = true ↔ (normalTemp s .lsh).isSome = true ∧
    ∀ c ∈ thermistors, ∀ x, normalTemp s c = some x → x ≤ resetTemp s c := by
  have cool : ∀ c, (match normalTemp s c with
      | none => true
      | some x => decide (x ≤ resetTemp s c)) = true ↔
      ∀ x, normalTemp s c = some x → x ≤ resetTemp s c := fun c => by
    cases normalTemp s c <;> simp
  unfold clearingTest
  rw [Bool.and_eq_true, List.all_eq_true]
  exact and_congr Iff.rfl (forall₂_congr fun c _ => cool c)

/-- The latch clears and STARTING is entered (R49). -/
def tripCleared (s : State) : State := enterStarting (s.withLps { s.lps with latch := false })

theorem tripCleared_frame (s : State) : Unchanged [.attention, .lps, .afc] s (tripCleared s) :=
  ((withLps_frame s _).weaken (by simp)).trans (enterStarting_frame _)

theorem clearTripNow_of_pass (tripped : s.lps.power = .tripped) (passes : clearingTest s = true) :
    clearTripNow s = (tripCleared s, answerOk []) := by
  rw [clearTripNow, if_pos tripped, if_pos passes]
  rfl

theorem clearTripNow_of_fail (tripped : s.lps.power = .tripped) (fails : ¬clearingTest s = true) :
    clearTripNow s = (s, refuse .tooHot) := by
  rw [clearTripNow, if_pos tripped, if_neg fails]

theorem clearTripNow_elsewhere (other : s.lps.power ≠ .tripped) :
    clearTripNow s = (s, answerOk []) := if_neg other

/-- Settles O35: in TRIPPED by the clearing test, elsewhere nothing is done. -/
theorem clearTripMakesTheClearingTest : Obligations.ClearTripMakesTheClearingTest := by
  intro p s awake port passes
  refine ⟨_, exec_clearTrip awake port, fun tripped pass => ?_, fun tripped fail => ?_, fun other => ?_⟩
  · rw [clearTripNow_of_pass (s := shiftOut p 2 s) tripped ((clearingTest_iff s).mpr pass)]
    have frame := tripCleared_frame (shiftOut p 2 s)
    exact ⟨respond_answered p 0x1A [] (answerOk []) (frame .ports (by simp)), frame.taken _ _,
      enterStarting_kicked (shiftOut p 2 s), rfl, enterStarting_joined (shiftOut p 2 s)⟩
  · rw [clearTripNow_of_fail (s := shiftOut p 2 s) tripped (mt (clearingTest_iff s).mp fail)]
    exact answered_only p 0x1A [] (refuse .tooHot) s
  · rw [clearTripNow_elsewhere (s := shiftOut p 2 s) other]
    exact answered_only p 0x1A [] (answerOk []) s

/-! ## The cover (R42) -/

theorem coverTo_frame (c : Cover) (s : State) : Unchanged [.attention, .lps] s (coverTo c s) := by
  have covered : Unchanged [.attention, .lps] s (raiseBoth .state (s.withLps { s.lps with cover := c })) :=
    ((withLps_frame s _).weaken (by simp)).trans ((raiseBoth_frame _ _).weaken (by simp))
  unfold coverTo
  dsimp only
  split
  · exact .refl _ _
  · split
    · exact covered.trans (lightOffNow_frame _)
    · exact covered

theorem coverTo_of_same {c : Cover} (same : s.lps.cover = c) : coverTo c s = s := if_pos same

/-- Settles O36: the change is taken, and an opening in LIT enters READY beside it. -/
theorem coverChangeLeavesLitWhenItOpens : Obligations.CoverChangeLeavesLitWhenItOpens := by
  intro c s awake
  refine ⟨coverTo c s, exec_event rfl awake, fun changes => ⟨coverTo_frame c s, ?_, ?_, fun keeps => ?_⟩,
    fun same => coverTo_of_same same.symm⟩
  · by_cases keeps : c = .closed ∨ s.lps.power ≠ .lit
    · rw [coverTo_of_change changes.symm keeps]
      exact raiseBoth_joined .state (s.withLps { s.lps with cover := c })
    · obtain ⟨opens, lit⟩ := not_or.mp keeps
      cases c with
      | closed => exact absurd rfl opens
      | opened =>
        rw [coverTo_of_lit changes.symm (not_not.mp lit), ← BitVec.or_self (x := causeBit .state)]
        exact (raiseBoth_joined .state (s.withLps { s.lps with cover := .opened })).trans
          (enterPower_joined .ready _)
  · rintro rfl lit
    rw [coverTo_of_lit changes.symm lit]
    rfl
  · rw [coverTo_of_change changes.symm keeps]
    rfl

/-! ## LIGHT_ON (R40) -/

theorem exec_lightOn (hi lo : Byte) (awake : s.inReset = false) : exec (.lightOn .m [hi, lo]) s =
    .next (respond .m 0x10 (lightOnNow (word2 hi lo) (shiftOut .m 4 s)).2
      (lightOnNow (word2 hi lo) (shiftOut .m 4 s)).1) :=
  (exec_next _ s).trans (congrArg _ (takeCommand_of_accepted awake rfl rfl rfl))

theorem lightOnNow_of_closed (level : Nat) (ready : s.lps.power = .ready)
    (closed : s.lps.cover = .closed) :
    lightOnNow level s = (enterLit (requestLevel level) s, answerOk []) := by
  unfold lightOnNow
  rw [ready]
  exact if_pos closed

theorem lightOnNow_of_opened (level : Nat) (ready : s.lps.power = .ready)
    (opened : s.lps.cover = .opened) : lightOnNow level s = (s, refuse .coverOpen) := by
  unfold lightOnNow
  rw [ready]
  exact if_neg (by simp [opened])

theorem lightOnNow_of_lit (level : Nat) (lit : s.lps.power = .lit) : lightOnNow level s =
    (s.withLps { s.lps with request := some (requestLevel level),
                            lightLevel := min (requestLevel level) s.lps.effLimit }, answerOk []) := by
  unfold lightOnNow
  rw [lit]
  rfl

/-- The refusals of LIGHT_ON in the other power states. -/
theorem lightOnNow_refused (level : Nat) :
    (s.lps.power = .starting ∨ s.lps.power = .cooling ∨ s.lps.power = .cooled →
      lightOnNow level s = (s, refuse .notReady)) ∧
    (s.lps.power = .off → lightOnNow level s = (s, refuse .noPower)) ∧
    (s.lps.power = .tripped → lightOnNow level s = (s, refuse .tripped)) := by
  unfold lightOnNow
  refine ⟨fun h => ?_, fun h => by rw [h], fun h => by rw [h]⟩
  rcases h with h | h | h <;> rw [h]

theorem litWith_frame (level : Int) (s : State) : Unchanged [.attention, .lps] s (litWith level s) :=
  (enterPower_frame .lit s).trans ((withLps_frame _ _).weaken (by simp))

/-- The state in LIT with the limits computed, before the grant occasion. -/
def litUpdated (level : Int) (s : State) : State := recomputeLight (updateDerate (litWith level s))

theorem litUpdated_frame (level : Int) (s : State) :
    Unchanged [.attention, .lps] s (litUpdated level s) :=
  (litWith_frame level s).trans (lightUpdate_after _).frame

theorem litUpdated_held (level : Int) (s : State) : HeldOnBoth .state (litUpdated level s) :=
  (lightUpdate_after _).held .state (raiseBoth_held .state (s.withLps (s.lps.entering .lit)))

/-- The record of LPS on entry to LIT with LSH NORMAL, and LIGHT when the limit leaves 1000 (R51, R56). -/
theorem litUpdated_light (level : Int) {x : Int} (temp : normalTemp s .lsh = some x) :
    (litUpdated level s).lps = { s.lps with
      power := .lit, cutOk := false, deadline := none, request := some level,
      derate := derateNext s 1000 x, effLimit := limitUnder s (derateNext s 1000 x), lightEn := true,
      lightLevel := min level (limitUnder s (derateNext s 1000 x)) } ∧
    (limitUnder s (derateNext s 1000 x) < 1000 → HeldOnBoth .light (litUpdated level s)) := by
  have frame := litUpdated_frame level s
  have derate : derateNext (litUpdated level s) (litWith level s).lps.derate x = derateNext s 1000 x :=
    derateNext_of_prf (frame .prf (by simp)) 1000 x
  have under := limitUnder_of_afc (frame .afc (by simp))
  have follows : LightFollows x (litWith level s) (litUpdated level s) := lightUpdate_follows rfl temp
  unfold LightFollows at follows
  simp only [derate, under] at follows
  obtain ⟨record, raised, -⟩ := follows
  exact ⟨record, fun below => raised fun full => below.ne (full.mp rfl)⟩

/-- The grant occasion at the entry to LIT leaves LPS as it is (R91). -/
theorem enterLit_after (level : Int) (s : State) :
    Unchanged [.attention, .scn, .ldu, .msc, .fdt, .geo, .bkm] (litUpdated level s)
      (enterLit level s) :=
  grantOccasion_keeps (lens_frame _) none (.refl _ _)

theorem enterLit_frame (level : Int) (s : State) :
    Unchanged [.attention, .lps, .scn, .ldu, .msc, .fdt, .geo, .bkm] s (enterLit level s) :=
  ((litUpdated_frame level s).weaken (by simp)).trans ((enterLit_after level s).weaken (by simp))

theorem enterLit_lps (level : Int) (s : State) : (enterLit level s).lps = (litUpdated level s).lps :=
  enterLit_after level s .lps (by simp)

/-- The grant occasion takes no cause from the pending sets. -/
theorem enterLit_held {d : Cause} {level : Int} (h : HeldOnBoth d (litUpdated level s)) :
    HeldOnBoth d (enterLit level s) := grantOccasion_keeps (held_lens d) none h

/-- Settles O31: the entry to LIT before its grant occasion, a new request in LIT, the refusals. -/
theorem lightOnFollowsThePowerStateAndTheCover : Obligations.LightOnFollowsThePowerStateAndTheCover := by
  intro hi lo s awake level
  have clamped : requestLevel (word2 hi lo) = level := rfl
  clear_value level
  refine ⟨_, exec_lightOn hi lo awake, fun ready closed => ?_, fun ready opened => ?_, fun lit => ?_, ?_⟩
  · rw [lightOnNow_of_closed (s := shiftOut .m 4 s) _ ready closed, clamped]
    dsimp only
    have frame := enterLit_frame level (shiftOut .m 4 s)
    obtain ⟨stateM, stateS⟩ :=
      (enterLit_held (litUpdated_held level (shiftOut .m 4 s))).respond .m 0x10 (answerOk [])
    refine ⟨respond_answered .m 0x10 [hi, lo] (answerOk []) (frame .ports (by simp)),
      frame.taken _ _, stateM, stateS, fun x temp => ?_⟩
    obtain ⟨record, light⟩ := litUpdated_light level (s := shiftOut .m 4 s) (x := x) temp
    rw [derateNext_of_prf (t := shiftOut .m 4 s) (v := s) rfl,
      limitUnder_of_afc (t := shiftOut .m 4 s) (v := s) rfl] at record light
    rw [respond_lps, enterLit_lps]
    exact ⟨record, fun below => (enterLit_held (light below)).respond .m 0x10 (answerOk [])⟩
  · rw [lightOnNow_of_opened (s := shiftOut .m 4 s) _ ready opened]
    exact answered_only .m 0x10 [hi, lo] (refuse .coverOpen) s
  · rw [lightOnNow_of_lit (s := shiftOut .m 4 s) _ lit, clamped]
    exact ⟨respond_answered .m 0x10 [hi, lo] (answerOk []) rfl,
      (withLps_frame (shiftOut .m 4 s) _).taken _ _, rfl⟩
  · obtain ⟨early, off, tripped⟩ := lightOnNow_refused (s := shiftOut .m 4 s) (word2 hi lo)
    refine ⟨fun h => ?_, fun h => ?_, fun h => ?_⟩
    · rw [early h]
      exact answered_only .m 0x10 [hi, lo] (refuse .notReady) s
    · rw [off h]
      exact answered_only .m 0x10 [hi, lo] (refuse .noPower) s
    · rw [tripped h]
      exact answered_only .m 0x10 [hi, lo] (refuse .tripped) s

end Sys2Proof.Machine
end

section
/-! The laws at power-up, and the millisecond that passes on an empty queue. Every numbered record of
`State.reset` is blank, and a blank record meets its law. -/

namespace Sys2Proof.Machine

variable {s : State}

/-! ## The blank records (R60, R85, R135, R171) -/

theorem reset_axis (a : Axis) : State.reset.axis a = axisReset (axisMaximum State.reset a) := by
  cases a <;> rfl

theorem reset_pending (a : Axis) : State.reset.msc.pending.get a = none := by cases a <;> rfl

theorem reset_bank (i : BankId) : State.reset.bkm.banks.get i = bankReset := by cases i <;> rfl

theorem reset_stored (n : Fin 10) : State.reset.nvs.slots.get n = .damaged := by
  have slots : State.reset.nvs.slots = Vector.replicate 10 .damaged := rfl
  rw [slots, Vector.get_eq_getElem, Vector.getElem_replicate]

/-! ## The laws -/

theorem attentionLaw_reset : AttentionLaw State.reset := by
  unfold AttentionLaw
  decide

theorem lensLaw_reset : LensLaw State.reset := by
  refine ⟨fun a => ?_, fun a b d held => ?_⟩
  · rw [reset_axis]
    exact ⟨rfl, fun held => (by cases held), fun _ => rfl, fun _ => rfl⟩
  · rw [reset_axis] at held
    cases held

theorem requestLaw_reset : RequestLaw State.reset := by
  refine ⟨fun a q waits => ?_, fun a q waits => ?_, fun a _ => reset_pending a, fun a remains => ?_⟩
  · rw [reset_pending] at waits
    cases waits
  · rw [reset_pending] at waits
    cases waits
  · rw [yielded, reset_axis] at remains
    cases remains

theorem boundLaw_reset : BoundLaw State.reset := by
  refine ⟨rfl, fun a => ⟨by cases a <;> decide, by cases a <;> decide, ?_⟩⟩
  rw [reset_axis]
  exact ⟨le_refl _, fun p known => (by cases known), fun dwells => (by cases dwells),
    fun moves => by cases moves⟩

theorem bankLaw_reset : BankLaw State.reset := by
  have idle : ∀ i, (State.reset.bkm.banks.get i).role = .idle := fun i => by rw [reset_bank]; rfl
  have gen : ∀ i, (State.reset.bkm.banks.get i).gen = 0 := fun i => by rw [reset_bank]; rfl
  exact ⟨by decide, fun r busy i j role _ => absurd (role.symm.trans (idle i)) busy, by decide,
    fun builds => (by cases builds), by decide, fun l loan => (by cases loan), fun i _ => gen i,
    fun i => by simp [gen], by decide, by decide⟩

theorem imageLaw_reset : ImageLaw State.reset := by
  refine ⟨fun i => ?_, fun i isOffered => ?_⟩
  · rw [reset_bank]
    exact ⟨rfl, fun c hc => by cases hc⟩
  · rw [reset_bank] at isOffered
    cases isOffered

theorem storeLaw_reset : StoreLaw State.reset := by
  refine ⟨.nil, fun _ => rfl, fun n c k written => ?_, fun c k written => by cases written⟩
  rw [reset_stored] at written
  cases written

theorem scanLaw_reset : ScanLaw State.reset := (scanLaw_partReset State.reset).of_eq rfl rfl

/-- Settles O8: law by law. -/
theorem everyLawHoldsAtReset : Obligations.EveryLawHoldsAtReset :=
  ⟨attentionLaw_reset, powerLaw_reset, lensLaw_reset, requestLaw_reset, boundLaw_reset, bankLaw_reset,
    imageLaw_reset, storeLaw_reset, scanLaw_reset⟩

/-! ## The empty queue (R37, R44, R143) -/

theorem step_of_empty (h : s.pending = []) : step s = .next (passMillisecond s) := by
  unfold step
  rw [h]

theorem passMillisecond_frame (s : State) : Unchanged [.lps, .bkm] s (passMillisecond s) :=
  ((withLps_frame s _).weaken (by simp)).trans ((withBkm_frame _ _).weaken (by simp))

/-- Settles O2: the step is a millisecond, which moves the three timers. -/
theorem emptyQueueLetsOneMillisecondPass : Obligations.EmptyQueueLetsOneMillisecondPass :=
  fun s empty => ⟨_, step_of_empty empty, passMillisecond_frame s, rfl, rfl⟩

end Sys2Proof.Machine
end

section
/-! PROFILE_WRITE. An accepted write changes the section, then the maxima in force, then the light in LIT,
and then asks for a build; each of the last three acts for one section or two and leaves the others alone. -/

namespace Sys2Proof.Machine

variable {s t u : State} {k : ProfileSection} {v : List Int}

/-! ## The checks (R170) -/

theorem exec_profileWrite {b hi lo : Byte} {data : List Byte} (awake : s.inReset = false)
    (low : 1 ≤ data.length) (high : data.length ≤ 252) (h : profileSectionOfByte b = some k) :
    exec (.profileWrite .m (b :: hi :: lo :: data)) s = .next (respond .m 0x38
      (writeProfile k (word2 hi lo) data (shiftOut .m (data.length + 3 + 2) s)).2
      (writeProfile k (word2 hi lo) data (shiftOut .m (data.length + 3 + 2) s)).1) := by
  have length : cmdLengthOk .profileWrite (b :: hi :: lo :: data).length = true := by
    simp [cmdLengthOk]
    omega
  have parsed : parseProfileWrite (b :: hi :: lo :: data) = some (k, word2 hi lo, data) := by
    simp [parseProfileWrite, h]
  exact (exec_next _ s).trans (congrArg _ (takeCommand_of_accepted awake rfl length parsed))

/-- The write covers a parameter of an axis that is running or YIELDED (step 2 of R170). -/
def CoversInUse (s : State) (k : ProfileSection) (i n : Nat) : Prop :=
  k = .axis ∧ ∃ a, i < 5 * axisNumber a + 5 ∧ 5 * axisNumber a < i + n ∧
    (running s a = true ∨ yielded s a = true)

theorem writeBusy_iff (s : State) (k : ProfileSection) (i n : Nat) :
    writeBusy s k i n = true ↔ CoversInUse s k i n := by
  simp [writeBusy, CoversInUse, coversAxis, touches, mem_allAxes, and_assoc]

/-- The section as it would stand after a write (steps 3 and 4 of R170). -/
def written (s : State) (k : ProfileSection) (i : Nat) (raw : List Int) : List Int :=
  overlay (s.prf.section_ k) i (clampWrite (s.prf.section_ k) k i raw)

theorem writeProfile_of_outside {o : Nat} {d : List Byte} (h : writeTarget k o d = none) :
    writeProfile k o d s = (s, refuse .badValue) := by
  unfold writeProfile
  rw [h]

theorem writeProfile_of_busy {o i : Nat} {d : List Byte} {raw : List Int}
    (h : writeTarget k o d = some (i, raw)) (busy : CoversInUse s k i raw.length) :
    writeProfile k o d s = (s, refuse .busy) := by
  unfold writeProfile
  rw [h]
  exact if_pos ((writeBusy_iff _ _ _ _).mpr busy)

theorem writeProfile_of_invalid {o i : Nat} {d : List Byte} {raw : List Int}
    (h : writeTarget k o d = some (i, raw)) (free : ¬CoversInUse s k i raw.length)
    (fails : conditionsHold k (written s k i raw) i raw.length = false) :
    writeProfile k o d s = (s, refuse .badValue) := by
  unfold writeProfile
  rw [h]
  dsimp only
  rw [if_neg (mt (writeBusy_iff _ _ _ _).mp free)]
  exact if_neg (by simpa [written] using fails)

theorem writeProfile_of_accepted {o i : Nat} {d : List Byte} {raw : List Int}
    (h : writeTarget k o d = some (i, raw)) (free : ¬CoversInUse s k i raw.length)
    (holds : conditionsHold k (written s k i raw) i raw.length = true) :
    writeProfile k o d s = (applyWrite k i raw.length (written s k i raw) s, answerOk []) := by
  unfold writeProfile
  rw [h]
  dsimp only
  rw [if_neg (mt (writeBusy_iff _ _ _ _).mp free)]
  exact if_pos holds

/-! ## The maxima in force (R60, R82) -/

theorem refreshMaximum_frame (before : State) (a : Axis) (s : State) :
    Unchanged [.ldu] s (refreshMaximum before a s) := by
  unfold refreshMaximum
  split
  · exact .refl _ _
  · exact setAxis_frame _ _ _

theorem refreshMaxima_frame (before s : State) : Unchanged [.ldu] s (refreshMaxima before s) :=
  overAxes_keeps (P := Unchanged [.ldu] s) (f := fun a t => refreshMaximum before a t)
    (fun a t h => h.trans (refreshMaximum_frame before a t)) (.refl _ _)

/-- Where no maximum changes, no maximum in force does. -/
theorem refreshMaxima_of_same {before : State} (h : before.prf.axis = s.prf.axis) :
    refreshMaxima before s = s := by
  have same : ∀ a, refreshMaximum before a s = s := fun a => if_pos (by rw [axisMaximum, h]; rfl)
  simp [refreshMaxima, allAxes, same]

/-- The record of an axis whose maximum in force follows a write (R60). -/
def AxisRecord.refreshed (r : AxisRecord) (before after : Int) : AxisRecord :=
  if before = after then r else { r with maxInForce := newMaxInForce r after }

theorem refreshMaximum_axis_self (before : State) (a : Axis) (s : State) :
    (refreshMaximum before a s).axis a =
      (s.axis a).refreshed (axisMaximum before a) (axisMaximum s a) := by
  unfold refreshMaximum AxisRecord.refreshed
  split
  · rfl
  · exact State.setAxis_axis_self _ _ _

theorem refreshMaximum_axis_of_ne (before : State) {a b : Axis} (h : b ≠ a) (s : State) :
    (refreshMaximum before b s).axis a = s.axis a := by
  unfold refreshMaximum
  split
  · rfl
  · exact State.setAxis_axis_of_ne _ _ h.symm

theorem axisMaximum_of_prf (h : t.prf = s.prf) (a : Axis) : axisMaximum t a = axisMaximum s a := by
  unfold axisMaximum
  rw [h]

theorem refreshMaxima_axis (before s : State) (a : Axis) : (refreshMaxima before s).axis a =
    (s.axis a).refreshed (axisMaximum before a) (axisMaximum s a) := by
  have maximum : ∀ b t, axisMaximum (refreshMaximum before b t) a = axisMaximum t a := fun b t =>
    axisMaximum_of_prf (refreshMaximum_frame before b t .prf (by simp)) a
  have both := overAxes_at (f := fun b t => refreshMaximum before b t) (a := a)
    (fun t => (t.axis a, axisMaximum t a))
    (fun x => (x.1.refreshed (axisMaximum before a) x.2, x.2))
    (fun t => by rw [refreshMaximum_axis_self, maximum])
    (fun b hb t => by rw [refreshMaximum_axis_of_ne before hb, maximum]) s
  exact congrArg Prod.fst both

/-! ## The light (R57) -/

/-- The write changes Ts, Te, Lf or H. -/
def DerateChanged (before after : List Int) : Prop :=
  (before.drop 16).take 4 ≠ (after.drop 16).take 4

theorem refreshDerate_frame (before s : State) :
    Unchanged [.attention, .lps] s (refreshDerate before s) := by
  unfold refreshDerate
  split
  · exact (lightUpdate_after s).frame
  · exact .refl _ _

theorem refreshDerate_of_same {before : State}
    (h : s.lps.power ≠ .lit ∨ ¬DerateChanged before.prf.light s.prf.light) :
    refreshDerate before s = s := by
  refine if_neg fun ⟨lit, changed⟩ => ?_
  rcases h with h | h
  · exact h lit
  · exact h changed

theorem refreshDerate_of_change {before : State} (lit : s.lps.power = .lit)
    (changed : DerateChanged before.prf.light s.prf.light) :
    refreshDerate before s = recomputeLight (updateDerate s) := if_pos ⟨lit, changed⟩

/-! ## An accepted write, section by section -/

/-- The state in which the section holds the new values and nothing has followed. -/
def sectionWritten (k : ProfileSection) (v : List Int) (s : State) : State :=
  s.withPrf (s.prf.setSection k v)

/-- What an accepted write has changed before it asks for a build. -/
def writeActed (k : ProfileSection) (v : List Int) (s : State) : State :=
  refreshDerate s (refreshMaxima s (sectionWritten k v s))

theorem applyWrite_eq (k : ProfileSection) (i n : Nat) (v : List Int) (s : State) :
    applyWrite k i n v s =
      if writeBuilds k i n then requestBuild (writeActed k v s) else writeActed k v s := rfl

theorem sectionWritten_frame (k : ProfileSection) (v : List Int) (s : State) :
    Unchanged [.prf] s (sectionWritten k v s) := withPrf_frame _ _

theorem writeActed_frame (k : ProfileSection) (v : List Int) (s : State) :
    Unchanged [.attention, .lps, .ldu] (sectionWritten k v s) (writeActed k v s) :=
  ((refreshMaxima_frame _ _).weaken (by simp)).trans ((refreshDerate_frame _ _).weaken (by simp))

theorem applyWrite_frame (k : ProfileSection) (i n : Nat) (v : List Int) (s : State) :
    Unchanged [.attention, .lps, .ldu, .geo, .bkm] (sectionWritten k v s) (applyWrite k i n v s) := by
  rw [applyWrite_eq]
  split
  · exact ((writeActed_frame k v s).weaken (by simp)).trans ((requestBuild_frame _).weaken (by simp))
  · exact (writeActed_frame k v s).weaken (by simp)

theorem acceptedWrite_frame (k : ProfileSection) (i n : Nat) (v : List Int) (s : State) :
    Unchanged [.attention, .prf, .lps, .ldu, .geo, .bkm] s (applyWrite k i n v s) :=
  ((sectionWritten_frame k v s).weaken (by simp)).trans ((applyWrite_frame k i n v s).weaken (by simp))

/-- A write of SENSOR, FAN or OPTICS changes the section alone. -/
theorem writeActed_of_plain (axes : k ≠ .axis) (light : k ≠ .light) :
    writeActed k v s = sectionWritten k v s := by
  have kept : s.prf.axis = (sectionWritten k v s).prf.axis ∧
      s.prf.light = (sectionWritten k v s).prf.light := by
    cases k with
    | sensor | fan | optics => exact ⟨rfl, rfl⟩
    | light => exact absurd rfl light
    | axis => exact absurd rfl axes
  obtain ⟨axes, light⟩ := kept
  rw [writeActed, refreshMaxima_of_same axes,
    refreshDerate_of_same (.inr fun changed => changed (by rw [light]))]

/-- A write of LIGHT may act on the light beside the section. -/
theorem writeActed_light (v : List Int) (s : State) :
    writeActed .light v s = refreshDerate s (sectionWritten .light v s) := by
  rw [writeActed, refreshMaxima_of_same (before := s) (s := sectionWritten .light v s) rfl]

/-- A write of AXIS acts on the maxima in force beside the section. -/
theorem writeActed_axis (v : List Int) (s : State) :
    writeActed .axis v s = refreshMaxima s (sectionWritten .axis v s) := by
  have prf : (refreshMaxima s (sectionWritten .axis v s)).prf = s.prf.setSection .axis v :=
    refreshMaxima_frame _ _ .prf (by simp)
  exact refreshDerate_of_same (.inr fun changed => changed (by rw [prf]; rfl))

/-- A write of OPTICS asks for a build, one of AXIS when it covers VS's centre, and no other (R122). -/
theorem writeBuilds_iff (k : ProfileSection) (i n : Nat) :
    writeBuilds k i n = true ↔ k = .optics ∨ k = .axis ∧ i ≤ 6 ∧ 6 < i + n := by
  simp [writeBuilds, touches, Nat.lt_succ_iff]

theorem applyWrite_of_build {i n : Nat} (h : k = .optics ∨ k = .axis ∧ i ≤ 6 ∧ 6 < i + n) :
    applyWrite k i n v s = requestBuild (writeActed k v s) := if_pos ((writeBuilds_iff k i n).mpr h)

theorem applyWrite_of_rest {i n : Nat} (h : ¬(k = .optics ∨ k = .axis ∧ i ≤ 6 ∧ 6 < i + n)) :
    applyWrite k i n v s = writeActed k v s := if_neg (mt (writeBuilds_iff k i n).mp h)

theorem applyWrite_light (i n : Nat) (v : List Int) (s : State) :
    applyWrite .light i n v s = refreshDerate s (sectionWritten .light v s) := by
  rw [applyWrite_of_rest (by simp), writeActed_light]

theorem applyWrite_light_frame (i n : Nat) (v : List Int) (s : State) :
    Unchanged [.attention, .prf, .lps] s (applyWrite .light i n v s) := by
  rw [applyWrite_light]
  exact ((sectionWritten_frame .light v s).weaken (by simp)).trans
    ((refreshDerate_frame _ _).weaken (by simp))

theorem applyWrite_of_sensor_or_fan (h : k = .sensor ∨ k = .fan) (i n : Nat) :
    applyWrite k i n v s = sectionWritten k v s := by
  rw [applyWrite_of_rest (by rcases h with rfl | rfl <;> simp),
    writeActed_of_plain (by rcases h with rfl | rfl <;> decide) (by rcases h with rfl | rfl <;> decide)]

/-! ## The effects of an accepted write (R57, R60, R82, R122) -/

/-- A build that a write asks for is judged by the builds and the banks before the write. -/
theorem applyWrite_asked {i n : Nat} (h : k = .optics ∨ k = .axis ∧ i ≤ 6 ∧ 6 < i + n) :
    BuildAsked s (applyWrite k i n v s) := by
  have frame : Unchanged [.prf, .attention, .lps, .ldu] s (writeActed k v s) :=
    ((sectionWritten_frame k v s).weaken (by simp)).trans ((writeActed_frame k v s).weaken (by simp))
  rw [applyWrite_of_build h]
  exact (requestBuild_asked _).of_eq (frame .geo (by simp)).symm (frame .bkm (by simp)).symm

theorem BuildAsked.respond (h : BuildAsked s u) (p : Port) (c : Byte) (a : Answer) :
    BuildAsked s (respond p c a u) := h

/-- The axes after a write of AXIS. -/
theorem applyWrite_axis_axes (i n : Nat) (v : List Int) (s : State) (a : Axis) :
    (applyWrite .axis i n v s).axis a = (s.axis a).refreshed (axisMaximum s a)
      (axisMaximum (applyWrite .axis i n v s) a) := by
  have prf : (applyWrite .axis i n v s).prf = (sectionWritten .axis v s).prf :=
    applyWrite_frame .axis i n v s .prf (by simp)
  have ldu : (applyWrite .axis i n v s).ldu = (writeActed .axis v s).ldu := by
    rw [applyWrite_eq]
    split
    · exact requestBuild_frame _ .ldu (by simp)
    · rfl
  have axis : (applyWrite .axis i n v s).axis a = (writeActed .axis v s).axis a := by
    unfold State.axis
    rw [ldu]
  rw [axis, writeActed_axis, refreshMaxima_axis, axisMaximum_of_prf prf]
  rfl

theorem newMaxInForce_eq (r : AxisRecord) (m : Int) : newMaxInForce r m = max m (r.position.getD m) := by
  unfold newMaxInForce
  cases r.position with
  | none => exact (max_self m).symm
  | some p => rfl

theorem refreshed_eq (r : AxisRecord) (before after : Int) : r.refreshed before after =
    { r with maxInForce := if after = before then r.maxInForce
                           else max after (r.position.getD after) } := by
  unfold AxisRecord.refreshed
  by_cases same : before = after
  · rw [if_pos same, if_pos same.symm]
  · rw [if_neg same, if_neg (Ne.symm same), newMaxInForce_eq]

/-- A write of AXIS leaves LPS and the causes. -/
theorem applyWrite_axis_frame (i n : Nat) (v : List Int) (s : State) :
    Unchanged [.prf, .ldu, .geo, .bkm] s (applyWrite .axis i n v s) := by
  have acted : Unchanged [.prf, .ldu] s (writeActed .axis v s) := by
    rw [writeActed_axis]
    exact ((sectionWritten_frame .axis v s).weaken (by simp)).trans
      ((refreshMaxima_frame _ _).weaken (by simp))
  rw [applyWrite_eq]
  split
  · exact (acted.weaken (by simp)).trans ((requestBuild_frame _).weaken (by simp))
  · exact acted.weaken (by simp)

/-- A write of OPTICS changes the section and asks for a build. -/
theorem applyWrite_optics_frame (i n : Nat) (v : List Int) (s : State) :
    Unchanged [.prf, .geo, .bkm] s (applyWrite .optics i n v s) := by
  rw [applyWrite_of_build (.inl rfl), writeActed_of_plain (by decide) (by decide)]
  exact ((sectionWritten_frame .optics v s).weaken (by simp)).trans
    ((requestBuild_frame _).weaken (by simp))

/-- What the light follows is the same from a state with the record of LPS and the causes as they were, and
to one with the profile and the fans too. -/
theorem LightFollows.congr {s' t' : State} {x : Int} (h : LightFollows x s t) (before : s'.lps = s.lps)
    (causes : HeldAsBefore .light s' s) (after : Unchanged [.ports] t t') : LightFollows x s' t' := by
  have derate := derateNext_of_prf (after .prf (by simp))
  have under := limitUnder_of_afc (after .afc (by simp))
  have lps : t'.lps = t.lps := after .lps (by simp)
  have raised : HeldAsBefore .light t t' :=
    RaisesOnly.of_unchanged (l := []) after (by simp) .light (by simp)
  obtain ⟨record, crossed, same⟩ := h
  unfold LightFollows
  simp only [derate, under, lps, before]
  exact ⟨record, fun crosses => ⟨raised.1.trans (crossed crosses).1, raised.2.trans (crossed crosses).2⟩,
    fun stays => (causes.trans (same stays)).trans raised⟩

/-- In LIT without a NORMAL LSH the derate limit stays and the limits are computed again (log 35). -/
theorem lightUpdate_of_unknown (lit : s.lps.power = .lit) (unknown : normalTemp s .lsh = none) :
    (recomputeLight (updateDerate s)).lps = { s.lps with
      effLimit := limitUnder s s.lps.derate,
      lightLevel := min (s.lps.request.getD 0) (limitUnder s s.lps.derate) } := by
  have update : updateDerate s = s := by
    unfold updateDerate
    rw [unknown]
  rw [update, recomputeLight_lps lit, effectiveLimit_eq]
  rfl

/-- A write of LIGHT outside LIT, or one that changes no derate parameter, leaves LPS as it was. -/
theorem applyWrite_light_lps {i n : Nat}
    (h : s.lps.power ≠ .lit ∨ ¬DerateChanged s.prf.light v) : (applyWrite .light i n v s).lps = s.lps := by
  rw [applyWrite_light, refreshDerate_of_same (s := sectionWritten .light v s) h]
  rfl

/-- A write of LIGHT in LIT that changes a derate parameter acts on the light at once (R57). -/
theorem applyWrite_light_of_change {i n : Nat} (lit : s.lps.power = .lit)
    (changed : DerateChanged s.prf.light v) :
    applyWrite .light i n v s = recomputeLight (updateDerate (sectionWritten .light v s)) := by
  rw [applyWrite_light, refreshDerate_of_change (s := sectionWritten .light v s) lit changed]

theorem limitUnder_respond (p : Port) (c : Byte) (a : Answer) (s : State) (d : Int) :
    limitUnder (respond p c a s) d = limitUnder s d := limitUnder_of_afc rfl d

/-- With LSH NORMAL the light follows its temperature. -/
theorem applyWrite_light_follows {i n : Nat} {x : Int} (lit : s.lps.power = .lit)
    (changed : DerateChanged s.prf.light v) (temp : normalTemp s .lsh = some x) :
    LightFollows x s (applyWrite .light i n v s) := by
  rw [applyWrite_light_of_change lit changed]
  exact (lightUpdate_follows (s := sectionWritten .light v s) lit temp).congr rfl ⟨rfl, rfl⟩ (.refl _ _)

/-- With another LSH the derate limit stays. -/
theorem applyWrite_light_of_unknown {i n : Nat} (lit : s.lps.power = .lit)
    (changed : DerateChanged s.prf.light v) (unknown : normalTemp s .lsh = none) :
    (applyWrite .light i n v s).lps = { s.lps with
      effLimit := limitUnder (applyWrite .light i n v s) s.lps.derate,
      lightLevel := min (s.lps.request.getD 0)
        (limitUnder (applyWrite .light i n v s) s.lps.derate) } := by
  rw [limitUnder_of_afc (acceptedWrite_frame .light i n v s .afc (by simp)),
    applyWrite_light_of_change lit changed]
  exact lightUpdate_of_unknown (s := sectionWritten .light v s) lit unknown

/-! ## PROFILE_WRITE -/

/-- Settles O58: the checks in their order, then clause by clause what the section written has at once. -/
theorem profileWriteFollowsItsSteps : Obligations.ProfileWriteFollowsItsSteps := by
  intro b hi lo data k s awake low high hk d
  have taken := exec_profileWrite (hi := hi) (lo := lo) awake low high hk
  set u := shiftOut .m (data.length + 3 + 2) s
  refine ⟨_, taken, fun outside => ?_, ?_⟩
  · rw [writeProfile_of_outside outside]
    exact answered_only .m 0x38 d (refuse .badValue) s
  intro i raw target inUse new
  refine ⟨fun busy => ?_, fun free fails => ?_, fun free holds => ?_⟩
  · rw [writeProfile_of_busy (s := u) target busy]
    exact answered_only .m 0x38 d (refuse .busy) s
  · rw [writeProfile_of_invalid (s := u) target free fails]
    exact answered_only .m 0x38 d (refuse .badValue) s
  have isNew : written u k i raw = new := rfl
  rw [writeProfile_of_accepted (s := u) target free holds, isNew]
  clear_value new
  dsimp only
  have frame := acceptedWrite_frame k i raw.length new u
  refine ⟨respond_answered .m 0x38 d (answerOk []) (frame .ports (by simp)),
    applyWrite_frame k i raw.length new u .prf (by simp), frame.taken _ _, fun plain => ?_, ?_, ?_, ?_, ?_,
    ?_, ?_, ?_, ?_⟩
  · rw [applyWrite_of_sensor_or_fan plain]
    exact (sectionWritten_frame _ _ _).taken _ _
  · rintro rfl
    exact (applyWrite_light_frame i raw.length new u).taken _ _
  · rintro rfl h
    exact applyWrite_light_lps (s := u) (h.imp_right not_not.mpr)
  · rintro x rfl lit changed temp
    exact (applyWrite_light_follows (s := u) lit changed temp).congr rfl ⟨rfl, rfl⟩
      (respond_frame _ _ _ _)
  · rintro rfl lit changed unknown
    rw [respond_lps, limitUnder_respond]
    exact applyWrite_light_of_unknown (s := u) lit changed unknown
  · rintro rfl low high
    exact (applyWrite_asked (s := u) (.inr ⟨rfl, low, high⟩)).respond .m 0x38 (answerOk [])
  · rintro rfl rest
    rw [applyWrite_of_rest (by simpa using rest)]
    exact ⟨writeActed_frame .axis new u .geo (by simp), writeActed_frame .axis new u .bkm (by simp)⟩
  · rintro rfl
    exact ⟨(applyWrite_axis_frame i raw.length new u).taken _ _, fun a =>
      (applyWrite_axis_axes i raw.length new u a).trans (refreshed_eq _ _ _)⟩
  · rintro rfl
    exact ⟨(applyWrite_optics_frame i raw.length new u).taken _ _,
      (applyWrite_asked (s := u) (.inl rfl)).respond .m 0x38 (answerOk [])⟩

end Sys2Proof.Machine
end

section
/-! The laws of the pending list and of the bound on every position, said of one axis at a time: what an
axis record and what waits on its axis satisfy. Every operation of the lens acts on one axis, so each
keeps the laws when the record that it leaves meets them. Both laws are carried along in one walk, each
under its own premise. -/

namespace Sys2Proof.Machine

/-! ## The bound, clause by clause (R60, R68, R70) -/

/-- What `Within` says of an axis record whether its axis moves or not. -/
structure AxisRecord.Grounded (r : AxisRecord) (top : Int) : Prop where
  covers : top ≤ r.maxInForce
  position : ∀ p, r.position = some p → 0 ≤ p ∧ p ≤ r.maxInForce
  dwell : r.dwell.isSome = true → r.phase = some .reverse

/-- What `Within` says beside that of the record of a MOVING axis. -/
structure AxisRecord.Underway (r : AxisRecord) (top : Int) : Prop where
  place : (r.phase = some .yielded ∧ r.slot = none) ∨ (r.slot.isSome = true ∧
    (r.phase = some .travel ∨ r.phase = some .overshootReturn ∨ r.phase = some .stopRamp ∨
      r.phase = some .reverse))
  dwell : r.dwell ≠ some .seek ∧ r.dwell ≠ some .release
  target : ∀ t, r.target = some t → 0 ≤ t ∧ t ≤ top
  leg : ∀ p, r.position = some p → r.phase = some .travel ∨ r.phase = some .overshootReturn →
    legAhead r.direction p r.legEnd r.maxInForce ∧
      (r.direction = .negative → ∃ t, r.target = some t ∧ r.legEnd ≤ t)
  ramp : ∀ p, r.position = some p → r.phase = some .stopRamp → r.endAction.isSome = true ∧
    1 ≤ r.remaining ∧ legAhead r.direction p (p + stepBy r.direction * r.remaining) r.maxInForce
  returnLeg : ∀ p, r.position = some p → r.dwell = some .returnLeg → ∃ t, r.target = some t ∧ p < t

theorem AxisRecord.within_iff (r : AxisRecord) (top : Int) :
    r.Within top ↔ r.Grounded top ∧ (r.state = .moving → r.Underway top) := by
  constructor
  · rintro ⟨covers, position, dwell, moves⟩
    refine ⟨⟨covers, position, dwell⟩, fun moving => ?_⟩
    obtain ⟨place, notSeek, notRelease, target, course⟩ := moves moving
    exact ⟨place, ⟨notSeek, notRelease⟩, target, fun p hp => (course p hp).1,
      fun p hp => (course p hp).2.1, fun p hp => (course p hp).2.2⟩
  · rintro ⟨⟨covers, position, dwell⟩, moves⟩
    refine ⟨covers, position, dwell, fun moving => ?_⟩
    obtain ⟨place, ⟨notSeek, notRelease⟩, target, leg, ramp, returnLeg⟩ := moves moving
    exact ⟨place, notSeek, notRelease, target, fun p hp => ⟨leg p hp, ramp p hp, returnLeg p hp⟩⟩

/-! ## Both laws of one axis record -/

/-- An axis record beside what waits on its axis: under `R` it meets the law of the pending list, under
`B` that of the bound, for a profile maximum `top`. A YIELDED axis has a position by the law of the
slots. -/
structure AxisRecord.Lawful (R B : Prop) (top : Int) (q : Option Request) (r : AxisRecord) : Prop where
  taken : R → r.slot.isSome = true → q = none
  remainder : R → r.phase = some .yielded →
    r.state = .moving ∧ r.slot = none ∧ q.isSome = true ∧ r.position.isSome = true
  within : B → r.Within top

/-- An axis record from which a plan, a ramp, a dwell or a homing can begin: what the laws ask of every
phase of a move in force but YIELDED. -/
structure AxisRecord.Poised (R B : Prop) (top : Int) (q : Option Request) (r : AxisRecord) : Prop where
  taken : R → r.slot.isSome = true → q = none
  grounded : B → r.Grounded top
  target : B → r.state = .moving → ∀ t, r.target = some t → 0 ≤ t ∧ t ≤ top
  slot : B → r.state = .moving → r.slot.isSome = true

section

variable {R B : Prop} {top : Int} {q : Option Request} {r : AxisRecord}

theorem AxisRecord.Lawful.grounded (h : r.Lawful R B top q) (b : B) : r.Grounded top :=
  ((r.within_iff top).mp (h.within b)).1

theorem AxisRecord.Lawful.underway (h : r.Lawful R B top q) (b : B) (moving : r.state = .moving) :
    r.Underway top := ((r.within_iff top).mp (h.within b)).2 moving

theorem AxisRecord.Lawful.poised (h : r.Lawful R B top q)
    (active : B → r.state = .moving → r.phase ≠ some .yielded) : r.Poised R B top q where
  taken := h.taken
  grounded := h.grounded
  target b moving := (h.underway b moving).target
  slot b moving := by
    rcases (h.underway b moving).place with ⟨waits, -⟩ | ⟨held, -⟩
    · exact absurd waits (active b moving)
    · exact held

/-- A record that is not YIELDED meets the laws when the bound holds of it. -/
theorem AxisRecord.Lawful.of_active (taken : R → r.slot.isSome = true → q = none)
    (active : R → r.phase ≠ some .yielded) (grounded : B → r.Grounded top)
    (underway : B → r.state = .moving → r.Underway top) : r.Lawful R B top q :=
  ⟨taken, fun b waits => absurd waits (active b),
    fun b => (r.within_iff top).mpr ⟨grounded b, underway b⟩⟩

/-- A dwell of a move in force stands in REVERSE, so a record in another phase has none. -/
theorem AxisRecord.Grounded.no_dwell (h : r.Grounded top) (other : r.phase ≠ some .reverse) :
    r.dwell = none := by
  cases dwells : r.dwell with
  | none => rfl
  | some d => exact absurd (h.dwell (by rw [dwells]; rfl)) other

/-! ## Records at rest -/

theorem AxisRecord.Lawful.idleAt (r : AxisRecord) {p : Int} (low : B → 0 ≤ p) :
    (r.idleAt top p).Lawful R B top q := by
  refine .of_active (fun _ held => (by cases held)) (fun _ waits => by cases waits)
    (fun b => ⟨le_max_left _ _, fun p' known => ?_, fun dwells => by cases dwells⟩)
    (fun _ moving => by cases moving)
  cases known
  exact ⟨low b, le_max_right _ _⟩

theorem AxisRecord.Lawful.becomeLost (covers : B → top ≤ r.maxInForce) :
    r.becomeLost.Lawful R B top q :=
  .of_active (fun _ held => (by cases held)) (fun _ waits => by cases waits)
    (fun b => ⟨covers b, fun _ known => (by cases known), fun dwells => by cases dwells⟩)
    (fun _ moving => by cases moving)

/-! ## Plans, dwells and ramps -/

/-- Where a plan from rest leads: its first leg ahead, within the range, and at most to the target when
it is negative (R67). -/
theorem planFrom_leg {p t b m : Int} {d : Direction} {x : Plan} (plan : planFrom p t b d = some x)
    (backlash : 0 ≤ b) (low : 0 ≤ t) (high : t ≤ m) :
    legAhead x.direction p x.legEnd m ∧ (x.direction = .negative → x.legEnd ≤ t) := by
  unfold planFrom at plan
  dsimp only at plan
  have approach : 0 ≤ approachPoint t b ∧ approachPoint t b ≤ t := by
    unfold approachPoint
    omega
  split at plan
  · cases plan
    exact ⟨⟨by assumption, high⟩, fun negative => by cases negative⟩
  · split at plan
    · cases plan
      exact ⟨⟨approach.1, by dsimp only [planThrough]; omega⟩, fun _ => approach.2⟩
    · split at plan
      · cases plan
      · rename_i loops
        cases plan
        exact ⟨⟨approach.1, by dsimp only [planThrough]; omega⟩, fun _ => approach.2⟩

theorem AxisRecord.Poised.beginPlan (h : r.Poised R B top q) {p t b : Int} {d : Direction} {x : Plan}
    (position : r.position = some p) (target : r.target = some t)
    (plan : planFrom p t b d = some x) (backlash : B → 0 ≤ b) :
    (r.beginPlan x).Lawful R B top q := by
  refine .of_active h.taken (fun _ waits => by cases waits)
    (fun hb => ⟨(h.grounded hb).covers, (h.grounded hb).position, fun dwells => by cases dwells⟩)
    (fun hb moving => ?_)
  have goal := h.target hb moving t target
  have covers := (h.grounded hb).covers
  obtain ⟨ahead, behind⟩ := planFrom_leg plan (backlash hb) goal.1 (goal.2.trans covers)
  refine ⟨.inr ⟨h.slot hb moving, .inl rfl⟩, ⟨fun dwells => (by cases dwells), fun dwells => by cases dwells⟩,
    h.target hb moving, fun p' known _ => ⟨?_, fun negative => ⟨t, target, behind negative⟩⟩,
    fun _ _ ramp => (by cases ramp), fun _ _ dwells => by cases dwells⟩
  cases position.symm.trans known
  exact ahead

/-- A dwell of a move that leads to no stage of a homing in progress and to no return leg. -/
theorem AxisRecord.Poised.dwelling (h : r.Poised R B top q) {d : DwellEnd}
    (leads : d = .firstLeg ∨ d = .replan ∨ d = .homing) {x : AxisRecord} (phase : x.phase = some .reverse)
    (dwell : x.dwell = some d) (state : x.state = r.state) (slot : x.slot = r.slot)
    (position : x.position = r.position) (target : x.target = r.target)
    (covers : x.maxInForce = r.maxInForce) : x.Lawful R B top q := by
  have other : d ≠ .returnLeg ∧ d ≠ .seek ∧ d ≠ .release := by
    rcases leads with rfl | rfl | rfl <;> simp
  obtain ⟨noReturn, noSeek, noRelease⟩ := other
  refine .of_active (by rw [slot]; exact h.taken) (fun _ => by rw [phase]; simp)
    (fun b => ⟨?_, ?_, fun _ => phase⟩) (fun b moving => ⟨?_, ?_, ?_, ?_, ?_, ?_⟩)
  · rw [covers]; exact (h.grounded b).covers
  · rw [covers, position]; exact (h.grounded b).position
  · rw [slot]; exact .inr ⟨h.slot b (state.symm.trans moving), .inr (.inr (.inr phase))⟩
  · rw [dwell]; simp [noSeek, noRelease]
  · rw [target]; exact h.target b (state.symm.trans moving)
  · rw [phase]; simp
  · rw [phase]; simp
  · rw [dwell]; simp [noReturn]

theorem AxisRecord.Poised.beginDwell (h : r.Poised R B top q) {d : DwellEnd}
    (leads : d = .firstLeg ∨ d = .replan ∨ d = .homing) (n : Int) :
    (r.beginDwell d n).Lawful R B top q := h.dwelling leads rfl rfl rfl rfl rfl rfl rfl

/-- A leg that is not the last of its plan ends in the dwell before the return leg (R68). -/
theorem AxisRecord.Poised.beginReturn (h : r.Poised R B top q) {p : Int} (position : r.position = some p)
    (returns : B → r.state = .moving → ∃ t, r.target = some t ∧ p < t) (n : Int) :
    (r.beginDwell .returnLeg n).Lawful R B top q :=
  .of_active h.taken (fun _ waits => by cases waits)
    (fun b => ⟨(h.grounded b).covers, (h.grounded b).position, fun _ => rfl⟩)
    (fun b moving => ⟨.inr ⟨h.slot b moving, .inr (.inr (.inr rfl))⟩,
      ⟨fun dwells => (by cases dwells), fun dwells => (by cases dwells)⟩,
      h.target b moving, fun _ _ leg => (by rcases leg with leg | leg <;> cases leg),
      fun _ _ ramp => (by cases ramp),
      fun p' known _ => by cases position.symm.trans known; exact returns b moving⟩)

/-- A record in a stop ramp (R70). -/
def AxisRecord.ramping (r : AxisRecord) (e : EndAction) (n : Int) : AxisRecord :=
  { r with phase := some .stopRamp, endAction := some e, remaining := n }

/-- A stop ramp of some steps ends within the leg that it stops (R70). -/
theorem rampLength_ahead {d : Direction} {p e m : Int} (ahead : legAhead d p e m) :
    1 ≤ rampLength p e ∧ legAhead d p (p + stepBy d * rampLength p e) m := by
  unfold rampLength
  cases d <;> simp only [legAhead, stepBy] at ahead ⊢ <;> omega

theorem AxisRecord.Poised.ramping (h : r.Poised R B top q) {e : EndAction} {n : Int}
    (undwelt : B → r.dwell = none)
    (ahead : B → r.state = .moving → ∀ p, r.position = some p →
      1 ≤ n ∧ legAhead r.direction p (p + stepBy r.direction * n) r.maxInForce) :
    (r.ramping e n).Lawful R B top q :=
  .of_active h.taken (fun _ waits => by cases waits)
    (fun b => ⟨(h.grounded b).covers, (h.grounded b).position,
      fun dwells => absurd (undwelt b) (Option.isSome_iff_ne_none.mp dwells)⟩)
    (fun b moving => ⟨.inr ⟨h.slot b moving, .inr (.inr (.inl rfl))⟩,
      ⟨fun dwells => (by cases (undwelt b).symm.trans dwells),
        fun dwells => (by cases (undwelt b).symm.trans dwells)⟩,
      h.target b moving, fun _ _ leg => (by rcases leg with leg | leg <;> cases leg),
      fun p known _ => ⟨rfl, ahead b moving p known⟩,
      fun _ _ dwells => by cases (undwelt b).symm.trans dwells⟩)

/-! ## Homings and yields -/

/-- The record of a homing in force meets the laws in every stage (R76). -/
theorem AxisRecord.Lawful.of_homing (taken : R → r.slot.isSome = true → q = none)
    (homing : r.state = .homing) (zero : r.position = some 0) (active : r.phase ≠ some .yielded)
    (covers : B → 0 ≤ top ∧ top ≤ r.maxInForce) (dwell : r.dwell.isSome = true → r.phase = some .reverse) :
    r.Lawful R B top q := by
  refine .of_active taken (fun _ => active) (fun b => ⟨(covers b).2, fun p known => ?_, dwell⟩)
    (fun _ moving => by cases homing.symm.trans moving)
  cases zero.symm.trans known
  exact ⟨le_rfl, (covers b).1.trans (covers b).2⟩

theorem AxisRecord.Lawful.firstStage (taken : R → r.slot.isSome = true → q = none)
    (covers : B → 0 ≤ top ∧ top ≤ r.maxInForce) (limit : Int) :
    (r.enterHoming.firstStage limit).Lawful R B top q := by
  unfold AxisRecord.firstStage
  split
  · exact .of_homing taken rfl rfl (fun waits => by cases waits) covers fun _ => rfl
  · exact .of_homing taken rfl rfl (fun waits => by cases waits) covers fun dwells => by cases dwells

/-- A record that becomes YIELDED (R74). -/
def AxisRecord.yielding (r : AxisRecord) (n : Int) : AxisRecord :=
  { r.released with phase := some .yielded, endAction := none, remaining := n }

theorem AxisRecord.Poised.yielding (h : r.Poised R B top q) (undwelt : B → r.dwell = none)
    (moving : R → r.state = .moving) (known : r.position.isSome = true) (n : Int) (rest : Request) :
    (r.yielding n).Lawful R B top (some rest) where
  taken _ held := by cases held
  remainder yields _ := ⟨moving yields, rfl, rfl, known⟩
  within b := (AxisRecord.within_iff _ top).mpr
    ⟨⟨(h.grounded b).covers, (h.grounded b).position,
        fun dwells => absurd (undwelt b) (Option.isSome_iff_ne_none.mp dwells)⟩,
      fun moves => ⟨.inl ⟨rfl, rfl⟩,
        ⟨fun dwells => (by cases (undwelt b).symm.trans dwells),
          fun dwells => (by cases (undwelt b).symm.trans dwells)⟩,
        h.target b moves, fun _ _ leg => (by rcases leg with leg | leg <;> cases leg),
        fun _ _ ramp => (by cases ramp), fun _ _ dwells => by cases (undwelt b).symm.trans dwells⟩⟩

end

end Sys2Proof.Machine
end

section
/-! What the operations of the lens do to the laws of the pending list and of the bound: each acts on one
axis, leaves the others as they were, and leaves its own with a lawful record. -/

namespace Sys2Proof.Machine

variable {R B : Prop} {s t u : State} {a : Axis}

/-! ## The laws at one axis of a state -/

/-- What waits on an axis belongs to it, and a HOME is HELD (R85, R87). -/
def OwnRequest (a : Axis) (q : Option Request) : Prop :=
  ∀ x, q = some x → x.axis = a ∧ (x.kind = .home → x.mode = .held)

/-- What the laws ask at one axis of a state beside its record. -/
structure AxisGround (R B : Prop) (s : State) (a : Axis) : Prop where
  own : R → OwnRequest a (s.msc.pending.get a)
  range : B → 0 ≤ axisMaximum s a ∧ 0 ≤ axisBacklash s a

/-- The laws at one axis of a state. -/
structure AxisLaws (R B : Prop) (s : State) (a : Axis) : Prop extends AxisGround R B s a where
  record : (s.axis a).Lawful R B (axisMaximum s a) (s.msc.pending.get a)

/-- One axis of a state with a record that is ready for what an operation makes of it. -/
structure AxisPoised (R B : Prop) (s : State) (a : Axis) : Prop extends AxisGround R B s a where
  record : (s.axis a).Poised R B (axisMaximum s a) (s.msc.pending.get a)

theorem AxisLaws.poised (h : AxisLaws R B s a)
    (active : B → (s.axis a).state = .moving → (s.axis a).phase ≠ some .yielded) :
    AxisPoised R B s a := ⟨h.toAxisGround, h.record.poised active⟩

/-- An axis that holds a slot is poised: it is not YIELDED. -/
theorem AxisLaws.poised_of_running (h : AxisLaws R B s a) (runs : running s a = true) :
    AxisPoised R B s a := by
  refine h.poised fun b moving waits => ?_
  rcases (h.record.underway b moving).place with ⟨-, free⟩ | ⟨-, active⟩
  · rw [running, free] at runs
    cases runs
  · rw [waits] at active
    simp at active

theorem AxisLaws.active_of_running (h : AxisLaws R B s a) (runs : running s a = true) (r : R) :
    (s.axis a).phase ≠ some .yielded := fun waits => by
  obtain ⟨-, free, -⟩ := h.record.remainder r waits
  rw [running, free] at runs
  cases runs

/-- The laws of the pending list, under `R`, and of the bound, under `B`. -/
structure LensLaws (R B : Prop) (s : State) : Prop where
  length : B → s.prf.axis.length = 21
  axes : ∀ a, AxisLaws R B s a

theorem lensLaws_of_laws (lens : LensLaw s) : LensLaws (RequestLaw s) (BoundLaw s) s := by
  refine ⟨fun ⟨length, _⟩ => length, fun a => ⟨⟨?_, fun ⟨_, bound⟩ => ?_⟩, ⟨?_, ?_, fun ⟨_, bound⟩ => ?_⟩⟩⟩
  · rintro ⟨placed, held, -, -⟩ q waits
    exact ⟨placed a q waits, held a q waits⟩
  · obtain ⟨top, backlash, -⟩ := bound a
    exact ⟨top, backlash⟩
  · rintro ⟨-, -, free, -⟩ runs
    exact free a runs
  · rintro ⟨-, -, -, remainder⟩ waits
    obtain ⟨moving, slot, pending⟩ := remainder a (by simp [yielded, waits])
    refine ⟨moving, slot, pending, Option.isSome_iff_ne_none.mpr fun unknown => ?_⟩
    obtain ⟨records, -⟩ := lens
    obtain ⟨-, -, lost⟩ := records a
    rw [lost.mpr unknown] at moving
    cases moving
  · obtain ⟨-, -, within⟩ := bound a
    exact within

theorem LensLaws.request (h : LensLaws R B s) (r : R) : RequestLaw s := by
  refine ⟨fun a q waits => ((h.axes a).own r q waits).1, fun a q waits => ((h.axes a).own r q waits).2,
    fun a runs => (h.axes a).record.taken r runs, fun a remains => ?_⟩
  obtain ⟨moving, slot, pending, -⟩ := (h.axes a).record.remainder r (by simpa [yielded] using remains)
  exact ⟨moving, slot, pending⟩

theorem LensLaws.bound (h : LensLaws R B s) (b : B) : BoundLaw s :=
  ⟨h.length b, fun a => ⟨((h.axes a).range b).1, ((h.axes a).range b).2, (h.axes a).record.within b⟩⟩

/-! ## What leaves the axes, and what acts on one -/

/-- Nothing that the laws read has changed; the group flags of what waits may have. -/
structure Aside (s t : State) : Prop where
  ldu : t.ldu = s.ldu
  prf : t.prf = s.prf
  pending : ∀ b, (t.msc.pending.get b).map Request.unflagged =
    (s.msc.pending.get b).map Request.unflagged

/-- Nothing that the laws read of another axis has changed. -/
structure ActsOn (a : Axis) (s t : State) : Prop where
  axes : OnlyAxes [a] s t
  prf : t.prf = s.prf
  pending : ∀ b, b ≠ a → (t.msc.pending.get b).map Request.unflagged =
    (s.msc.pending.get b).map Request.unflagged

theorem Aside.refl (s : State) : Aside s s := ⟨rfl, rfl, fun _ => rfl⟩

theorem Aside.trans (h : Aside s t) (k : Aside t u) : Aside s u :=
  ⟨k.ldu.trans h.ldu, k.prf.trans h.prf, fun b => (k.pending b).trans (h.pending b)⟩

theorem Aside.axis (h : Aside s t) (b : Axis) : t.axis b = s.axis b := by
  unfold State.axis
  rw [h.ldu]

theorem Aside.of_unchanged {l : List Part} (h : Unchanged l s t) (ldu : Part.ldu ∉ l) (msc : Part.msc ∉ l)
    (prf : Part.prf ∉ l) : Aside s t := by
  have same : t.msc = s.msc := h .msc msc
  exact ⟨h .ldu ldu, h .prf prf, fun b => by rw [same]⟩

theorem Aside.acts (h : Aside s t) (a : Axis) : ActsOn a s t :=
  ⟨.of_ldu h.ldu, h.prf, fun b _ => h.pending b⟩

theorem ActsOn.trans (h : ActsOn a s t) (k : ActsOn a t u) : ActsOn a s u :=
  ⟨h.axes.trans k.axes, k.prf.trans h.prf, fun b hb => (k.pending b hb).trans (h.pending b hb)⟩

theorem ActsOn.setAxis (a : Axis) (r : AxisRecord) (s : State) : ActsOn a s (s.setAxis a r) :=
  ⟨setAxis_only s a r, rfl, fun _ _ => rfl⟩

theorem ActsOn.setRequest (a : Axis) (q : Option Request) (s : State) :
    ActsOn a s (setRequest a q s) :=
  ⟨.of_ldu rfl, rfl, fun b hb => by rw [setRequest_pending_of_ne hb]⟩

theorem unflagged_eq_none {x y : Option Request} (h : x.map Request.unflagged = y.map Request.unflagged) :
    x = none ↔ y = none := by
  rw [← Option.map_eq_none_iff (f := Request.unflagged), h, Option.map_eq_none_iff]

theorem unflagged_isSome {x y : Option Request} (h : x.map Request.unflagged = y.map Request.unflagged) :
    x.isSome = y.isSome := by
  rw [← Option.isSome_map (f := Request.unflagged), h, Option.isSome_map]

theorem OwnRequest.of_unflagged {x y : Option Request}
    (h : x.map Request.unflagged = y.map Request.unflagged) (own : OwnRequest a y) : OwnRequest a x := by
  rintro q rfl
  cases y with
  | none => cases h
  | some r =>
    have same : q.unflagged = r.unflagged := Option.some.inj h
    obtain ⟨axis, held⟩ := own r rfl
    have axes : q.axis = r.axis := (congrArg Request.axis same :)
    have kinds : q.kind = r.kind := (congrArg Request.kind same :)
    have modes : q.mode = r.mode := (congrArg Request.mode same :)
    exact ⟨axes.trans axis, fun home => modes.trans (held (kinds.symm.trans home))⟩

/-- The laws at an axis depend on its record, the profile and what waits on it without its flag. -/
theorem AxisLaws.transfer (h : AxisLaws R B s a) (axis : t.axis a = s.axis a) (prf : t.prf = s.prf)
    (pending : (t.msc.pending.get a).map Request.unflagged =
      (s.msc.pending.get a).map Request.unflagged) : AxisLaws R B t a := by
  have maximum : axisMaximum t a = axisMaximum s a := axisMaximum_of_prf prf a
  have backlash : axisBacklash t a = axisBacklash s a := by unfold axisBacklash; rw [prf]
  refine ⟨⟨fun r => (h.own r).of_unflagged pending, fun b => by rw [maximum, backlash]; exact h.range b⟩, ?_⟩
  rw [axis, maximum]
  refine ⟨fun r runs => (unflagged_eq_none pending).mpr (h.record.taken r runs), fun r waits => ?_,
    h.record.within⟩
  rw [unflagged_isSome pending]
  exact h.record.remainder r waits

theorem AxisLaws.aside (h : AxisLaws R B s a) (k : Aside s t) : AxisLaws R B t a :=
  h.transfer (k.axis a) k.prf (k.pending a)

theorem LensLaws.aside (h : LensLaws R B s) (k : Aside s t) : LensLaws R B t :=
  ⟨fun b => by rw [k.prf]; exact h.length b, fun a => (h.axes a).aside k⟩

/-- An operation acts on one axis alone and leaves it lawful. -/
structure Lands (R B : Prop) (a : Axis) (s t : State) : Prop where
  acts : ActsOn a s t
  laws : AxisLaws R B t a

theorem Lands.aside (h : Lands R B a s t) (k : Aside t u) : Lands R B a s u :=
  ⟨h.acts.trans (k.acts a), h.laws.aside k⟩

theorem Lands.after (h : ActsOn a s t) (k : Lands R B a t u) : Lands R B a s u :=
  ⟨h.trans k.acts, k.laws⟩

theorem LensLaws.lands (h : LensLaws R B s) (k : Lands R B a s t) : LensLaws R B t := by
  refine ⟨fun b => by rw [k.acts.prf]; exact h.length b, fun b => ?_⟩
  by_cases same : b = a
  · subst same
    exact k.laws
  · exact (h.axes b).transfer (k.acts.axes b (by simpa using same)) k.acts.prf (k.acts.pending b same)

theorem AxisLaws.refl_lands (h : AxisLaws R B s a) : Lands R B a s s := ⟨(Aside.refl s).acts a, h⟩

theorem AxisGround.of_acts (h : AxisGround R B s a) (k : ActsOn a s t)
    (own : R → OwnRequest a (t.msc.pending.get a)) : AxisGround R B t a := by
  refine ⟨own, fun b => ?_⟩
  rw [axisMaximum_of_prf k.prf, axisBacklash, k.prf]
  exact h.range b

/-- A lawful record put in the place of the axis's own. -/
theorem AxisGround.setAxis_lands (h : AxisGround R B s a) {r : AxisRecord}
    (lawful : r.Lawful R B (axisMaximum s a) (s.msc.pending.get a)) :
    Lands R B a s (s.setAxis a r) :=
  ⟨.setAxis a r s, ⟨h.own, h.range⟩, by rw [State.setAxis_axis_self]; exact lawful⟩

/-! ## Ends of requests -/

theorem setProgress_aside (a : Axis) (p : Progress) (s : State) : Aside s (setProgress a p s) := by
  obtain ⟨g, progress⟩ := setProgress_eq a p s
  rw [progress]
  exact ⟨rfl, rfl, fun _ => rfl⟩

theorem endGroup_aside (o : GroupOutcome) (s : State) : Aside s (endGroup o s) := by
  refine ⟨endGroup_frame o s .ldu (by simp), endGroup_frame o s .prf (by simp), fun b => ?_⟩
  unfold endGroup
  split
  · rfl
  · show ((clearMembers s.msc).pending.get b).map Request.unflagged = _
    rw [clearMembers, PerAxis.get_map, Option.map_map]
    rfl

theorem endGroupFor_aside (o : GroupOutcome) (axes : PerAxis Bool) (s : State) :
    Aside s (endGroupFor o axes s) := by
  unfold endGroupFor
  split
  · exact endGroup_aside o s
  · exact .refl s

theorem settleGroup_aside (s : State) : Aside s (settleGroup s) := by
  unfold settleGroup
  split
  · exact .refl s
  · split
    · exact endGroup_aside _ s
    · exact .refl s

theorem tellGroup_aside (a : Axis) (e : MoveEnd) (s : State) : Aside s (tellGroup a e s) := by
  have progress := setProgress_aside a (progressOf e.outcome) s
  unfold tellGroup memberEnd
  dsimp only
  split
  · split
    · exact progress.trans (settleGroup_aside _)
    · split
      · exact progress.trans (endGroup_aside _ _)
      · exact progress
  · exact .refl s

theorem recordEnd_aside (a : Axis) (e : MoveEnd) (s : State) : Aside s (recordEnd a e s) := by
  have recorded : Aside s (recordResult a e s) := ⟨rfl, rfl, fun _ => rfl⟩
  have raised : Aside (recordResult a e s) (raiseOnIssuer .move e.book.port (recordResult a e s)) :=
    .of_unchanged (raiseOnIssuer_frame .move e.book.port _) (by simp) (by simp) (by simp)
  have told : Aside s (endTold a e s) := (recorded.trans raised).trans (tellGroup_aside a e _)
  exact (told.trans (.of_unchanged (tellFocus_frame a e _) (by simp) (by simp) (by simp))).trans
    (.of_unchanged (geoMoveEnd_frame a _ _ _) (by simp) (by simp) (by simp))

theorem setInForce_aside (a : Axis) (b : Option Book) (s : State) : Aside s (setInForce a b s) :=
  ⟨rfl, rfl, fun _ => rfl⟩

theorem markMotion_aside (s : State) : Aside s (markMotion s) := ⟨rfl, rfl, fun _ => rfl⟩

theorem geoStepReport_aside (a : Axis) (p : Int) (s : State) : Aside s (geoStepReport a p s) := by
  unfold geoStepReport
  split
  · exact .of_unchanged (requestBuild_frame s) (by simp) (by simp) (by simp)
  · exact .refl s

theorem finishForce_aside (a : Axis) (r : AxisRecord) (o : MoveOutcome) (f : Option Int) (s : State) :
    Aside (s.setAxis a r) (finishForce a r o f s) :=
  (setInForce_aside a none _).trans (recordEnd_aside _ _ _)

theorem replaceForce_aside (a : Axis) (r : AxisRecord) (b : Book) (f : Option Int) (s : State) :
    Aside (s.setAxis a r) (replaceForce a r b f s) :=
  (recordEnd_aside _ _ _).trans (setInForce_aside _ _ _)

theorem AxisGround.finishForce_lands (h : AxisGround R B s a) {r : AxisRecord}
    (lawful : r.Lawful R B (axisMaximum s a) (s.msc.pending.get a)) (o : MoveOutcome) (f : Option Int) :
    Lands R B a s (finishForce a r o f s) :=
  (h.setAxis_lands lawful).aside (finishForce_aside a r o f s)

theorem AxisGround.replaceForce_lands (h : AxisGround R B s a) {r : AxisRecord}
    (lawful : r.Lawful R B (axisMaximum s a) (s.msc.pending.get a)) (b : Book) (f : Option Int) :
    Lands R B a s (replaceForce a r b f s) :=
  (h.setAxis_lands lawful).aside (replaceForce_aside a r b f s)

theorem AxisGround.finishIdle_lands (h : AxisGround R B s a) {p : Int} (low : B → 0 ≤ p)
    (o : MoveOutcome) : Lands R B a s (finishIdle a o p s) :=
  h.finishForce_lands (.idleAt _ low) o _

theorem AxisGround.finishLost_lands (h : AxisGround R B s a)
    (covers : B → axisMaximum s a ≤ (s.axis a).maxInForce) (o : MoveOutcome) :
    Lands R B a s (finishLost a o s) :=
  h.finishForce_lands (.becomeLost covers) o _

/-- The grounded clauses at a poised axis. -/
theorem AxisPoised.low (h : AxisPoised R B s a) {p : Int} (known : (s.axis a).position = some p) (b : B) :
    0 ≤ p := ((h.record.grounded b).position p known).1

theorem AxisPoised.finishDone_lands (h : AxisPoised R B s a) {p : Int}
    (known : (s.axis a).position = some p) : Lands R B a s (finishDone a s) := by
  unfold finishDone
  rw [known]
  exact h.finishIdle_lands (h.low known) _

/-! ## Plans, homings and ramps -/

theorem planOf_eq {p t : Int} (known : (s.axis a).position = some p) (target : (s.axis a).target = some t)
    (d : Direction) : planOf s a d = planFrom p t (axisBacklash s a) d := by
  unfold planOf
  rw [known, target]

/-- A plan is made between a known position and a target. -/
theorem planFrom_of_planOf {x : Plan} {d : Direction} (plan : planOf s a d = some x) :
    ∃ p t, (s.axis a).position = some p ∧ (s.axis a).target = some t ∧
      planFrom p t (axisBacklash s a) d = some x := by
  unfold planOf at plan
  split at plan
  · exact ⟨_, _, ‹_›, ‹_›, plan⟩
  · cases plan

theorem AxisPoised.beginPlan_lands (h : AxisPoised R B s a) {x : Plan} {d : Direction}
    (plan : planOf s a d = some x) : Lands R B a s (s.setAxis a ((s.axis a).beginPlan x)) := by
  obtain ⟨p, t, known, target, plan⟩ := planFrom_of_planOf plan
  exact h.setAxis_lands (h.record.beginPlan known target plan fun b => (h.range b).2)

theorem AxisPoised.replanAfterRamp_lands (h : AxisPoised R B s a) {p : Int}
    (known : (s.axis a).position = some p) : Lands R B a s (replanAfterRamp a s) := by
  unfold replanAfterRamp
  dsimp only
  split
  · exact h.finishDone_lands known
  · rename_i x plan
    split
    · exact h.beginPlan_lands plan
    · exact h.setAxis_lands (h.record.beginDwell (.inl rfl) _)

theorem AxisPoised.homeAfterRamp_lands (h : AxisPoised R B s a) : Lands R B a s (homeAfterRamp a s) := by
  have covers : B → 0 ≤ axisMaximum s a ∧ axisMaximum s a ≤ (s.axis a).maxInForce := fun b =>
    ⟨(h.range b).1, (h.record.grounded b).covers⟩
  unfold homeAfterRamp
  dsimp only
  split
  · exact h.setAxis_lands (.of_homing h.record.taken rfl rfl (fun waits => by cases waits) covers fun _ => rfl)
  · exact h.setAxis_lands (.firstStage h.record.taken covers _)

theorem AxisPoised.becomeYielded_lands (h : AxisPoised R B s a) (undwelt : B → (s.axis a).dwell = none)
    (moving : R → (s.axis a).state = .moving) (known : (s.axis a).position.isSome = true) :
    Lands R B a s (becomeYielded a s) := by
  have lands : Lands R B a s (setRequest a (some (remainderOf a (s.axis a) (bookOf s a))) (s.setAxis a
      ((s.axis a).yielding (planLength (planOf s a (s.axis a).lastStep))))) := by
    refine ⟨(ActsOn.setAxis a _ s).trans (.setRequest a _ _), ⟨fun _ q waits => ?_, h.range⟩, ?_⟩
    · cases (PerAxis.get_set_self _ _ _).symm.trans waits
      exact ⟨rfl, fun home => by cases home⟩
    · have pending : (setRequest a (some (remainderOf a (s.axis a) (bookOf s a))) (s.setAxis a
          ((s.axis a).yielding (planLength (planOf s a (s.axis a).lastStep))))).msc.pending.get a =
          some (remainderOf a (s.axis a) (bookOf s a)) := PerAxis.get_set_self _ _ _
      have axis : (setRequest a (some (remainderOf a (s.axis a) (bookOf s a))) (s.setAxis a
          ((s.axis a).yielding (planLength (planOf s a (s.axis a).lastStep))))).axis a =
          (s.axis a).yielding (planLength (planOf s a (s.axis a).lastStep)) :=
        State.setAxis_axis_self s a _
      rw [pending, axis]
      exact h.record.yielding undwelt moving known _ _
  unfold becomeYielded
  dsimp only
  split
  · exact lands.aside (setProgress_aside _ _ _)
  · exact lands

/-- The end of a stop ramp at a known position (R70). -/
theorem AxisPoised.rampEnd_lands (h : AxisPoised R B s a) (ramp : (s.axis a).phase = some .stopRamp)
    {p : Int} (known : (s.axis a).position = some p) {e : EndAction} (ends : (s.axis a).endAction = some e)
    (moving : R → e = .yield → (s.axis a).state = .moving) : Lands R B a s (rampEnd a s) := by
  have undwelt : B → (s.axis a).dwell = none := fun b =>
    (h.record.grounded b).no_dwell (by rw [ramp]; simp)
  unfold rampEnd
  rw [ends, known]
  cases e with
  | replan => exact h.replanAfterRamp_lands known
  | cancel => exact h.finishIdle_lands (h.low known) _
  | yield => exact h.becomeYielded_lands undwelt (fun r => moving r rfl) (by rw [known]; rfl)
  | home => exact h.homeAfterRamp_lands

end Sys2Proof.Machine
end

section
/-! The orders to a running axis, the steps, the dwells and the home switches, each leaving its axis
lawful. -/

namespace Sys2Proof.Machine

variable {R B : Prop} {s t u : State} {a : Axis}

/-! ## Records that an order changes -/

section

variable {top : Int} {q : Option Request} {r : AxisRecord}

theorem AxisRecord.Poised.takingOver (h : r.Poised R B top q) (x : Request) {goal start : Option Int}
    (inRange : B → ∀ t, goal = some t → 0 ≤ t ∧ t ≤ top) :
    (r.takingOver x goal start).Poised R B top q :=
  ⟨h.taken, fun b => ⟨(h.grounded b).covers, (h.grounded b).position, (h.grounded b).dwell⟩,
    fun b _ => inRange b, h.slot⟩

theorem AxisRecord.Poised.ramping_poised (h : r.Poised R B top q) (undwelt : B → r.dwell = none)
    (e : EndAction) (n : Int) : (r.ramping e n).Poised R B top q :=
  ⟨h.taken, fun b => ⟨(h.grounded b).covers, (h.grounded b).position,
    fun dwells => absurd (undwelt b) (Option.isSome_iff_ne_none.mp dwells)⟩, h.target, h.slot⟩

/-- A ramp in progress with another end action (R72, R73). -/
theorem AxisRecord.ramping_remaining (ramp : r.phase = some .stopRamp) (e : EndAction) :
    { r with endAction := some e } = r.ramping e r.remaining := by
  unfold AxisRecord.ramping
  rw [← ramp]

theorem AxisRecord.Poised.reordered (h : r.Poised R B top q) (ramp : r.phase = some .stopRamp)
    (underway : B → r.state = .moving → r.Underway top) (e : EndAction) (x : Request)
    {goal start : Option Int} (inRange : B → ∀ t, goal = some t → 0 ≤ t ∧ t ≤ top) :
    AxisRecord.Lawful R B top q { r.takingOver x goal start with endAction := some e } := by
  rw [AxisRecord.ramping_remaining (r := r.takingOver x goal start) ramp]
  exact (h.takingOver x inRange).ramping (fun b => (h.grounded b).no_dwell (by rw [ramp]; simp))
    fun b moving p known => ((underway b moving).ramp p known ramp).2

/-- A leg that goes on to a new target that lies ahead (R71). -/
theorem AxisRecord.Poised.extendLeg (h : r.Poised R B top q) {p t b : Int}
    (known : r.position = some p) (target : r.target = some t) (undwelt : B → r.dwell = none)
    (ahead : aheadOf r.direction p t = true) (backlash : B → 0 ≤ b) (inRange : B → 0 ≤ t ∧ t ≤ top) :
    (r.extendLeg p t b).Lawful R B top q := by
  obtain ⟨drvEn, slot, state, position⟩ := extendLeg_fields r p t b
  have phase : (r.extendLeg p t b).phase = some .travel := by
    unfold AxisRecord.extendLeg
    split <;> rfl
  have rest : (r.extendLeg p t b).maxInForce = r.maxInForce ∧ (r.extendLeg p t b).dwell = r.dwell ∧
      (r.extendLeg p t b).target = r.target ∧ (r.extendLeg p t b).direction = r.direction := by
    unfold AxisRecord.extendLeg
    split <;> exact ⟨rfl, rfl, rfl, rfl⟩
  obtain ⟨maxInForce, dwell, goal, direction⟩ := rest
  refine .of_active (fun r' => by rw [slot]; exact h.taken r') (fun _ => by rw [phase]; simp)
    (fun hb => ⟨?_, ?_, ?_⟩) (fun hb moving => ⟨.inr ⟨?_, .inl phase⟩, ?_, ?_, ?_, ?_, ?_⟩)
  · rw [maxInForce]; exact (h.grounded hb).covers
  · rw [position, maxInForce]; exact (h.grounded hb).position
  · rw [dwell, undwelt hb]; exact fun dwells => by cases dwells
  · rw [slot]; exact h.slot hb (state.symm.trans moving)
  · rw [dwell, undwelt hb]; simp
  · rw [goal]; exact h.target hb (state.symm.trans moving)
  · intro p' known' _
    cases known.symm.trans (position.symm.trans known')
    have covers := (h.grounded hb).covers
    have range := inRange hb
    have loop := backlash hb
    rw [maxInForce, goal, direction]
    unfold AxisRecord.extendLeg
    cases way : r.direction with
    | positive =>
      have further : p < t := by simpa [aheadOf, way] using ahead
      exact ⟨⟨further, range.2.trans covers⟩, fun negative => by cases negative⟩
    | negative =>
      have further : t < p := by simpa [aheadOf, way] using ahead
      have approach : 0 ≤ approachPoint t b ∧ approachPoint t b ≤ t := by
        unfold approachPoint
        omega
      exact ⟨⟨approach.1, approach.2.trans_lt further⟩, fun _ => ⟨t, target, approach.2⟩⟩
  · intro _ _ ramp
    cases phase.symm.trans ramp
  · rw [dwell, undwelt hb]
    exact fun _ _ dwells => by cases dwells

end

/-! ## Stop ramps (R70) -/

theorem AxisPoised.aside (h : AxisPoised R B s a) (k : Aside s t) : AxisPoised R B t a := by
  refine ⟨h.toAxisGround.of_acts (k.acts a) fun r => (h.own r).of_unflagged (k.pending a), ?_⟩
  rw [k.axis, axisMaximum_of_prf k.prf]
  exact ⟨fun r runs => (unflagged_eq_none (k.pending a)).mpr (h.record.taken r runs),
    h.record.grounded, h.record.target, h.record.slot⟩

theorem AxisGround.setAxis_poised (h : AxisGround R B s a) {r : AxisRecord}
    (poised : r.Poised R B (axisMaximum s a) (s.msc.pending.get a)) : AxisPoised R B (s.setAxis a r) a :=
  ⟨⟨h.own, h.range⟩, by rw [State.setAxis_axis_self]; exact poised⟩

/-- A stop ramp that has been entered: one of no steps ends at once, and one of some steps leads on. -/
theorem AxisPoised.endEmptyRamp_lands (h : AxisPoised R B u a) {r : AxisRecord} {e : EndAction} {n : Int}
    (axis : u.axis a = r.ramping e n) (moving : R → e = .yield → r.state = .moving)
    (ahead : B → r.state = .moving → n ≠ 0 → ∀ p, r.position = some p →
      1 ≤ n ∧ legAhead r.direction p (p + stepBy r.direction * n) r.maxInForce) :
    Lands R B a u (endEmptyRamp a u) := by
  have ramp : (u.axis a).phase = some .stopRamp := by rw [axis]; rfl
  have leads : (n ≠ 0 ∨ r.position = none) → AxisLaws R B u a := fun leads => by
    have lawful := h.record.ramping (e := e) (n := n)
      (fun b => (h.record.grounded b).no_dwell (by rw [ramp]; simp)) (by
        rw [axis]
        intro b moves p known
        rcases leads with steps | unknown
        · exact ahead b moves steps p known
        · cases unknown.symm.trans known)
    refine ⟨h.toAxisGround, ?_⟩
    rw [axis] at lawful ⊢
    exact lawful
  unfold endEmptyRamp
  split
  · cases known : r.position with
    | some p =>
      exact h.rampEnd_lands (e := e) (p := p) ramp (by rw [axis]; exact known) (by rw [axis]; rfl)
        (by rw [axis]; exact moving)
    | none =>
      have stays : rampEnd a u = u := by
        have unknown : (u.axis a).position = none := by rw [axis]; exact known
        unfold rampEnd
        rw [unknown]
        split <;> first | rfl | (rename_i found; cases found)
      rw [stays]
      exact (leads (.inr known)).refl_lands
  · rename_i runs
    exact (leads (.inl fun none => runs ⟨ramp, by rw [axis]; exact none⟩)).refl_lands

/-- Where a leg in progress stands: at its end, or with its end ahead. -/
def AxisRecord.OnLeg (r : AxisRecord) (p : Int) : Prop :=
  p = r.legEnd ∨ legAhead r.direction p r.legEnd r.maxInForce

/-- The ramp that stops a leg has no steps at its end, and ends within it elsewhere. -/
theorem AxisRecord.OnLeg.ramp {r : AxisRecord} {p : Int} (h : r.OnLeg p)
    (steps : rampLength p r.legEnd ≠ 0) : 1 ≤ rampLength p r.legEnd ∧ legAhead r.direction p
      (p + stepBy r.direction * rampLength p r.legEnd) r.maxInForce := by
  rcases h with rfl | ahead
  · exact absurd (by simp [rampLength]) steps
  · exact rampLength_ahead ahead

theorem startRamp_eq {p : Int} (known : (s.axis a).position = some p) (e : EndAction) :
    startRamp a e s = endEmptyRamp a
      (s.setAxis a ((s.axis a).ramping e (rampLength p (s.axis a).legEnd))) := by
  have here : p = (s.axis a).position.getD 0 := by rw [known]; rfl
  rw [here]
  rfl

theorem AxisPoised.startRamp_lands (h : AxisPoised R B s a) {p : Int} {e : EndAction}
    (known : (s.axis a).position = some p) (undwelt : B → (s.axis a).dwell = none)
    (moving : R → e = .yield → (s.axis a).state = .moving)
    (leg : B → (s.axis a).state = .moving → (s.axis a).OnLeg p) : Lands R B a s (startRamp a e s) := by
  rw [startRamp_eq known]
  have poised := h.setAxis_poised (h.record.ramping_poised undwelt e (rampLength p (s.axis a).legEnd))
  refine Lands.after (.setAxis a _ s) (poised.endEmptyRamp_lands (State.setAxis_axis_self _ _ _) moving
    fun b moves steps p' known' => ?_)
  cases known.symm.trans known'
  exact (leg b moves).ramp steps

/-- A request in force that is replaced with a stop ramp (R70, R71, R72). -/
theorem AxisPoised.replaceRamp_lands (h : AxisPoised R B s a) {r : AxisRecord} {e : EndAction}
    (poised : r.Poised R B (axisMaximum s a) (s.msc.pending.get a))
    (undwelt : B → r.dwell = none) (noYield : e ≠ .yield)
    (leg : B → r.state = .moving → ∀ p, r.position = some p → r.OnLeg p) (b : Book) (f : Option Int) :
    Lands R B a s (endEmptyRamp a
      (replaceForce a (r.ramping e (rampLength (r.position.getD 0) r.legEnd)) b f s)) := by
  have aside := replaceForce_aside a (r.ramping e (rampLength (r.position.getD 0) r.legEnd)) b f s
  have poised := (h.setAxis_poised
    (poised.ramping_poised undwelt e (rampLength (r.position.getD 0) r.legEnd))).aside aside
  refine Lands.after ((ActsOn.setAxis a _ s).trans (aside.acts a))
    (poised.endEmptyRamp_lands (r := r)
      (n := rampLength (r.position.getD 0) r.legEnd) ?_ (fun _ yields => absurd yields noYield)
      fun b moves steps p known => ?_)
  · exact (aside.axis a).trans (State.setAxis_axis_self _ _ _)
  · rw [known] at steps ⊢
    exact (leg b moves p known).ramp steps

/-! ## Orders to a running axis (R71 to R75) -/

/-- An axis that runs outside a ramp and a dwell stands on its leg. -/
theorem AxisLaws.onLeg (h : AxisLaws R B s a) (runs : running s a = true) (noRamp : (s.axis a).phase ≠ some .stopRamp)
    (noDwell : (s.axis a).phase ≠ some .reverse) (b : B) (moving : (s.axis a).state = .moving)
    (p : Int) (known : (s.axis a).position = some p) : (s.axis a).OnLeg p := by
  have underway := h.record.underway b moving
  rcases underway.place with ⟨-, free⟩ | ⟨-, leg | leg | ramp | dwell⟩
  · rw [running, free] at runs
    cases runs
  · exact .inr (underway.leg p known (.inl leg)).1
  · exact .inr (underway.leg p known (.inr leg)).1
  · exact absurd ramp noRamp
  · exact absurd dwell noDwell

theorem resolve_range (top p : Int) (k : ReqKind) (h : 0 ≤ top) :
    0 ≤ resolve top p k ∧ resolve top p k ≤ top := by
  cases k with
  | home => exact ⟨le_rfl, h⟩
  | absolute v => exact clamp_bounds h _
  | relative v => exact clamp_bounds h _

theorem AxisLaws.retarget_lands (h : AxisLaws R B s a) (runs : running s a = true) (q : Request) :
    Lands R B a s (retarget a q s) := by
  have poised := h.poised_of_running runs
  unfold retarget
  split
  · exact h.refl_lands
  rename_i p known
  have range : B → ∀ t, some (resolve (axisMaximum s a) p q.kind) = some t → 0 ≤ t ∧ t ≤ axisMaximum s a := by
    rintro b t ⟨⟩
    exact resolve_range _ p q.kind (h.range b).1
  have taken := poised.record.takingOver q (start := some p) range
  dsimp only
  split
  · rename_i ramp
    exact poised.replaceForce_lands
      (poised.record.reordered ramp (fun b moving => h.record.underway b moving) .replan q range) _ _
  · exact poised.replaceForce_lands (taken.beginDwell (.inr (.inl rfl)) _) _ _
  · rename_i noRamp noDwell
    have undwelt : B → (s.axis a).dwell = none := fun b => (h.record.grounded b).no_dwell noDwell
    split
    · rename_i ahead
      exact poised.replaceForce_lands (taken.extendLeg known rfl undwelt ahead (fun b => (h.range b).2)
        fun b => range b _ rfl) _ _
    · have lands := poised.replaceRamp_lands (e := .replan) taken undwelt (by simp)
        (h.onLeg runs noRamp noDwell) q.book (some p)
      have here : ((s.axis a).takingOver q (some (resolve (axisMaximum s a) p q.kind)) (some p)).position =
        some p := known
      rw [here] at lands
      exact lands

theorem AxisLaws.passHome_lands (h : AxisLaws R B s a) (runs : running s a = true) (q : Request) :
    Lands R B a s (passHome a q s) := by
  have poised := h.poised_of_running runs
  have noGoal : B → ∀ t, (none : Option Int) = some t → 0 ≤ t ∧ t ≤ axisMaximum s a := fun _ t goal => by
    cases goal
  have taken := poised.record.takingOver q (start := none) noGoal
  unfold passHome
  dsimp only
  split
  · rename_i homing
    exact poised.replaceForce_lands (.of_active taken.taken (fun r => h.active_of_running runs r)
      taken.grounded fun _ moving => by cases homing.symm.trans moving) _ _
  · exact poised.replaceForce_lands (poised.record.reordered ‹_›
      (fun b moving => h.record.underway b moving) .home q noGoal) _ _
  · exact poised.replaceForce_lands
      (taken.dwelling (x := { (s.axis a).takingOver q none none with dwell := some .homing })
        (.inr (.inr rfl)) ‹_› rfl rfl rfl rfl rfl rfl) _ _
  · rename_i noRamp noDwell
    have undwelt : B → (s.axis a).dwell = none := fun b => (h.record.grounded b).no_dwell noDwell
    exact poised.replaceRamp_lands taken undwelt (by simp) (h.onLeg runs noRamp noDwell) _ _

end Sys2Proof.Machine
end

section
/-! The stops, the steps, the dwells, the home switches and the grants, each leaving its axis lawful. -/

namespace Sys2Proof.Machine

variable {R B : Prop} {s t u : State} {a : Axis}

/-! ## Stops and what waits (R73, R74, R88, R89) -/

theorem AxisLaws.stopRunning_lands (h : AxisLaws R B s a) (runs : running s a = true) :
    Lands R B a s (stopRunning a s) := by
  have poised := h.poised_of_running runs
  unfold stopRunning
  split
  · exact poised.finishLost_lands (fun b => (h.record.grounded b).covers) _
  · rename_i ramp
    refine h.setAxis_lands ?_
    rw [AxisRecord.ramping_remaining ramp]
    exact poised.record.ramping (fun b => (h.record.grounded b).no_dwell (by rw [ramp]; simp))
      fun b moving p known => ((h.record.underway b moving).ramp p known ramp).2
  · exact poised.finishIdle_lands (poised.low ‹_›) _
  · rename_i known noRamp noDwell
    exact poised.startRamp_lands known (fun b => (h.record.grounded b).no_dwell noDwell) (by simp)
      fun b moving => h.onLeg runs noRamp noDwell b moving _ known
  · exact h.refl_lands

theorem ownRequest_none (a : Axis) : OwnRequest a none := fun _ waits => by cases waits

/-- With nothing waiting an axis that is not YIELDED stays lawful. -/
theorem AxisLaws.setRequest_none_lands (h : AxisLaws R B s a)
    (active : R → (s.axis a).phase ≠ some .yielded) : Lands R B a s (setRequest a none s) := by
  refine ⟨.setRequest a none s, ⟨?_, h.range⟩, ?_⟩
  · rw [setRequest_pending_self]
    exact fun _ => ownRequest_none a
  · rw [setRequest_pending_self]
    exact ⟨fun _ _ => rfl, fun r waits => absurd waits (active r), h.record.within⟩

theorem AxisLaws.dropRequest_lands (h : AxisLaws R B s a)
    (active : R → (s.axis a).phase ≠ some .yielded) (o : MoveOutcome) :
    Lands R B a s (dropRequest a o s) := by
  unfold dropRequest
  split
  · exact h.refl_lands
  · exact (h.setRequest_none_lands active).aside (recordEnd_aside _ _ _)

theorem AxisLaws.endYielded_lands (h : AxisLaws R B s a) (waits : (s.axis a).phase = some .yielded)
    (o : MoveOutcome) : Lands R B a s (endYielded a o s) := by
  unfold endYielded
  split
  · rename_i unknown
    refine h.setRequest_none_lands fun r => ?_
    obtain ⟨-, -, -, known⟩ := h.record.remainder r waits
    rw [unknown] at known
    cases known
  · rename_i p known
    have ground : AxisGround R B (setRequest a none s) a := by
      refine ⟨?_, h.range⟩
      rw [setRequest_pending_self]
      exact fun _ => ownRequest_none a
    exact Lands.after (.setRequest a none s)
      (ground.finishIdle_lands (fun b => ((h.record.grounded b).position p known).1) o)

theorem yielded_iff (s : State) (a : Axis) : yielded s a = true ↔ (s.axis a).phase = some .yielded := by
  simp [yielded]

theorem AxisLaws.supersedePending_lands (h : AxisLaws R B s a) :
    Lands R B a s (supersedePending a s) := by
  unfold supersedePending
  split
  · exact h.endYielded_lands ((yielded_iff s a).mp ‹_›) _
  · exact h.dropRequest_lands (fun _ => mt (yielded_iff s a).mpr ‹_›) _

theorem AxisLaws.stopAxis_lands (h : AxisLaws R B s a) : Lands R B a s (stopAxis a s) := by
  unfold stopAxis
  split
  · exact h.stopRunning_lands ‹_›
  · split
    · exact h.endYielded_lands ((yielded_iff s a).mp ‹_›) _
    · exact h.dropRequest_lands (fun _ => mt (yielded_iff s a).mpr ‹_›) _

/-! ## Steps (R65, R68 to R70) -/

section

variable {top : Int} {q : Option Request} {r : AxisRecord} {p : Int}

/-- A stepping record stands on its leg, or within its ramp. -/
theorem AxisRecord.Lawful.leg (h : r.Lawful R B top q) (known : r.position = some p)
    (leg : r.phase = some .travel ∨ r.phase = some .overshootReturn) (b : B) (moving : r.state = .moving) :
    legAhead r.direction p r.legEnd r.maxInForce := ((h.underway b moving).leg p known leg).1

theorem stepping_iff (r : AxisRecord) : stepping r = true ↔
    (r.phase = some .travel ∨ r.phase = some .overshootReturn) ∨ r.phase = some .stopRamp := by
  simp [stepping]

/-- A step stays in the range that its leg or its ramp leads through. -/
theorem legAhead.step {d : Direction} {e m : Int} (h : legAhead d p e m) (low : 0 ≤ p) (high : p ≤ m) :
    0 ≤ p + stepBy d ∧ p + stepBy d ≤ m ∧ (p + stepBy d = e ∨ legAhead d (p + stepBy d) e m) := by
  cases d <;> simp only [legAhead, stepBy] at h ⊢ <;> omega

theorem AxisRecord.Lawful.stepped_range (h : r.Lawful R B top q) (known : r.position = some p)
    (steps : stepping r = true) (b : B) (moving : r.state = .moving) :
    0 ≤ p + stepBy r.direction ∧ p + stepBy r.direction ≤ r.maxInForce := by
  have underway := h.underway b moving
  obtain ⟨low, high⟩ := (h.grounded b).position p known
  rcases (stepping_iff r).mp steps with leg | ramp
  · have step := (h.leg known leg b moving).step low high
    exact ⟨step.1, step.2.1⟩
  · have step := (underway.ramp p known ramp).2.2.step low high
    exact ⟨step.1, step.2.1⟩

theorem AxisRecord.Lawful.stepped_poised (h : r.Lawful R B top q) (known : r.position = some p)
    (steps : stepping r = true) (moving : r.state = .moving) : (r.stepped p).Poised R B top q := by
  have poised := h.poised fun b _ waits => by
    rw [stepping_iff, waits] at steps
    simp at steps
  refine ⟨h.taken, fun b => ⟨(h.grounded b).covers, fun p' here => ?_, (h.grounded b).dwell⟩,
    poised.target, poised.slot⟩
  cases here
  exact h.stepped_range known steps b moving

theorem AxisRecord.Lawful.stepped_onLeg (h : r.Lawful R B top q) (known : r.position = some p)
    (leg : r.phase = some .travel ∨ r.phase = some .overshootReturn) (b : B) (moving : r.state = .moving) :
    (r.stepped p).OnLeg (p + stepBy r.direction) := by
  obtain ⟨low, high⟩ := (h.grounded b).position p known
  exact ((h.leg known leg b moving).step low high).2.2

/-- A step that does not end its leg or its ramp leaves the record lawful. -/
theorem AxisRecord.Lawful.stepped (h : r.Lawful R B top q) (known : r.position = some p)
    (steps : stepping r = true) (moving : r.state = .moving)
    (goesOn : (r.phase = some .stopRamp ∧ 1 < r.remaining) ∨
      (r.phase ≠ some .stopRamp ∧ p + stepBy r.direction ≠ r.legEnd)) :
    (r.stepped p).Lawful R B top q := by
  have poised := h.stepped_poised known steps moving
  have undwelt : B → r.dwell = none := fun b => (h.grounded b).no_dwell fun dwells => by
    rw [stepping_iff, dwells] at steps
    simp at steps
  refine .of_active h.taken (fun _ waits => ?_) poised.grounded fun b _ => ?_
  · have phase : r.phase = some .yielded := waits
    rw [stepping_iff, phase] at steps
    simp at steps
  have underway := h.underway b moving
  refine ⟨underway.place, underway.dwell, underway.target, fun p' here leg => ?_, fun p' here ramp => ?_,
    fun _ _ dwells => by cases (undwelt b).symm.trans dwells⟩
  · cases here
    have leg : r.phase = some .travel ∨ r.phase = some .overshootReturn := leg
    refine ⟨(h.stepped_onLeg known leg b moving).resolve_left ?_, (underway.leg p known leg).2⟩
    rcases goesOn with ⟨ramp, -⟩ | ⟨-, on⟩
    · rw [ramp] at leg
      simp at leg
    · exact on
  · cases here
    have ramp : r.phase = some .stopRamp := ramp
    obtain ⟨ends, -, ahead⟩ := underway.ramp p known ramp
    rcases goesOn with ⟨-, more⟩ | ⟨noRamp, -⟩
    · have remaining : (r.stepped p).remaining = r.remaining - 1 := rfl
      have way : (r.stepped p).direction = r.direction := rfl
      have max : (r.stepped p).maxInForce = r.maxInForce := rfl
      refine ⟨ends, by rw [remaining]; omega, ?_⟩
      rw [remaining, way, max]
      cases d : r.direction <;> simp only [d, legAhead, stepBy] at ahead ⊢ <;> omega
    · exact absurd ramp noRamp

end

/-- What follows a step on a state with the stepped record. -/
theorem AxisPoised.afterStep_lands {r : AxisRecord} {p : Int} (h : AxisPoised R B u a)
    (axis : u.axis a = r.stepped p)
    (lawful : r.Lawful R B (axisMaximum u a) (u.msc.pending.get a)) (known : r.position = some p)
    (steps : stepping r = true) (moving : r.state = .moving) (boundary : Bool) :
    Lands R B a u (afterStep a boundary u) := by
  have here : (u.axis a).position = some (p + stepBy r.direction) := by rw [axis]; rfl
  have goes : (r.phase = some .stopRamp ∧ 1 < r.remaining) ∨
      (r.phase ≠ some .stopRamp ∧ p + stepBy r.direction ≠ r.legEnd) → Lands R B a u u := fun on =>
    AxisLaws.refl_lands ⟨h.toAxisGround, by rw [axis]; exact lawful.stepped known steps moving on⟩
  have undwelt : B → (u.axis a).dwell = none := fun b => (h.record.grounded b).no_dwell fun dwells => by
    have phase : r.phase = some .reverse := by rw [axis] at dwells; exact dwells
    rw [stepping_iff, phase] at steps
    simp at steps
  unfold afterStep
  dsimp only
  split
  · rename_i ramp
    have phase : r.phase = some .stopRamp := by rw [axis] at ramp; exact ramp
    split
    · cases ends : (u.axis a).endAction with
      | some e => exact h.rampEnd_lands ramp here ends fun _ _ => by rw [axis]; exact moving
      | none =>
        have stays : rampEnd a u = u := by
          unfold rampEnd
          rw [ends]
        rw [stays]
        refine AxisLaws.refl_lands ⟨h.toAxisGround, .of_active h.record.taken (fun _ => by rw [ramp]; simp)
          h.record.grounded fun b _ => ?_⟩
        have ended := ((lawful.underway b moving).ramp p known phase).1
        have none : r.endAction = none := by rw [axis] at ends; exact ends
        rw [none] at ended
        cases ended
    · rename_i more
      have remaining : (u.axis a).remaining = r.remaining - 1 := by rw [axis]; rfl
      exact goes (.inl ⟨phase, by omega⟩)
  rename_i noRamp
  have noRamp : r.phase ≠ some .stopRamp := by rw [axis] at noRamp; exact noRamp
  have leg : r.phase = some .travel ∨ r.phase = some .overshootReturn :=
    ((stepping_iff r).mp steps).resolve_right noRamp
  have ended : legEnded (u.axis a) = true ↔ p + stepBy r.direction = r.legEnd := by
    rw [axis, legEnded]
    exact (beq_iff_eq ..).trans (Option.some_inj (a := p + stepBy r.direction))
  split
  · exact h.finishDone_lands here
  · rename_i notLast
    split
    · refine h.startRamp_lands here undwelt (fun _ _ => by rw [axis]; exact moving) fun b _ => ?_
      rw [axis]
      exact lawful.stepped_onLeg known leg b moving
    · split
      · rename_i ends
        have last : lastLeg (u.axis a) = false := by simpa [ends] using notLast
        unfold legEnd
        dsimp only
        rw [if_neg (by simp [last])]
        refine h.setAxis_lands (h.record.beginReturn here (fun b _ => ?_) _)
        have last : lastLeg r = false := by rw [axis] at last; exact last
        have unfinished : ¬r.direction = .positive ∧ ¬r.target = some r.legEnd := by simpa [lastLeg] using last
        obtain ⟨back, other⟩ := unfinished
        obtain ⟨t, target, beyond⟩ := ((lawful.underway b moving).leg p known leg).2
          (by cases way : r.direction <;> simp_all)
        have apart : r.legEnd ≠ t := fun same => other (by rw [target, same])
        refine ⟨t, by rw [axis]; exact target, ?_⟩
        have reached := ended.mp ends
        omega
      · rename_i on
        exact goes (.inr ⟨noRamp, mt ended.mpr on⟩)

theorem AxisLaws.moveStep_lands (h : AxisLaws R B s a) {p : Int} (known : (s.axis a).position = some p)
    (steps : stepping (s.axis a) = true) (moving : (s.axis a).state = .moving) :
    Lands R B a s (moveStep a p s) := by
  have aside := geoStepReport_aside a (p + stepBy (s.axis a).direction) (s.setAxis a ((s.axis a).stepped p))
  have poised := (h.setAxis_poised (h.record.stepped_poised known steps moving)).aside aside
  have acts := (ActsOn.setAxis a ((s.axis a).stepped p) s).trans (aside.acts a)
  refine Lands.after acts (poised.afterStep_lands (r := s.axis a) ?_ ?_ known steps moving _)
  · exact (aside.axis a).trans (State.setAxis_axis_self _ _ _)
  · rw [axisMaximum_of_prf acts.prf]
    have pending := aside.pending a
    exact ⟨fun r runs => (unflagged_eq_none pending).mpr (h.record.taken r runs), fun r waits => by
      rw [stepping_iff, waits] at steps
      simp at steps, h.record.within⟩

theorem canStep_iff (r : AxisRecord) : canStep r = true ↔
    r.state = .moving ∧ r.slot.isSome = true ∧ stepping r = true ∧ r.position.isSome = true := by
  simp [canStep, and_assoc]

theorem AxisLaws.homingStep_lands (h : AxisLaws R B s a) (homing : (s.axis a).state = .homing)
    (active : (s.axis a).phase ≠ some .yielded) : Lands R B a s (homingStep a s) := by
  have lands : Lands R B a s (s.setAxis a { s.axis a with
      remaining := (s.axis a).remaining - 1, lastStep := (s.axis a).direction }) :=
    h.setAxis_lands (.of_active h.record.taken (fun _ => active)
      (fun b => ⟨(h.record.grounded b).covers, (h.record.grounded b).position, (h.record.grounded b).dwell⟩)
      fun _ moving => by cases homing.symm.trans moving)
  unfold homingStep
  dsimp only
  split
  · refine Lands.after (.setAxis a _ s) (lands.laws.finishLost_lands (fun b => ?_) _)
    exact (lands.laws.record.grounded b).covers
  · exact lands

/-! ## Dwells (R68, R72, R76) -/

theorem AxisLaws.replanAfterDwell_lands (h : AxisLaws R B s a)
    (active : B → (s.axis a).state = .moving → (s.axis a).phase ≠ some .yielded) (d : Direction) :
    Lands R B a s (replanAfterDwell a d s) := by
  have poised := h.poised active
  unfold replanAfterDwell
  split
  · cases known : (s.axis a).position with
    | some p => exact poised.finishDone_lands known
    | none =>
      have stays : finishDone a s = s := by
        unfold finishDone
        rw [known]
      rw [stays]
      exact h.refl_lands
  · exact poised.beginPlan_lands ‹_›

theorem AxisPoised.firstStage_lands (h : AxisPoised R B s a) (limit : Int) :
    Lands R B a s (s.setAxis a ((s.axis a).enterHoming.firstStage limit)) :=
  h.setAxis_lands (.firstStage h.record.taken
    (fun b => ⟨(h.range b).1, (h.record.grounded b).covers⟩) limit)

/-- The return leg leads from the approach point to the target (R68). -/
theorem AxisRecord.Lawful.beginReturnLeg {top : Int} {q : Option Request} {r : AxisRecord}
    (h : r.Lawful R B top q) (dwell : r.dwell = some .returnLeg) :
    AxisRecord.Lawful R B top q { r.facing .positive with
      phase := some .overshootReturn, dwell := none, legEnd := r.target.getD 0 } := by
  refine .of_active h.taken (fun _ waits => by cases waits)
    (fun b => ⟨(h.grounded b).covers, (h.grounded b).position, fun dwells => by cases dwells⟩)
    fun b moving => ?_
  have underway := h.underway b moving
  have poised := h.poised fun b _ => by
    rw [(h.grounded b).dwell (by rw [dwell]; rfl)]
    simp
  refine ⟨.inr ⟨poised.slot b moving, .inr (.inl rfl)⟩, ⟨fun dwells => (by cases dwells), fun dwells => by
    cases dwells⟩, underway.target, fun p known _ => ⟨?_, fun negative => by cases negative⟩,
    fun _ _ ramp => (by cases ramp), fun _ _ dwells => by cases dwells⟩
  obtain ⟨t, target, ahead⟩ := underway.returnLeg p known dwell
  have goal : r.target.getD 0 = t := by rw [target]; rfl
  show p < r.target.getD 0 ∧ r.target.getD 0 ≤ r.maxInForce
  rw [goal]
  exact ⟨ahead, (underway.target t target).2.trans (h.grounded b).covers⟩

/-- A stage of a homing in progress, which no MOVING axis is in. -/
theorem AxisRecord.Lawful.stage {top : Int} {q : Option Request} {r x : AxisRecord}
    (h : r.Lawful R B top q) (still : B → x.state ≠ .moving) (active : x.phase ≠ some .yielded)
    (slot : x.slot = r.slot) (position : x.position = r.position) (covers : x.maxInForce = r.maxInForce)
    (dwell : x.dwell.isSome = true → x.phase = some .reverse) : x.Lawful R B top q := by
  refine .of_active (by rw [slot]; exact h.taken) (fun _ => active) (fun b => ⟨?_, ?_, dwell⟩)
    fun b moving => absurd moving (still b)
  · rw [covers]; exact (h.grounded b).covers
  · rw [covers, position]; exact (h.grounded b).position

theorem AxisLaws.completeHoming_lands (h : AxisLaws R B s a) : Lands R B a s (completeHoming a s) :=
  h.finishForce_lands (.idleAt { s.axis a with lastStep := .positive } fun _ => le_rfl) _ _

theorem AxisLaws.dwellEnd_lands (h : AxisLaws R B s a) : Lands R B a s (dwellEnd a s) := by
  unfold dwellEnd
  dsimp only
  split
  · exact h.refl_lands
  all_goals
    rename_i dwell
    have active : B → (s.axis a).state = .moving → (s.axis a).phase ≠ some .yielded := fun b _ => by
      rw [(h.record.grounded b).dwell (by rw [dwell]; rfl)]
      simp
    have poised := h.poised active
  · exact h.setAxis_lands (h.record.beginReturnLeg dwell)
  · exact h.replanAfterDwell_lands active _
  · exact h.replanAfterDwell_lands active _
  · exact (poised.firstStage_lands _).aside (markMotion_aside _)
  · have still : B → (s.axis a).state ≠ .moving := fun b moving =>
      (h.record.underway b moving).dwell.1 dwell
    refine h.setAxis_lands ?_
    unfold AxisRecord.firstStage
    split
    · exact h.record.stage still (fun waits => by cases waits) rfl rfl rfl fun _ => rfl
    · exact h.record.stage still (fun waits => by cases waits) rfl rfl rfl fun dwells => by cases dwells
  · have still : B → (s.axis a).state ≠ .moving := fun b moving =>
      (h.record.underway b moving).dwell.2 dwell
    split
    · exact h.setAxis_lands
        (h.record.stage still (fun waits => by cases waits) rfl rfl rfl fun dwells => by cases dwells)
    · exact h.completeHoming_lands

/-! ## Home switches (R76, R79) -/

/-- The laws do not read the home switch. -/
theorem AxisLaws.setSwitch_lands (h : AxisLaws R B s a) (b : Bool) :
    Lands R B a s (s.setAxis a { s.axis a with switch := b }) :=
  h.setAxis_lands ⟨h.record.taken, h.record.remainder, h.record.within⟩

theorem AxisLaws.switchChange_lands (h : AxisLaws R B s a) (b : Bool) :
    Lands R B a s (switchChange a b s) := by
  have set := h.setSwitch_lands b
  unfold switchChange
  dsimp only
  split
  · exact h.refl_lands
  · split
    · rename_i homing _
      exact Lands.after set.acts (set.laws.setAxis_lands (set.laws.record.stage
        (fun _ moving => by cases homing.symm.trans moving) (fun waits => by cases waits) rfl rfl rfl
        fun _ => rfl))
    · exact Lands.after set.acts set.laws.completeHoming_lands
    · split
      · exact Lands.after set.acts
          (set.laws.finishLost_lands (fun b => (set.laws.record.grounded b).covers) _)
      · exact set
    · exact set

/-! ## Grants (R66, R76, R91) -/

/-- The grant of a record that has left the list lands its axis on a homing, on a path, or at rest. -/
theorem AxisGround.lduGrant_lands (h : AxisGround R B s a) (empty : s.msc.pending.get a = none)
    (grounded : B → (s.axis a).Grounded (axisMaximum s a)) (q : Request) (d : DriveSlot) :
    Lands R B a s (lduGrant a q d s) := by
  have covers : B → 0 ≤ axisMaximum s a ∧ axisMaximum s a ≤ (s.axis a).maxInForce := fun b =>
    ⟨(h.range b).1, (grounded b).covers⟩
  have free : ∀ x : AxisRecord, R → x.slot.isSome = true → s.msc.pending.get a = none :=
    fun _ _ _ => empty
  unfold lduGrant
  split
  · exact (h.setAxis_lands (.firstStage (r := ((s.axis a).granted q none none).holding d) (free _) covers
      (homingLimit s a))).aside (markMotion_aside _)
  · rename_i p known _
    have taken := ActsOn.setAxis a
      ((s.axis a).granted q (some (resolve (axisMaximum s a) p q.kind)) (some p)) s
    have ground := h.of_acts taken h.own
    have range : B → 0 ≤ resolve (axisMaximum s a) p q.kind ∧
        resolve (axisMaximum s a) p q.kind ≤ axisMaximum s a := fun b =>
      resolve_range _ p q.kind (h.range b).1
    unfold grantMove
    dsimp only
    split
    · refine Lands.after taken (ground.finishLost_lands (fun b => ?_) _)
      rw [State.setAxis_axis_self]
      exact (covers b).2
    · split
      · exact Lands.after taken (ground.finishIdle_lands (fun b => ((grounded b).position p known).1) _)
      · rename_i away
        refine Lands.after taken ?_
        obtain ⟨x, plan⟩ := planFrom_of_ne away
          (axisBacklash (s.setAxis a
            ((s.axis a).granted q (some (resolve (axisMaximum s a) p q.kind)) (some p))) a)
          ((s.axis a).granted q (some (resolve (axisMaximum s a) p q.kind)) (some p)).lastStep
        rw [startMove_of_plan (x := x) (by rw [State.setAxis_axis_self]; exact plan)]
        rw [State.setAxis_axis_self]
        refine Lands.aside (ground.setAxis_lands ?_) (markMotion_aside _)
        refine AxisRecord.Poised.beginPlan ?_ (p := p) known rfl plan fun b => (h.range b).2
        exact ⟨free _, fun b => ⟨(grounded b).covers, (grounded b).position, (grounded b).dwell⟩,
          fun b _ t goal => by cases goal; exact range b, fun _ _ => rfl⟩
  · rename_i unknown _
    refine Lands.after (.setAxis a ((s.axis a).granted q none none) s)
      (AxisGround.finishLost_lands (h.of_acts (.setAxis a _ s) h.own) (fun b => ?_) _)
    rw [State.setAxis_axis_self]
    exact (covers b).2

theorem AxisLaws.grantOne_lands (h : AxisLaws R B s a) (d : DriveSlot) :
    Lands R B a s (grantOne a d s) := by
  cases waits : s.msc.pending.get a with
  | none =>
    unfold grantOne
    rw [waits]
    exact h.refl_lands
  | some q =>
    obtain ⟨x, handed, pending, -, -⟩ := handedOver_eq a q s
    have acts : ActsOn a s (s.withMsc x) := by
      refine ⟨.of_ldu rfl, rfl, fun b hb => ?_⟩
      rw [State.withMsc_msc, pending, PerAxis.get_set_of_ne _ _ hb]
    have empty : (s.withMsc x).msc.pending.get a = none := by
      rw [State.withMsc_msc, pending, PerAxis.get_set_self]
    rw [grantOne_eq waits, handed]
    exact Lands.after acts ((h.toAxisGround.of_acts acts fun _ => by rw [empty]; exact ownRequest_none a)
      |>.lduGrant_lands empty h.record.grounded q d)

end Sys2Proof.Machine
end

section
/-! What MSC and the rail do on the lens keeps both laws on every axis: grants, placings, stops, groups, the
steps and events of an axis, and the main-rail loss. -/

namespace Sys2Proof.Machine

variable {R B : Prop} {s t u : State} {a : Axis}

/-- What leaves LDU, MSC and the profile keeps both laws. -/
theorem LensLaws.unchanged (h : LensLaws R B s) {l : List Part} (frame : Unchanged l s t)
    (ldu : Part.ldu ∉ l) (msc : Part.msc ∉ l) (prf : Part.prf ∉ l) : LensLaws R B t :=
  h.aside (.of_unchanged frame ldu msc prf)

/-! ## Grants (R91) -/

theorem LensLaws.grantLoop (h : LensLaws R B s) (x : Option Axis) (n : Nat) :
    LensLaws R B (grantLoop x n s) := by
  induction n generalizing s with
  | zero => exact h
  | succ n ih =>
    unfold Machine.grantLoop
    split
    · exact h
    · split
      · exact ih (h.lands ((h.axes _).grantOne_lands _))
      · exact h

theorem LensLaws.grantOccasion (h : LensLaws R B s) (x : Option Axis) :
    LensLaws R B (grantOccasion x s) := h.grantLoop x 4

theorem LensLaws.occasionAfter (h : LensLaws R B s) (a : Axis) (before : State) :
    LensLaws R B (occasionAfter a before s) := by
  unfold Machine.occasionAfter
  split
  · exact h
  · exact h.grantOccasion _

theorem LensLaws.axisStep (h : LensLaws R B s) (a : Axis) : LensLaws R B (axisStep a s) := by
  unfold Machine.axisStep
  dsimp only
  split
  · rename_i homing
    obtain ⟨homing, stage⟩ := homing
    refine (h.lands ((h.axes a).homingStep_lands homing fun waits => ?_)).occasionAfter a s
    rw [waits] at stage
    simp at stage
  · split
    · rename_i steps
      obtain ⟨moving, -, stepping, known⟩ := (canStep_iff _).mp steps
      obtain ⟨p, known⟩ := Option.isSome_iff_exists.mp known
      rw [known]
      exact (h.lands ((h.axes a).moveStep_lands known stepping moving)).occasionAfter a s
    · exact h

/-! ## Placings (R88) -/

/-- A request that joins the list of an axis that neither runs nor is YIELDED. -/
theorem AxisLaws.setRequest_some_lands (h : AxisLaws R B s a) {q : Request} (own : OwnRequest a (some q))
    (free : R → running s a = false ∧ (s.axis a).phase ≠ some .yielded) :
    Lands R B a s (setRequest a (some q) s) := by
  have waits : (setRequest a (some q) s).msc.pending.get a = some q := PerAxis.get_set_self _ _ _
  refine ⟨.setRequest a _ s, ⟨fun _ => by rw [waits]; exact own, h.range⟩, ?_⟩
  rw [waits]
  refine ⟨fun r runs => ?_, fun r yields => absurd yields (free r).2, h.record.within⟩
  exact absurd runs (Bool.eq_false_iff.mp (free r).1)

theorem dropRequest_axis (a : Axis) (o : MoveOutcome) (s : State) (b : Axis) :
    (dropRequest a o s).axis b = s.axis b := by
  unfold dropRequest State.axis
  split
  · rfl
  · rw [recordEnd_ldu]
    rfl

/-- After the pending record has made way the axis still does not run, and it is not YIELDED. -/
theorem AxisLaws.supersedePending_free (h : AxisLaws R B s a) (idle : running s a = false) (r : R) :
    running (supersedePending a s) a = false ∧
      ((supersedePending a s).axis a).phase ≠ some .yielded := by
  unfold supersedePending
  split
  · rename_i remains
    obtain ⟨-, -, -, known⟩ := h.record.remainder r ((yielded_iff s a).mp remains)
    obtain ⟨p, known⟩ := Option.isSome_iff_exists.mp known
    have rests : (endYielded a .superseded s).axis a = (s.axis a).idleAt (axisMaximum s a) p := by
      unfold endYielded
      rw [known]
      exact (finishForce_axes a _ _ _ _).1
    rw [running, rests]
    exact ⟨rfl, fun waits => by cases waits⟩
  · rename_i rests
    rw [running, dropRequest_axis]
    exact ⟨idle, mt (yielded_iff s a).mpr rests⟩

theorem LensLaws.passToRunning (h : LensLaws R B s) {q : Request} (runs : running s q.axis = true) :
    LensLaws R B (passToRunning q s) := by
  unfold Machine.passToRunning
  have passed : LensLaws R B (match q.kind with
      | .home => passHome q.axis q s
      | _ => if (s.axis q.axis).state = .moving then retarget q.axis q s else s) := by
    split
    · exact h.lands ((h.axes _).passHome_lands runs q)
    · split
      · exact h.lands ((h.axes _).retarget_lands runs q)
      · exact h
  dsimp only
  split
  · exact passed.aside (setProgress_aside _ _ _)
  · exact passed

theorem LensLaws.place (h : LensLaws R B s) {n : NewRequest} (held : n.kind = .home → n.mode = .held) :
    LensLaws R B (place n s) := by
  have counted : LensLaws R B (nextStamp s) := h.aside ⟨rfl, rfl, fun _ => rfl⟩
  unfold Machine.place
  dsimp only
  split
  · exact counted.passToRunning ‹_›
  · rename_i idle
    have law := counted.axes n.axis
    have away := law.supersedePending_lands
    refine (counted.lands away).lands (away.laws.setRequest_some_lands (fun q same => ?_)
      (law.supersedePending_free (Bool.eq_false_iff.mpr idle)))
    cases same
    exact ⟨rfl, held⟩

/-- MOVE has no HOME among its kinds (R86). -/
theorem parseMove_kind {d : List Byte} {x : MoveOperands} (parsed : parseMove d = some x) :
    x.kind ≠ .home := by
  unfold parseMove at parsed
  split at parsed
  · split at parsed
    · rename_i kind _ _
      cases parsed
      rintro rfl
      unfold moveKindOf at kind
      split at kind
      · cases kind
      · split at kind <;> cases kind
    · cases parsed
  · cases parsed

/-! ## Lens commands (R86, R87, R89, R100) -/

theorem LensLaws.endGroupFor (h : LensLaws R B s) (o : GroupOutcome) (axes : PerAxis Bool) :
    LensLaws R B (endGroupFor o axes s) := h.aside (endGroupFor_aside o axes s)

theorem LensLaws.moveNow (h : LensLaws R B s) (p : Port) {x : MoveOperands} (kind : x.kind ≠ .home) :
    LensLaws R B (moveNow p x s).1 := by
  unfold Machine.moveNow
  split
  · exact h
  · exact ((h.endGroupFor _ _).place fun home => absurd home kind).grantOccasion _

theorem LensLaws.homeNow (h : LensLaws R B s) (p : Port) (axes : PerAxis Bool) (tag : Byte) :
    LensLaws R B (homeNow p axes tag s).1 := by
  have accepted : LensLaws R B (acceptHome p axes tag s) := by
    unfold acceptHome
    split
    · exact h
    · exact (forAxes_keeps (P := LensLaws R B) (f := fun a => Machine.place (homeRequest p tag a))
        (fun _ _ ht => ht.place fun _ => rfl) axes (h.endGroupFor _ _)).grantOccasion _
  unfold Machine.homeNow
  split
  · exact h
  · exact accepted

theorem LensLaws.stopNow (h : LensLaws R B s) (axes : PerAxis Bool) : LensLaws R B (stopNow axes s) := by
  have stopped : LensLaws R B (forAxes axes stopAxis (Machine.endGroupFor .cancelled axes s)) :=
    forAxes_keeps (fun a _ ht => ht.lands (ht.axes a).stopAxis_lands) axes (h.endGroupFor _ _)
  unfold Machine.stopNow occasionIf
  split
  · exact stopped
  · exact stopped.grantOccasion _

theorem LensLaws.driftNow (h : LensLaws R B s) (on : Bool) : LensLaws R B (driftNow on s).1 := by
  have tracked : ∀ x, LensLaws R B (s.withFdt x) := fun x => h.aside ⟨rfl, rfl, fun _ => rfl⟩
  unfold Machine.driftNow
  dsimp only
  split
  · unfold driftOn
    split <;> exact tracked _
  · exact tracked _

theorem LensLaws.evaluateDrift (h : LensLaws R B s) : LensLaws R B (evaluateDrift s) := by
  have tracked : ∀ x, LensLaws R B (s.withFdt x) := fun x => h.aside ⟨rfl, rfl, fun _ => rfl⟩
  have computed : ∀ z p lns anchor, LensLaws R B (computeDrift z p lns anchor s) := fun z p lns anchor => by
    unfold computeDrift
    dsimp only
    split
    · exact tracked _
    · split
      · exact tracked _
      · exact (tracked _).place fun home => by cases home
  unfold Machine.evaluateDrift
  split
  · exact tracked _
  · split
    · exact tracked _
    · split
      · exact tracked _
      · split
        · exact computed _ _ _ _
        · exact tracked _

theorem LensLaws.supersedeGroup (h : LensLaws R B s) : LensLaws R B (supersedeGroup s) := by
  unfold Machine.supersedeGroup
  split
  · exact forAxes_keeps (fun a _ ht => ht.lands (ht.axes a).supersedePending_lands) _
      (h.aside (endGroup_aside _ s))
  · exact h

theorem LensLaws.placeMember (h : LensLaws R B s) (x : Preset) (comp : Int) (tag : Byte) (p : Port)
    (a : Axis) : LensLaws R B (placeMember x comp tag p a s) := by
  unfold Machine.placeMember
  split
  · exact h
  · exact h.place fun home => by cases home

theorem changeSettings_aside (x : Settings) (s : State) : Aside s (changeSettings x s) := by
  have set : Aside s (s.withGeo { s.geo with settings := x }) := ⟨rfl, rfl, fun _ => rfl⟩
  exact (set.trans (.of_unchanged (markDirty_frame .geometry _) (by simp) (by simp) (by simp))).trans
    (.of_unchanged (requestBuild_frame _) (by simp) (by simp) (by simp))

theorem LensLaws.acceptRecall (h : LensLaws R B s) (n : Fin 10) (tag : Byte) (p : Port) (x : Preset) :
    LensLaws R B (acceptRecall n tag p x s) := by
  have formed : LensLaws R B (formGroup n tag p x (Machine.supersedeGroup s)) :=
    h.supersedeGroup.aside ⟨rfl, rfl, fun _ => rfl⟩
  have trimmed : ∀ g, LensLaws R B (applyTrimsGroup g (formGroup n tag p x (Machine.supersedeGroup s))) :=
    fun g => formed.aside (changeSettings_aside _ _)
  have placed : ∀ t, LensLaws R B t →
      LensLaws R B (forAxes (presentAxes x) (Machine.placeMember x (compensationOf s x) tag p) t) := fun t ht =>
    forAxes_keeps (fun a _ hu => hu.placeMember _ _ _ _ a) _ ht
  unfold Machine.acceptRecall
  dsimp only
  refine ((placed _ ?_).aside (settleGroup_aside _)).grantOccasion _
  split
  · exact formed
  · exact trimmed _

theorem LensLaws.recallPreset (h : LensLaws R B s) (p : Port) (n : Fin 10) (tag : Byte) :
    LensLaws R B (recallPreset p n tag s).1 := by
  unfold Machine.recallPreset
  split
  · exact h
  · exact h.acceptRecall _ _ _ _
  · exact h

/-! ## The main-rail loss (R80, R95) -/

/-- Nothing waits on an axis that did not wait there before. -/
def Fewer (s t : State) : Prop :=
  ∀ b, t.msc.pending.get b = none ∨
    (t.msc.pending.get b).map Request.unflagged = (s.msc.pending.get b).map Request.unflagged

theorem Fewer.aside (h : Fewer s t) (k : Aside t u) : Fewer s u := fun b =>
  (h b).imp (fun none => (unflagged_eq_none (k.pending b)).mpr none) fun same => (k.pending b).trans same

theorem Fewer.remove (h : Fewer s t) (a : Axis) : Fewer s (setRequest a none t) := fun b => by
  by_cases same : b = a
  · subst same
    exact .inl (setRequest_pending_self b t)
  · rw [setRequest_pending_of_ne same]
    exact h b

theorem lensLoss_fewer (s : State) : Fewer s (lensLoss s) := by
  have dropped : Fewer s (lensDropped s) := fun b => by
    rw [lensDropped_msc, dropRemainders_pending]
    split
    · exact .inl rfl
    · exact .inr rfl
  refine overAxes_keeps (P := Fewer s) (f := fun a t => lossEnd s a t) (fun a t ht => ?_) dropped
  unfold lossEnd
  split
  · exact (ht.aside (setInForce_aside a none t)).aside (recordEnd_aside _ _ _)
  · unfold dropRequest
    split
    · exact ht
    · exact (ht.remove a).aside (recordEnd_aside _ _ _)

theorem lensLoss_prf (s : State) : (lensLoss s).prf = s.prf :=
  lensLoss_keeps (lens_frame s) (.refl _ _) .prf (by simp)

/-- A record that stays lawful when what waited may have left the list. -/
theorem AxisRecord.Lawful.fewer {top : Int} {q q' : Option Request} {r : AxisRecord}
    (h : r.Lawful R B top q) (active : R → r.phase ≠ some .yielded) (fewer : q = none → q' = none) :
    r.Lawful R B top q' :=
  ⟨fun b runs => fewer (h.taken b runs), fun b waits => absurd waits (active b), h.within⟩

theorem LensLaws.lensLoss (h : LensLaws R B s) : LensLaws R B (lensLoss s) := by
  have prf := lensLoss_prf s
  refine ⟨fun b => by rw [prf]; exact h.length b, fun a => ?_⟩
  have law := h.axes a
  have fewer := lensLoss_fewer s a
  refine ⟨⟨fun r => ?_, fun b => ?_⟩, ?_⟩
  · rcases fewer with none | same
    · rw [none]
      exact ownRequest_none a
    · exact (law.own r).of_unflagged same
  · rw [axisMaximum_of_prf prf, axisBacklash, prf]
    exact law.range b
  · rw [axisMaximum_of_prf prf, lensLoss_axis]
    cases moving : inMotion s a with
    | true =>
      rw [afterLoss_of_inMotion moving]
      exact .becomeLost fun b => (law.record.grounded b).covers
    | false =>
      rw [afterLoss_of_atRest moving]
      refine law.record.fewer (fun r waits => ?_) fun empty =>
        fewer.elim id fun same => (unflagged_eq_none same).mpr empty
      obtain ⟨moves, -⟩ := law.record.remainder r waits
      simp [inMotion, moves] at moving

/-! ## Part reset (R173, R174) -/

theorem lensLaws_reset : LensLaws R B State.reset := by
  obtain ⟨length, bound⟩ := boundLaw_reset
  refine ⟨fun _ => length, fun a => ?_⟩
  obtain ⟨top, backlash, within⟩ := bound a
  refine ⟨⟨fun _ => ?_, fun _ => ⟨top, backlash⟩⟩, ?_⟩
  · rw [reset_pending]
    exact ownRequest_none a
  · refine ⟨fun _ _ => reset_pending a, fun _ waits => ?_, fun _ => within⟩
    rw [reset_axis] at waits
    cases waits

theorem lensLaws_partReset (s : State) : LensLaws R B (partReset s) :=
  lensLaws_reset.aside ⟨rfl, rfl, fun _ => rfl⟩

theorem LensLaws.takeInputs (h : LensLaws R B s) (x : InputLevels) : LensLaws R B (takeInputs x s) := by
  have covered : LensLaws R B (s.withLps { s.lps with cover := x.cover }) :=
    h.aside ⟨rfl, rfl, fun _ => rfl⟩
  exact overAxes_keeps (f := fun a t => takeSwitch a (x.homes.get a) t)
    (fun a _ ht => ht.lands ((ht.axes a).setSwitch_lands _)) covered

end Sys2Proof.Machine
end

section
/-! PROFILE_WRITE and the laws of the lens: an accepted write of AXIS leaves every maximum and backlash in its
range, and changes no maximum of an axis in use. -/

namespace Sys2Proof.Machine

variable {R B : Prop} {s t u : State} {a : Axis}

/-! ## The section as it stands after a write (R170) -/

theorem paramAt_lt {l : List Nat} {o i : Nat} (h : paramAt l o = some i) : i < l.length := by
  induction l generalizing o i with
  | nil => cases h
  | cons w rest ih =>
    unfold paramAt at h
    split at h
    · cases h
      exact Nat.succ_pos _
    · split at h
      · cases h
      · obtain ⟨j, found, rfl⟩ := Option.map_eq_some_iff.mp h
        exact Nat.succ_lt_succ (ih found)

theorem readParams_length {n : Nat} {l : List Nat} {d : List Byte} {v : List Int}
    (h : readParams n l d = some v) : v.length ≤ l.length := by
  induction n generalizing l d v with
  | zero =>
    cases d with
    | nil => cases h; exact Nat.zero_le _
    | cons => cases h
  | succ n ih =>
    cases d with
    | nil => cases h; exact Nat.zero_le _
    | cons b d =>
      cases l with
      | nil => cases h
      | cons w ws =>
        unfold readParams at h
        split at h
        · cases h
        · obtain ⟨rest, read, rfl⟩ := Option.map_eq_some_iff.mp h
          exact Nat.succ_le_succ (ih read)

/-- A write lies within its section. -/
theorem writeTarget_within {k : ProfileSection} {o i : Nat} {d : List Byte} {raw : List Int}
    (h : writeTarget k o d = some (i, raw)) : i + raw.length ≤ (sectionWidths k).length := by
  unfold writeTarget at h
  split at h
  · cases h
  · rename_i j first
    obtain ⟨v, read, same⟩ := Option.map_eq_some_iff.mp h
    cases same
    have fits := readParams_length read
    have begins := paramAt_lt first
    rw [List.length_drop] at fits
    omega

theorem mapIndexed_length (f : Nat → Int → Int) (i : Nat) (l : List Int) :
    (mapIndexed f i l).length = l.length := List.length_mapIdx

theorem param_mapIndexed (f : Nat → Int → Int) (i : Nat) {l : List Int} {j : Nat} (h : j < l.length) :
    param (mapIndexed f i l) j = f (i + j) (param l j) := by
  simp [param, mapIndexed, h]

theorem overlay_length {old new : List Int} {i : Nat} (h : i + new.length ≤ old.length) :
    (overlay old i new).length = old.length := by
  simp only [overlay, List.length_append, List.length_take, List.length_drop]
  omega

/-- A scalar that the write covers is the written one. -/
theorem param_overlay_inside {old new : List Int} {i j : Nat} (h : i + new.length ≤ old.length)
    (low : i ≤ j) (high : j < i + new.length) : param (overlay old i new) j = param new (j - i) := by
  have before : (old.take i).length = i := by
    rw [List.length_take]
    omega
  unfold param overlay
  rw [List.getD_append _ _ _ _ (by rw [List.length_append, before]; exact high),
    List.getD_append_right _ _ _ _ (by rw [before]; exact low), before]

/-- A scalar that the write does not cover stays. -/
theorem param_overlay_outside {old new : List Int} {i j : Nat} (h : i + new.length ≤ old.length)
    (out : ¬(i ≤ j ∧ j < i + new.length)) : param (overlay old i new) j = param old j := by
  have before : (old.take i).length = i := by
    rw [List.length_take]
    omega
  unfold param overlay
  by_cases below : j < i
  · rw [List.append_assoc, List.getD_append _ _ _ _ (by rw [before]; exact below)]
    simp only [List.getD_eq_getElem?_getD, List.getElem?_take, below, if_true]
  · have beyond : i + new.length ≤ j := by omega
    rw [List.getD_append_right _ _ _ _ (by rw [List.length_append, before]; exact beyond),
      List.length_append, before]
    simp only [List.getD_eq_getElem?_getD, List.getElem?_drop]
    congr 2
    omega

theorem clampWrite_axis_length (old : List Int) (i : Nat) (raw : List Int) :
    (clampWrite old .axis i raw).length = raw.length := by
  unfold clampWrite
  exact mapIndexed_length _ _ _

/-- What a write of AXIS makes of one scalar: its own clamp when it covers it. -/
theorem param_written {i j : Nat} {raw : List Int} (h : i + raw.length ≤ s.prf.axis.length) :
    (¬(i ≤ j ∧ j < i + raw.length) → param (written s .axis i raw) j = param s.prf.axis j) ∧
    (i ≤ j ∧ j < i + raw.length → ∃ top v, param (written s .axis i raw) j = clampAxis top j v) := by
  have fits : i + (clampWrite s.prf.axis .axis i raw).length ≤ s.prf.axis.length := by
    rw [clampWrite_axis_length]
    exact h
  refine ⟨fun out => param_overlay_outside fits (by rw [clampWrite_axis_length]; exact out), ?_⟩
  rintro ⟨low, high⟩
  have written : param (written s .axis i raw) j = param (clampWrite s.prf.axis .axis i raw) (j - i) :=
    param_overlay_inside fits low (by rw [clampWrite_axis_length]; exact high)
  rw [written]
  unfold clampWrite
  dsimp only
  rw [param_mapIndexed _ _ (by omega), Nat.add_sub_cancel' low]
  exact ⟨_, _, rfl⟩

theorem clampAxis_low {top v : Int} {j : Nat} (h : j % 5 = 0 ∨ j % 5 = 2) (other : j ≠ 20) :
    0 ≤ clampAxis top j v := by
  unfold clampAxis
  rw [if_neg other]
  rcases h with h | h
  · rw [if_pos h]
    exact (by decide : (0 : Int) ≤ 1000).trans (clamp_bounds (by decide) v).1
  · simp only [h]
    exact (clamp_bounds (by decide) v).1

/-- A written section keeps every maximum and backlash at or above 0. -/
theorem written_low {i j : Nat} {raw : List Int} (h : i + raw.length ≤ s.prf.axis.length)
    (place : j % 5 = 0 ∨ j % 5 = 2) (other : j ≠ 20) (before : 0 ≤ param s.prf.axis j) :
    0 ≤ param (written s .axis i raw) j := by
  obtain ⟨outside, inside⟩ := param_written (s := s) (j := j) h
  by_cases covered : i ≤ j ∧ j < i + raw.length
  · obtain ⟨top, v, clamped⟩ := inside covered
    rw [clamped]
    exact clampAxis_low place other
  · rw [outside covered]
    exact before

/-! ## The maximum in force (R60) -/

theorem AxisRecord.Lawful.refreshed {q : Option Request} {r : AxisRecord} {before after : Int}
    (h : r.Lawful R B before q) (rests : B → after ≠ before → r.state ≠ .moving) :
    (r.refreshed before after).Lawful R B after q := by
  unfold AxisRecord.refreshed
  split
  · rename_i same
    rw [← same]
    exact h
  · rename_i changed
    rw [newMaxInForce_eq]
    refine ⟨h.taken, h.remainder, fun b => (AxisRecord.within_iff _ after).mpr ⟨⟨le_max_left _ _, fun p known =>
      ⟨((h.grounded b).position p known).1, ?_⟩, (h.grounded b).dwell⟩,
      fun moving => absurd moving (rests b (Ne.symm changed))⟩⟩
    have here : r.position = some p := known
    rw [here]
    exact le_max_right _ _

theorem applyWrite_prf (k : ProfileSection) (i n : Nat) (v : List Int) (s : State) :
    (applyWrite k i n v s).prf = s.prf.setSection k v := applyWrite_frame k i n v s .prf (by simp)

/-- An accepted write of AXIS. -/
theorem LensLaws.writeAxis (h : LensLaws R B s) {o i : Nat} {d : List Byte} {raw : List Int}
    (target : writeTarget .axis o d = some (i, raw)) (free : ¬CoversInUse s .axis i raw.length) :
    LensLaws R B (applyWrite .axis i raw.length (written s .axis i raw) s) := by
  set t := applyWrite .axis i raw.length (written s .axis i raw) s with ht
  have prf : t.prf.axis = written s .axis i raw := by rw [ht, applyWrite_prf]; rfl
  have pending : t.msc = s.msc := applyWrite_axis_frame _ _ _ s .msc (by simp)
  have fits : B → i + raw.length ≤ s.prf.axis.length := fun b => by
    rw [h.length b]
    exact writeTarget_within target
  refine ⟨fun b => ?_, fun a => ⟨⟨?_, fun b => ?_⟩, ?_⟩⟩
  · rw [prf]
    exact (overlay_length (by rw [clampWrite_axis_length]; exact fits b)).trans (h.length b)
  · rw [pending]
    exact (h.axes a).own
  · obtain ⟨top, backlash⟩ := (h.axes a).range b
    unfold axisMaximum axisBacklash
    rw [prf]
    exact ⟨written_low (fits b) (by cases a <;> decide) (by cases a <;> decide) top,
      written_low (fits b) (by cases a <;> decide) (by cases a <;> decide) backlash⟩
  · rw [pending, ht, applyWrite_axis_axes, ← ht]
    refine (h.axes a).record.refreshed fun b changed moving => ?_
    have covered : i ≤ 5 * axisNumber a ∧ 5 * axisNumber a < i + raw.length := by
      by_contra outside
      refine changed ?_
      unfold axisMaximum
      rw [prf]
      exact (param_written (fits b)).1 outside
    refine free ⟨rfl, a, by omega, covered.2, ?_⟩
    rcases ((h.axes a).record.underway b moving).place with ⟨waits, -⟩ | ⟨held, -⟩
    · exact .inr ((yielded_iff s a).mpr waits)
    · exact .inl held

/-- A write of another section leaves the lens and its parameters. -/
theorem applyWrite_other_axis {k : ProfileSection} (other : k ≠ .axis) (i n : Nat) (v : List Int)
    (s : State) : (applyWrite k i n v s).prf.axis = s.prf.axis ∧ (applyWrite k i n v s).ldu = s.ldu ∧
      (applyWrite k i n v s).msc = s.msc := by
  refine ⟨?_, ?_, acceptedWrite_frame k i n v s .msc (by simp)⟩
  · rw [applyWrite_prf]
    cases k <;> first | rfl | exact absurd rfl other
  · cases k with
    | axis => exact absurd rfl other
    | sensor => rw [applyWrite_of_sensor_or_fan (.inl rfl)]; rfl
    | fan => rw [applyWrite_of_sensor_or_fan (.inr rfl)]; rfl
    | light => exact applyWrite_light_frame i n v s .ldu (by simp)
    | optics => exact applyWrite_optics_frame i n v s .ldu (by simp)

/-- The laws read the section AXIS alone of the profile. -/
theorem LensLaws.of_axis (h : LensLaws R B s) (prf : t.prf.axis = s.prf.axis) (ldu : t.ldu = s.ldu)
    (msc : t.msc = s.msc) : LensLaws R B t := by
  refine ⟨fun b => by rw [prf]; exact h.length b, fun a => ?_⟩
  obtain ⟨⟨own, range⟩, record⟩ := h.axes a
  have maximum : axisMaximum t a = axisMaximum s a := by unfold axisMaximum; rw [prf]
  have backlash : axisBacklash t a = axisBacklash s a := by unfold axisBacklash; rw [prf]
  have axis : t.axis a = s.axis a := by unfold State.axis; rw [ldu]
  exact ⟨⟨by rw [msc]; exact own, by rw [maximum, backlash]; exact range⟩,
    by rw [axis, maximum, msc]; exact record⟩

theorem LensLaws.writeProfile (h : LensLaws R B s) (k : ProfileSection) (o : Nat) (d : List Byte) :
    LensLaws R B (writeProfile k o d s).1 := by
  cases target : writeTarget k o d with
  | none =>
    rw [writeProfile_of_outside target]
    exact h
  | some x =>
    obtain ⟨i, raw⟩ := x
    by_cases busy : CoversInUse s k i raw.length
    · rw [writeProfile_of_busy target busy]
      exact h
    cases holds : conditionsHold k (written s k i raw) i raw.length with
    | false =>
      rw [writeProfile_of_invalid target busy holds]
      exact h
    | true =>
      rw [writeProfile_of_accepted target busy holds]
      by_cases axes : k = .axis
      · subst axes
        exact h.writeAxis target busy
      · obtain ⟨prf, ldu, msc⟩ := applyWrite_other_axis axes i raw.length (written s k i raw) s
        exact h.of_axis prf ldu msc

end Sys2Proof.Machine
end

section
/-! The laws of the lens and every row: the rows that leave the lens, the occasions of the light and the
acoustic mode, and the ports. -/

namespace Sys2Proof.Machine

variable {R B : Prop} {s t u : State}

/-! ## Rows beside the lens -/

theorem LensLaws.requestBuild (h : LensLaws R B s) : LensLaws R B (requestBuild s) :=
  h.unchanged (requestBuild_frame s) (by simp) (by simp) (by simp)

theorem LensLaws.withChoices (n : Nat) (t : State) (h : LensLaws R B t) :
    LensLaws R B (t.withChoices n) := h.of_axis rfl rfl rfl

theorem LensLaws.lightSweep (h : LensLaws R B s) : LensLaws R B (lightSweep s) :=
  (h.unchanged (tripIf_frame _ s) (by simp) (by simp) (by simp)).unchanged (lightSweep_after s).frame
    (by simp) (by simp) (by simp)

theorem LensLaws.geoSweep (h : LensLaws R B s) (o : Orientation) : LensLaws R B (geoSweep o s) := by
  have asked : ∀ (c : Prop) [Decidable c] t, LensLaws R B t →
      LensLaws R B (if c then Machine.requestBuild t else t) := fun c _ t ht => by
    split
    · exact ht.requestBuild
    · exact ht
  unfold Machine.geoSweep
  dsimp only
  exact eitherOrder_of_both LensLaws.withChoices (asked _ _ (asked _ _ h)) (asked _ _ (asked _ _ h))

theorem LensLaws.powerAndDrift (h : LensLaws R B s) : LensLaws R B (powerAndDrift s) := by
  have both : LensLaws R B (Machine.eitherOrder (fun t => Machine.evaluateDrift (Machine.lightSweep t))
      (fun t => Machine.lightSweep (Machine.evaluateDrift t)) s) :=
    eitherOrder_of_both LensLaws.withChoices h.lightSweep.evaluateDrift h.evaluateDrift.lightSweep
  unfold Machine.powerAndDrift
  dsimp only
  split
  · exact both.grantOccasion _
  · exact both

theorem LensLaws.presentAndAct (h : LensLaws R B s) (o : Orientation) :
    LensLaws R B (presentAndAct o s) := by
  have rearmed : LensLaws R B (rearmMotion s) := h.of_axis rfl rfl rfl
  exact ((rearmed.unchanged (presentAll_frame _) (by simp) (by simp) (by simp)).geoSweep o).powerAndDrift

theorem LensLaws.completeConversion (h : LensLaws R B s) (c : Channel) (code : Int) :
    LensLaws R B (completeConversion c code s) := by
  have next : ∀ x, LensLaws R B (setConversion x (applyConversion c code s)) := fun x =>
    h.of_axis rfl rfl rfl
  have joined : ∀ t, LensLaws R B t → LensLaws R B (joinPair t) := fun t ht =>
    ht.unchanged (joinPair_frame t) (by simp) (by simp) (by simp)
  unfold Machine.completeConversion
  dsimp only
  split
  · exact h
  · split
    · split
      · exact next _
      · exact (joined _ (next _)).presentAndAct _
    · exact h
  · split
    · exact (next _).presentAndAct _
    · exact h
  · split
    · exact next _
    · exact h

/-! ## Light and power -/

theorem LensLaws.enterLit (h : LensLaws R B s) (level : Int) : LensLaws R B (enterLit level s) :=
  (h.unchanged (litUpdated_frame level s) (by simp) (by simp) (by simp)).grantOccasion none

theorem LensLaws.lightOnNow (h : LensLaws R B s) (level : Nat) : LensLaws R B (lightOnNow level s).1 := by
  unfold Machine.lightOnNow
  split
  · split
    · exact h.enterLit _
    · exact h
  · exact h.of_axis rfl rfl rfl
  all_goals exact h

theorem LensLaws.powerUpNow (h : LensLaws R B s) : LensLaws R B (powerUpNow s).1 := by
  have up : LensLaws R B (poweredUp s) :=
    h.unchanged (poweredUp_frame s) (by simp) (by simp) (by simp)
  unfold Machine.powerUpNow
  split
  · exact h
  · exact h
  · exact h
  · exact h
  · exact h
  · exact up
  · exact up

theorem LensLaws.clearTripNow (h : LensLaws R B s) : LensLaws R B (clearTripNow s).1 := by
  unfold Machine.clearTripNow
  split
  · split
    · exact h.unchanged (tripCleared_frame s) (by simp) (by simp) (by simp)
    · exact h
  · exact h

theorem LensLaws.setAcoustic (h : LensLaws R B s) (m : AcousticMode) : LensLaws R B (setAcoustic m s) := by
  have set : LensLaws R B (s.withAfc { s.afc with mode := m }) := h.of_axis rfl rfl rfl
  unfold Machine.setAcoustic
  split
  · exact h
  · exact set.grantOccasion _

theorem LensLaws.gateEnded (h : LensLaws R B s) : LensLaws R B (lightGate (fanGate s)) :=
  h.unchanged (gateEnded_frame s) (by simp) (by simp) (by simp)

theorem LensLaws.provingExpiry (h : LensLaws R B s) : LensLaws R B (provingExpiry s) := by
  unfold Machine.provingExpiry
  split
  · exact h.unchanged (tripIf_frame _ _) (by simp) (by simp) (by simp)
  · exact h

/-! ## Rails and reset -/

theorem LensLaws.railRise (h : LensLaws R B s) : LensLaws R B (railRise s) := by
  have risen : LensLaws R B (scanRise s) := h.of_axis rfl rfl rfl
  unfold Machine.railRise
  split
  · exact h
  · exact (risen.unchanged (enterStarting_frame _) (by simp) (by simp) (by simp)).requestBuild

theorem LensLaws.railLoss (h : LensLaws R B s) : LensLaws R B (railLoss s) := by
  by_cases up : s.lps.power ≠ .off
  · have dark : LensLaws R B (darkened s) :=
      h.unchanged (darkened_frame s) (by simp) (by simp) (by simp)
    obtain ⟨x, y, n, loss, -⟩ := railLoss_eq up
    have bank : LensLaws R B ((darkened s).withBkm x) := dark.of_axis rfl rfl rfl
    rw [loss]
    exact bank.lensLoss.of_axis rfl rfl rfl
  · rwa [Machine.railLoss, if_neg fun k => up ((mainRailUp_iff s).mp k)]

theorem LensLaws.endReset (h : LensLaws R B s) (x : InputLevels) : LensLaws R B (endReset x s) := by
  have awake : LensLaws R B (announceReset (s.withInReset false)) := h.of_axis rfl rfl rfl
  unfold Machine.endReset
  split
  · exact (((awake.takeInputs x).unchanged (scanStart_frame _ _) (by simp) (by simp) (by simp)).unchanged
      (powerStart_frame _ _) (by simp) (by simp) (by simp)).requestBuild
  · exact h

/-! ## Settings, presets and tables -/

theorem LensLaws.storeSettings (h : LensLaws R B s) (x : Settings) : LensLaws R B (storeSettings x s) := by
  unfold Machine.storeSettings
  split
  · exact h
  · exact h.aside (changeSettings_aside _ _)

theorem LensLaws.changeSlot (h : LensLaws R B s) (n : Fin 10) (x : Option Preset) :
    LensLaws R B (changeSlot n x s) := by
  have set : LensLaws R B (s.withPtb ⟨s.ptb.slots.set n x⟩) := h.of_axis rfl rfl rfl
  exact set.unchanged (markDirty_frame _ _) (by simp) (by simp) (by simp)

theorem LensLaws.savePreset (h : LensLaws R B s) (x : SaveOperands) : LensLaws R B (savePreset x s).1 := by
  unfold Machine.savePreset
  split
  · exact h
  · exact h.changeSlot _ _

theorem LensLaws.erasePreset (h : LensLaws R B s) (n : Fin 10) : LensLaws R B (erasePreset n s).1 := by
  unfold Machine.erasePreset
  split
  · exact h
  · exact h.changeSlot _ _

theorem LensLaws.takeNow (h : LensLaws R B s) (g c : Nat) : LensLaws R B (takeNow g c s).1 := by
  unfold Machine.takeNow
  split
  · exact h
  · split
    · exact h.of_axis rfl rfl rfl
    · exact h

theorem LensLaws.dropNow (h : LensLaws R B s) (g : Nat) : LensLaws R B (dropNow g s).1 := by
  unfold Machine.dropNow
  split
  · exact h
  · exact h.of_axis rfl rfl rfl

theorem LensLaws.finishBuild (h : LensLaws R B s) : LensLaws R B (finishBuild s) := by
  have again : ∀ t, LensLaws R B t → LensLaws R B (afterBuild t) := fun t ht => by
    unfold afterBuild
    split <;> exact ht.of_axis rfl rfl rfl
  have judged : ∀ b g, LensLaws R B (raiseOn .geometry .m ((s.withBkm b).withGeo g)) := fun _ _ =>
    h.of_axis rfl rfl rfl
  unfold Machine.finishBuild
  split
  · exact again _ (judged _ _)
  · exact h

theorem LensLaws.writeEnd (h : LensLaws R B s) : LensLaws R B (writeEnd s) := by
  unfold Machine.writeEnd
  split
  · exact h
  · rename_i f _
    have stored : LensLaws R B (raiseBoth .nv (s.withNvs { storeCopy s.nvs f with inFlight := none })) :=
      h.of_axis rfl rfl rfl
    exact stored.unchanged (startWrite_frame _) (by simp) (by simp) (by simp)

/-! ## Every row -/

/-- A command keeps the laws when what it does with operands that its payload spells keeps them. -/
theorem LensLaws.takeCommand {α : Type} {c : Cmd} {parse : List Byte → Option α}
    {run : α → State → State × Answer} {p : Port} {d : List Byte}
    (hr : ∀ x t, parse d = some x → LensLaws R B t → LensLaws R B (run x t).1) (h : LensLaws R B s) :
    LensLaws R B (takeCommand c parse run p d s) := by
  have shifted : LensLaws R B (shiftOut p (d.length + 2) s) := h.of_axis rfl rfl rfl
  have checked : LensLaws R B (checkCommand c parse run p d (shiftOut p (d.length + 2) s)).1 := by
    unfold checkCommand
    split
    · exact shifted
    · split
      · exact shifted
      · split
        · exact shifted
        · exact hr _ _ ‹_› shifted
  unfold Machine.takeCommand
  split
  · exact h
  · exact checked.of_axis rfl rfl rfl

theorem LensLaws.takeKnown (h : LensLaws R B s) (c : Cmd) (p : Port) (d : List Byte) :
    LensLaws R B (takeKnown c p d s) := by
  cases c
  case resetPart =>
    show LensLaws R B (takeResetPart p d s)
    unfold takeResetPart
    split
    · exact h
    · split
      · exact lensLaws_partReset s
      · exact h.takeCommand fun _ _ _ ht => ht
  case lightOn => exact h.takeCommand fun x _ _ ht => ht.lightOnNow x
  case lightOff =>
    exact h.takeCommand fun _ t _ ht => ht.unchanged (lightOffNow_frame t) (by simp) (by simp) (by simp)
  case powerDown =>
    exact h.takeCommand fun _ t _ ht => ht.unchanged (powerDownNow_frame t) (by simp) (by simp) (by simp)
  case powerUp => exact h.takeCommand fun _ _ _ ht => ht.powerUpNow
  case clearTrip => exact h.takeCommand fun _ _ _ ht => ht.clearTripNow
  case acoustic => exact h.takeCommand fun m _ _ ht => ht.setAcoustic m
  case move => exact h.takeCommand fun _ _ parsed ht => ht.moveNow p (parseMove_kind parsed)
  case home => exact h.takeCommand fun x _ _ ht => ht.homeNow p x.1 x.2
  case stop => exact h.takeCommand fun x _ _ ht => ht.stopNow x
  case drift => exact h.takeCommand fun x _ _ ht => ht.driftNow x
  case presetSave => exact h.takeCommand fun x _ _ ht => ht.savePreset x
  case presetErase => exact h.takeCommand fun x _ _ ht => ht.erasePreset x
  case presetRecall => exact h.takeCommand fun x _ _ ht => ht.recallPreset p x.1 x.2
  case trims | keystone | orientation => exact h.takeCommand fun _ _ _ ht => ht.storeSettings _
  case rebuild => exact h.takeCommand fun _ _ _ ht => ht.requestBuild
  case profileWrite => exact h.takeCommand fun x _ _ ht => ht.writeProfile x.1 x.2.1 x.2.2
  case profileRead => exact h.takeCommand fun x _ _ ht => readProfile_keeps x.1 x.2.1 x.2.2 ht
  case takeTable => exact h.takeCommand fun x _ _ ht => ht.takeNow x.1 x.2
  case dropTable => exact h.takeCommand fun x _ _ ht => ht.dropNow x
  all_goals exact h.takeCommand fun _ _ _ ht => ht.of_axis rfl rfl rfl

theorem LensLaws.exchange (h : LensLaws R B s) (p : Port) (b : List Byte) (n : Nat) :
    LensLaws R B (exchange p b n s) := by
  unfold Machine.exchange
  split
  · exact h
  · split
    · cases p <;> exact h.of_axis rfl rfl rfl
    · exact h.of_axis rfl rfl rfl
    · exact h.of_axis rfl rfl rfl
    · unfold takeFrame
      split
      · exact h.takeKnown _ _ _
      · exact h.of_axis rfl rfl rfl

/-- Every command keeps the laws of the lens. -/
theorem LensLaws.afterCommand (h : LensLaws R B s) (i : Instr) : LensLaws R B (afterCommand i s) := by
  cases i
  case unknownCommand => exact h.exchange _ _ _
  case brokenFrame => exact h.exchange _ _ _
  case responseRead => exact outsideReset_keeps (h.of_axis rfl rfl rfl) h
  case partReset => exact lensLaws_partReset s
  case resetEnd => exact h.endReset _
  case mainRailRise => exact outsideReset_keeps h.railRise h
  case mainRailLoss => exact outsideReset_keeps h.railLoss h
  case coverChange =>
    exact outsideReset_keeps (h.unchanged (coverTo_frame _ s) (by simp) (by simp) (by simp)) h
  case homeSwitchChange a b =>
    exact outsideReset_keeps (f := fun t => Machine.occasionAfter a t (switchChange a b t))
      ((h.lands ((h.axes a).switchChange_lands b)).occasionAfter a s) h
  case tachPulse =>
    exact outsideReset_keeps (h.unchanged (countPulse_frame _ _ s) (by simp) (by simp) (by simp)) h
  case sweepStart =>
    exact outsideReset_keeps (h.unchanged (startSweep_frame s) (by simp) (by simp) (by simp)) h
  case standbyBrdConversion =>
    exact outsideReset_keeps (h.unchanged (startStandby_frame s) (by simp) (by simp) (by simp)) h
  case conversionComplete => exact outsideReset_keeps (h.completeConversion _ _) h
  case gateEnd => exact outsideReset_keeps (f := fun t => lightGate (fanGate t)) h.gateEnded h
  case provingDeadlineExpiry => exact outsideReset_keeps h.provingExpiry h
  case step => exact outsideReset_keeps (h.axisStep _) h
  case dwellExpiry a =>
    exact outsideReset_keeps (f := fun t => Machine.occasionAfter a t (dwellEnd a t))
      ((h.lands (h.axes a).dwellEnd_lands).occasionAfter a s) h
  case buildEnd => exact outsideReset_keeps h.finishBuild h
  case loanExpiry => exact outsideReset_keeps (f := loanExpires) (h.of_axis rfl rfl rfl) h
  case nvWriteEnd => exact outsideReset_keeps h.writeEnd h
  all_goals
    unfold Machine.afterCommand
    exact h.takeKnown _ _ _

/-- A step keeps the law of the pending list and that of the bound, each under its own premise. -/
theorem LensLaws.step (h : LensLaws R B s) (hstep : step s = .next t) : LensLaws R B t := by
  unfold Machine.step at hstep
  split at hstep
  · cases hstep
    exact h.of_axis rfl rfl rfl
  · rw [exec_next] at hstep
    cases hstep
    rename_i rest _
    have queued : LensLaws R B (s.withPending rest) := h.of_axis rfl rfl rfl
    exact queued.afterCommand _

/-! ## The law of the slots -/

/-- A record in an axis's place keeps the slots apart when no other axis holds the slot that it takes. -/
theorem LensLaw.setAxis (h : LensLaw s) {a : Axis} {r : AxisRecord} (sound : r.Sound)
    (apart : ∀ d, r.slot = some d → (s.axis a).slot = some d ∨ ∀ b, (s.axis b).slot ≠ some d) :
    LensLaw (s.setAxis a r) := by
  obtain ⟨records, slots⟩ := h
  have others : ∀ b d, b ≠ a → r.slot = some d → (s.axis b).slot ≠ some d := fun b d other takes holds =>
    (apart d takes).elim (fun own => other (slots b a d holds own)) fun free => free b holds
  refine ⟨fun b => ?_, fun b c d hb hc => ?_⟩
  · by_cases same : b = a
    · subst same
      rwa [State.setAxis_axis_self]
    · rw [State.setAxis_axis_of_ne s r same]
      exact records b
  · by_cases sameB : b = a <;> by_cases sameC : c = a
    · exact sameB.trans sameC.symm
    · subst sameB
      rw [State.setAxis_axis_self] at hb
      rw [State.setAxis_axis_of_ne s r sameC] at hc
      exact absurd hc (others c d sameC hb)
    · subst sameC
      rw [State.setAxis_axis_self] at hc
      rw [State.setAxis_axis_of_ne s r sameB] at hb
      exact absurd hb (others b d sameB hc)
    · rw [State.setAxis_axis_of_ne s r sameB] at hb
      rw [State.setAxis_axis_of_ne s r sameC] at hc
      exact slots b c d hb hc

theorem not_held_of_freeSlot {d : DriveSlot} (free : freeSlot s = some d) (b : Axis) :
    (s.axis b).slot ≠ some d := by
  have unheld : slotHeld s d = false := by
    unfold freeSlot at free
    split at free
    · cases free
      assumption
    · split at free
      · cases free
        assumption
      · cases free
  intro holds
  simp only [slotHeld, List.any_eq_false, beq_iff_eq] at unheld
  exact unheld b (mem_allAxes b) holds

theorem LensLaw.of_ldu (h : LensLaw s) (ldu : t.ldu = s.ldu) : LensLaw t := by
  have axis : ∀ a, t.axis a = s.axis a := fun a => by
    unfold State.axis
    rw [ldu]
  unfold LensLaw
  simp only [axis]
  exact h

theorem afterBuild_ldu (s : State) : (afterBuild s).ldu = s.ldu := by
  unfold afterBuild
  split <;> rfl

theorem lensLaw_closed : MachineClosed LensLaw where
  msc _ _ _ h := h
  fdt _ _ h := h
  raise _ _ _ h := h
  build s h := h.of_ldu (requestBuild_frame s .ldu (by simp))
  axis s a r change h := by
    obtain ⟨sound, slot⟩ := change
    refine h.setAxis (sound (h.1 a)) fun d takes => .inl ?_
    rcases slot with same | none
    · rw [← same]
      exact takes
    · rw [none] at takes
      cases takes
  take s a r d free takes sound known h := by
    refine h.setAxis (sound (known (h.1 a))) fun d' takes' => .inr ?_
    cases takes.symm.trans takes'
    exact not_held_of_freeSlot free
  mark _ h := h
  choices _ _ h := h
  scn _ _ h := h
  awake _ h := h
  afc _ _ h := h
  lps _ _ h := h
  ptb _ _ h := h
  nvs _ _ h := h
  prf _ _ h := h
  settings _ _ h := h
  port _ _ _ h := h
  clear _ _ h := h
  mask _ _ _ h := h
  announce _ h := h
  finish s h := by
    unfold finishBuild
    split
    · exact LensLaw.of_ldu (s := s) h (afterBuild_ldu _)
    · exact h
  openLoan _ h := h
  takeLive _ _ _ _ h := h
  release _ h := h
  expire _ h := h
  railLoss _ h := h
  bankTick _ h := h
  reset s _ := lensLaw_reset.of_ldu (t := partReset s) rfl

/-- Settles O11: the law of the slots by the primitive changes; the other two in one walk over the rows, each
operation on an axis leaving it with a lawful record. -/
theorem everyStepKeepsTheLensLaw : Obligations.EveryStepKeepsTheLensLaw := by
  intro s t lens hstep
  refine ⟨step_keeps lensLaw_closed (fun _ _ h => h) lens hstep, fun request => ?_, fun bound => ?_⟩
  · exact ((lensLaws_of_laws lens).step hstep).request request
  · exact ((lensLaws_of_laws lens).step hstep).bound bound

end Sys2Proof.Machine
end

section
/-! MOVE on a profile that no write leaves: with a backlash below 0 the path that leads back to a target at
0 has no steps, where the statement counts those through an approach point above it. -/

namespace Sys2Proof.Machine

/-- FC dwells at 0 before a return leg to 50, and its backlash is -5. -/
def dwellsOverNegativeBacklash : State :=
  let s := State.reset.withInReset false
  let r : AxisRecord := { s.axis .fc with
    state := .moving, position := some 0, target := some 50, start := some 10, tag := some 7,
    source := some .m, mode := some .shared, rate := some 1000, slot := some .slot0, drvEn := true,
    direction := .negative, lastStep := .negative, legEnd := 0, phase := some .reverse,
    dwell := some .returnLeg, remaining := 50 }
  ((s.withLps { s.lps with power := .ready }).setAxis .fc r).withPrf
    { s.prf with axis := s.prf.axis.set 17 (-5) }

/-- A MOVE of FC to 0. -/
def moveToZero : MoveOperands := ⟨.fc, .absolute 0, .shared, none, 9⟩

/-- Taken in REVERSE it leaves no steps: the target is 0, where FC stands (log 15). -/
theorem moveToZero_remaining :
    ((afterCommand (.move .m [3, 0, 0, 0, 0, 0xFF, 9]) dwellsOverNegativeBacklash).axis .fc).remaining = 0 := by
  decide

/-- The statement counts -10: to an approach point at 5 and back. -/
theorem stepsTo_negativeBacklash :
    stepsTo 0 (goalFrom dwellsOverNegativeBacklash .fc 0 moveToZero.kind)
      (max 0 (goalFrom dwellsOverNegativeBacklash .fc 0 moveToZero.kind -
        axisBacklash dwellsOverNegativeBacklash .fc)) = -10 := by decide

/-- Refutes O41: a retarget in REVERSE to 0, where the axis stands, on a backlash below 0. The model plans
no steps, the statement counts -10. -/
theorem not_moveIsCheckedInOrder : ¬ Obligations.MoveIsCheckedInOrder := by
  intro h
  obtain ⟨t, taken, -, -, accepted⟩ := h [3, 0, 0, 0, 0, 0xFF, 9] moveToZero dwellsOverNegativeBacklash rfl
    (by decide)
  have proper : ¬(moveToZero.follow = some moveToZero.axis ∨
      ∃ v, moveToZero.kind = .absolute v ∧ v < 0) := by
    rintro (follow | ⟨v, kind, below⟩)
    · cases follow
    · cases kind
      exact absurd below (by decide)
  obtain ⟨-, -, retargets, -⟩ := accepted proper (by decide)
  have nothingWaits : NonePending dwellsOverNegativeBacklash := fun a => by cases a <;> rfl
  obtain ⟨-, -, -, -, -, -, -, reverse⟩ := retargets 0 rfl rfl rfl (by decide) nothingWaits
  have stated : (t.axis .fc).remaining = -10 :=
    (congrArg AxisRecord.remaining (reverse rfl)).trans stepsTo_negativeBacklash
  have same : t = afterCommand (.move .m [3, 0, 0, 0, 0, 0xFF, 9]) dwellsOverNegativeBacklash := by
    rw [exec_next] at taken
    cases taken
    rfl
  rw [same, moveToZero_remaining] at stated
  exact absurd stated (by decide)

end Sys2Proof.Machine
end

section
/-! SUPPORT. What the operations of the lens leave to see: an occasion that grants nothing, the end of the
request in force, a record put in its place, and the plan between two positions. -/

namespace Sys2Proof.Machine

variable {s t u : State} {a : Axis}

/-! ## Occasions without a grant (R91) -/

/-- With every slot of the mode in use nothing is granted. -/
theorem grantLoop_of_full (full : slotCount s ≤ runningCount s) (x : Option Axis) (n : Nat) :
    grantLoop x n s = s := by
  cases n with
  | zero => rfl
  | succ n => exact if_pos full

theorem selectGrant_of_ineligible (h : ∀ b, axisEligible s b = false) (x : Option Axis) :
    selectGrant s x = none := by
  cases selected : selectGrant s x with
  | none => rfl
  | some b => exact absurd (eligible_of_selectGrant selected) (by simp [h b])

theorem axisEligible_of_none {b : Axis} (h : s.msc.pending.get b = none) : axisEligible s b = false := by
  unfold axisEligible
  rw [h]

/-- With nothing waiting nothing is granted. -/
theorem grantLoop_of_nonePending (h : NonePending s) (x : Option Axis) (n : Nat) :
    grantLoop x n s = s := by
  cases n with
  | zero => rfl
  | succ n =>
    unfold grantLoop
    rw [selectGrant_of_ineligible (fun b => axisEligible_of_none (h b)) x]
    split <;> rfl

theorem grantOccasion_of_nonePending (h : NonePending s) (x : Option Axis) : grantOccasion x s = s :=
  grantLoop_of_nonePending h x 4

theorem grantOccasion_of_full (full : slotCount s ≤ runningCount s) (x : Option Axis) :
    grantOccasion x s = s := grantLoop_of_full full x 4

theorem occasionAfter_of_nonePending (h : NonePending t) (a : Axis) (s : State) :
    occasionAfter a s t = t := by
  unfold occasionAfter
  split
  · rfl
  · exact grantOccasion_of_nonePending h _

theorem running_of_axis {b : Axis} (h : t.axis b = s.axis b) : running t b = running s b := by
  unfold running
  rw [h]

/-- A change of one axis that keeps its slot keeps every slot. -/
theorem OnlyAxes.running (only : OnlyAxes [a] s t) (slot : (t.axis a).slot = (s.axis a).slot) (b : Axis) :
    running t b = running s b := by
  by_cases same : b = a
  · subst same
    unfold Machine.running
    rw [slot]
  · exact running_of_axis (only b (by simpa using same))

theorem OnlyAxes.holders (only : OnlyAxes [a] s t) (slot : (t.axis a).slot = (s.axis a).slot) :
    holders s = holders t := by
  unfold Machine.holders
  simp only [only.running slot]

/-- No slot was released, so there is no occasion (R63). -/
theorem occasionAfter_of_slot (only : OnlyAxes [a] s t) (slot : (t.axis a).slot = (s.axis a).slot) :
    occasionAfter a s t = t := if_pos (only.holders slot)

theorem occasionAfter_self (a : Axis) (s : State) : occasionAfter a s s = s := if_pos rfl

/-! ## A record in its axis's place -/

theorem setAxis_after (s : State) (a : Axis) (r : AxisRecord) :
    Unchanged [.ldu] s (s.setAxis a r) ∧ OnlyAxes [a] s (s.setAxis a r) ∧ (s.setAxis a r).axis a = r :=
  ⟨setAxis_frame s a r, setAxis_only s a r, State.setAxis_axis_self s a r⟩

theorem occasionAfter_setAxis {r : AxisRecord} (slot : r.slot = (s.axis a).slot) :
    occasionAfter a s (s.setAxis a r) = s.setAxis a r :=
  occasionAfter_of_slot (setAxis_only s a r) (by rw [State.setAxis_axis_self, slot])

/-! ## The end of the request in force (R83, R94) -/

/-- The request in force on an axis has ended: the record that it left, the axis's last result, and no
other axis nor what waits changed. -/
structure Ended (a : Axis) (r : AxisRecord) (o : MoveOutcome) (f : Option Int) (s t : State) : Prop where
  axis : t.axis a = r
  only : OnlyAxes [a] s t
  last : t.msc.last.get a = ⟨(s.axis a).tag, (s.axis a).source, some o, f⟩
  favoured : t.msc.favoured = s.msc.favoured
  pending : ∀ b, (t.msc.pending.get b).isNone = (s.msc.pending.get b).isNone

theorem finishForce_ended (a : Axis) (r : AxisRecord) (o : MoveOutcome) (f : Option Int) (s : State) :
    Ended a r o f s (finishForce a r o f s) := by
  obtain ⟨axis, only⟩ := finishForce_axes a r o f s
  obtain ⟨last, favoured, pending⟩ :=
    recordEnd_msc a (endOfForce (s.axis a) (bookOf s a) o f) (setInForce a none (s.setAxis a r))
  refine ⟨axis, only, ?_, favoured, pending⟩
  unfold finishForce
  rw [last, PerAxis.get_set_self]
  rfl

theorem Ended.nonePending {r : AxisRecord} {o : MoveOutcome} {f : Option Int} (h : Ended a r o f s t)
    (none : NonePending s) : NonePending t := fun b => by
  have same := h.pending b
  rw [none b] at same
  exact Option.isNone_iff_eq_none.mp same

/-- An end after the record alone has changed is an end from before, where that keeps what the end reads. -/
theorem Ended.of_setAxis {r x : AxisRecord} {o : MoveOutcome} {f : Option Int}
    (h : Ended a r o f (s.setAxis a x) t) (tag : x.tag = (s.axis a).tag)
    (source : x.source = (s.axis a).source) : Ended a r o f s t := by
  refine ⟨h.axis, (setAxis_only s a x).trans h.only, ?_, h.favoured, h.pending⟩
  rw [h.last, State.setAxis_axis_self, tag, source]

theorem finishIdle_ended (a : Axis) (o : MoveOutcome) (p : Int) (s : State) :
    Ended a (restingAt s a p) o (some p) s (finishIdle a o p s) :=
  finishForce_ended a ((s.axis a).idleAt (axisMaximum s a) p) o (some p) s

theorem finishDone_ended {p : Int} (known : (s.axis a).position = some p) :
    Ended a (restingAt s a p) .done (some p) s (finishDone a s) := by
  unfold finishDone
  rw [known]
  exact finishIdle_ended a .done p s

theorem finishLost_ended (a : Axis) (o : MoveOutcome) (s : State) :
    Ended a (s.axis a).becomeLost o none s (finishLost a o s) := finishForce_ended a _ o none s

/-! ## Plans (R67) -/

theorem planFrom_eq_none_iff (p n b : Int) (d : Direction) :
    planFrom p n b d = none ↔ p = n ∧ (d = .positive ∨ n = 0 ∨ max 0 (n - b) = n) := by
  unfold planFrom approachPoint
  dsimp only
  by_cases below : p < n
  · simp [below, below.ne]
  · by_cases above : n < p
    · simp [below, above, above.ne']
    · have same : p = n := by omega
      simp [same, or_iff_not_imp_left]

theorem planFrom_of_lt {p n : Int} (h : p < n) (b : Int) (d : Direction) :
    planFrom p n b d = some ⟨.positive, n, n - p⟩ := if_pos h

theorem planFrom_of_loop {p n b : Int} {d : Direction} (h : n ≤ p) (steps : planFrom p n b d ≠ none) :
    planFrom p n b d = some (planThrough p n (max 0 (n - b))) := by
  unfold planFrom at steps ⊢
  dsimp only at steps ⊢
  rw [if_neg (by omega)] at steps ⊢
  split
  · rfl
  · rename_i notAbove
    rw [if_neg notAbove] at steps
    split
    · rename_i still
      rw [if_pos still] at steps
      exact absurd rfl steps
    · rfl

end Sys2Proof.Machine
end

section
/-! DWELL_EXPIRY. Each dwell leads to one next stage: a leg, the plan from where the axis stands, a stage of a
homing, or the end of the request in force. -/

namespace Sys2Proof.Machine

variable {s t : State} {a : Axis}

theorem exec_dwellExpiry (a : Axis) (awake : s.inReset = false) :
    exec (.dwellExpiry a) s = .next (occasionAfter a s (dwellEnd a s)) :=
  exec_event (f := fun t => occasionAfter a t (dwellEnd a t)) rfl awake

/-! ## What follows each dwell (R68, R72, R76) -/

theorem dwellEnd_of_none (h : (s.axis a).dwell = none) : dwellEnd a s = s := by
  unfold dwellEnd
  dsimp only
  rw [h]

theorem dwellEnd_of_returnLeg (h : (s.axis a).dwell = some .returnLeg) : dwellEnd a s =
    s.setAxis a { (s.axis a).facing .positive with
      phase := some .overshootReturn, dwell := none, legEnd := (s.axis a).target.getD 0 } := by
  unfold dwellEnd
  dsimp only
  rw [h]

/-- The direction of the last step that the plan after a dwell starts from (log 16). -/
def planDirection (r : AxisRecord) : Direction :=
  if r.dwell = some .firstLeg then r.lastStep else .negative

theorem dwellEnd_of_plan (h : (s.axis a).dwell = some .firstLeg ∨ (s.axis a).dwell = some .replan) :
    dwellEnd a s = replanAfterDwell a (planDirection (s.axis a)) s := by
  unfold dwellEnd planDirection
  dsimp only
  rcases h with h | h <;> rw [h] <;> rfl

theorem dwellEnd_of_homing (h : (s.axis a).dwell = some .homing) : dwellEnd a s = beginHoming a s := by
  unfold dwellEnd
  dsimp only
  rw [h]

theorem dwellEnd_of_seek (h : (s.axis a).dwell = some .seek) :
    dwellEnd a s = s.setAxis a ((s.axis a).firstStage (homingLimit s a)) := by
  unfold dwellEnd
  dsimp only
  rw [h]

theorem dwellEnd_of_release (h : (s.axis a).dwell = some .release) : dwellEnd a s =
    if (s.axis a).switch = true then
      s.setAxis a { (s.axis a).facing .positive with phase := some .release, dwell := none }
    else completeHoming a s := by
  unfold dwellEnd
  dsimp only
  rw [h]

/-! ## Plans after a dwell -/

theorem replanAfterDwell_of_still {p n : Int} {d : Direction} (known : (s.axis a).position = some p)
    (target : (s.axis a).target = some n) (still : planFrom p n (axisBacklash s a) d = none) :
    replanAfterDwell a d s = finishDone a s := by
  unfold replanAfterDwell
  rw [planOf_eq known target, still]

theorem replanAfterDwell_of_plan {p n : Int} {d : Direction} {x : Plan}
    (known : (s.axis a).position = some p) (target : (s.axis a).target = some n)
    (plan : planFrom p n (axisBacklash s a) d = some x) :
    replanAfterDwell a d s = s.setAxis a ((s.axis a).beginPlan x) := by
  unfold replanAfterDwell
  rw [planOf_eq known target, plan]

/-- After a stop ramp or a retarget the axis is at its target without a step to do. -/
theorem planDirection_still {r : AxisRecord} (leads : r.dwell = some .firstLeg ∨ r.dwell = some .replan)
    (p n b : Int) : planFrom p n b (planDirection r) = none ↔
      p = n ∧ (n = 0 ∨ max 0 (n - b) = n ∨ (r.dwell = some .firstLeg ∧ r.lastStep = .positive)) := by
  rw [planFrom_eq_none_iff]
  rcases leads with h | h
  · rw [planDirection, if_pos h, or_rotate]
    simp [h]
  · simp [planDirection, h]

/-! ## Homings -/

theorem AxisRecord.firstStage_of_released {r : AxisRecord} (h : r.switch = false) (limit : Int) :
    r.firstStage limit = r.seek limit := if_neg (by simp [h])

theorem AxisRecord.firstStage_of_asserted {r : AxisRecord} (h : r.switch = true) (limit : Int) :
    r.firstStage limit = r.dwellForRelease := if_pos h

theorem AxisRecord.firstStage_slot (r : AxisRecord) (limit : Int) : (r.firstStage limit).slot = r.slot := by
  unfold AxisRecord.firstStage
  split <;> rfl

/-- A homing that is complete ends DONE at 0, its direction POSITIVE (R76; log 18). -/
theorem completeHoming_ended (a : Axis) (s : State) :
    Ended a (AxisRecord.idleAt { s.axis a with lastStep := .positive } (axisMaximum s a) 0) .done (some 0) s
      (completeHoming a s) := finishForce_ended a _ _ _ s

/-! ## The row -/

/-- Settles O46: what follows each dwell; the slot stays, except at an end, where nothing waits. -/
theorem dwellExpiryStartsTheNextLeg : Obligations.DwellExpiryStartsTheNextLeg := by
  intro a s awake r
  have stays : ∀ x : AxisRecord, dwellEnd a s = s.setAxis a x → x.slot = r.slot →
      Unchanged [.ldu] s (occasionAfter a s (dwellEnd a s)) ∧
        OnlyAxes [a] s (occasionAfter a s (dwellEnd a s)) ∧
        (occasionAfter a s (dwellEnd a s)).axis a = x := fun x row slot => by
    rw [row, occasionAfter_setAxis slot]
    exact setAxis_after s a x
  have ends : ∀ {x o f}, Ended a x o f s (dwellEnd a s) → NonePending s →
      Ended a x o f s (occasionAfter a s (dwellEnd a s)) := fun ended none => by
    rwa [occasionAfter_of_nonePending (ended.nonePending none)]
  refine ⟨_, exec_dwellExpiry a awake, fun none => ?_, fun n dwell target => ?_,
    fun p n leads known target => ⟨fun still none => ?_, fun below => ?_, fun above steps => ?_⟩,
    fun dwell => ?_, fun dwell released => ?_, fun dwell asserted => ?_, fun dwell asserted => ?_,
    fun dwell released none => ?_⟩
  · rw [dwellEnd_of_none none, occasionAfter_self]
  · have leg := dwellEnd_of_returnLeg dwell
    rw [target] at leg
    exact stays _ leg rfl
  · have done := finishDone_ended (s := s) known
    rw [← replanAfterDwell_of_still known target ((planDirection_still leads p n _).mpr still),
      ← dwellEnd_of_plan leads] at done
    have ended := ends done none
    exact ⟨ended.only, ended.axis, ended.last⟩
  · exact stays _ ((dwellEnd_of_plan leads).trans
      (replanAfterDwell_of_plan known target (planFrom_of_lt below _ _))) rfl
  · have loop := planFrom_of_loop (p := p) above (mt (planDirection_still leads p n (axisBacklash s a)).mp steps)
    exact stays _ ((dwellEnd_of_plan leads).trans (replanAfterDwell_of_plan known target loop)) rfl
  · have row := dwellEnd_of_homing dwell
    have only : OnlyAxes [a] s (beginHoming a s) := setAxis_only s a _
    have axis : (beginHoming a s).axis a = r.enterHoming.firstStage (homingLimit s a) :=
      State.setAxis_axis_self s a _
    rw [row, occasionAfter_of_slot only (by rw [axis]; exact AxisRecord.firstStage_slot _ _), axis]
    refine ⟨((setAxis_frame s a _).weaken (by simp)).trans ((withScn_frame _ _).weaken (by simp)), rfl, only,
      fun released => ?_, fun asserted => ?_⟩
    · exact AxisRecord.firstStage_of_released (r := r.enterHoming) released _
    · exact AxisRecord.firstStage_of_asserted (r := r.enterHoming) asserted _
  · exact stays _ ((dwellEnd_of_seek dwell).trans
      (congrArg _ (AxisRecord.firstStage_of_released released _))) rfl
  · exact stays _ ((dwellEnd_of_seek dwell).trans
      (congrArg _ (AxisRecord.firstStage_of_asserted asserted _))) rfl
  · exact stays _ ((dwellEnd_of_release dwell).trans (if_pos asserted)) rfl
  · have done := completeHoming_ended a s
    have row : dwellEnd a s = completeHoming a s :=
      (dwellEnd_of_release dwell).trans (if_neg (by rw [released]; decide))
    rw [← row] at done
    have ended := ends done none
    rw [ended.axis]
    exact ⟨ended.only, rfl, rfl, rfl, rfl, rfl, ended.last⟩

end Sys2Proof.Machine
end

section
/-! SUPPORT. What the end of a request tells its port and its recall group: MOVE on the issuing port, the
member's progress, and the end of the group with RECALL on its port (R94, R96). -/

namespace Sys2Proof.Machine

variable {s t : State} {a : Axis}

/-! ## Causes that join -/

/-- A cause is held on a port that has attention; Port V has none (R164). -/
def HeldOn (p : Port) (d : Cause) (s : State) : Prop :=
  (p = .m → causeHeld s.pif.attnM.pending d = true) ∧ (p = .s → causeHeld s.pif.attnS.pending d = true)

theorem raiseOn_heldOn (d : Cause) (p : Port) (s : State) : HeldOn p d (raiseOn d p s) := by
  refine ⟨?_, ?_⟩ <;> rintro rfl <;> exact causeHeld_or_causeBit_self _ _

theorem HeldOn.raiseOn {p : Port} {d : Cause} (h : HeldOn p d s) (c : Cause) (q : Port) :
    HeldOn p d (raiseOn c q s) := by
  obtain ⟨onM, onS⟩ := h
  refine ⟨fun m => ?_, fun v => ?_⟩
  · cases q with
    | m => exact causeHeld_or_of_held (onM m) c
    | s => exact onM m
    | v => exact onM m
  · cases q with
    | m => exact onS v
    | s => exact causeHeld_or_of_held (onS v) c
    | v => exact onS v

theorem HeldOn.of_attention {p : Port} {d : Cause} {l : List Part} (h : HeldOn p d s)
    (frame : Unchanged l s t) (kept : Part.attention ∉ l) : HeldOn p d t := by
  obtain ⟨onM, onS⟩ : t.pif.attnM = s.pif.attnM ∧ t.pif.attnS = s.pif.attnS := frame .attention kept
  unfold HeldOn
  rw [onM, onS]
  exact h

/-- A cause that is held on a port stays held through the ends of requests. -/
theorem heldOn_end (p : Port) (d : Cause) : EndClosed (HeldOn p d) where
  msc _ _ _ h := h
  fdt _ _ h := h
  raise _ c q h := h.raiseOn c q
  build s h := h.of_attention (requestBuild_frame s) (by simp)

/-! ## The end of a group -/

theorem endGroup_ended {g : Group} (h : s.msc.group = some g) (o : GroupOutcome) :
    (endGroup o s).msc.group = some { g with outcome := o } ∧ HeldOn g.port .recall (endGroup o s) := by
  unfold endGroup
  rw [h]
  exact ⟨rfl, raiseOn_heldOn .recall g.port _⟩

theorem setProgress_group {g : Group} (h : s.msc.group = some g) (a : Axis) (p : Progress) :
    (setProgress a p s).msc.group = some { g with members := g.members.set a (some p) } := by
  unfold setProgress
  rw [h]
  rfl

theorem allDone_iff (g : Group) : allDone g = true ↔
    ∀ c, g.members.get c = none ∨ g.members.get c = some .done := by
  simp [allDone, mem_allAxes]

/-- The last member that ends DONE ends the group DONE. -/
theorem memberEnd_of_last {g : Group} (h : s.msc.group = some g) (live : g.outcome = .inProgress)
    (rest : ∀ c, c ≠ a → g.members.get c = none ∨ g.members.get c = some .done) :
    (memberEnd a .done s).msc.group =
        some { g with members := g.members.set a (some .done), outcome := .done } ∧
      HeldOn g.port .recall (memberEnd a .done s) := by
  have progress := setProgress_group h a .done
  have done : allDone { g with members := g.members.set a (some .done) } = true := by
    rw [allDone_iff]
    intro c
    by_cases same : c = a
    · subst same
      exact .inr (PerAxis.get_set_self _ _ _)
    · dsimp only
      rw [PerAxis.get_set_of_ne _ _ same]
      exact rest c same
  have ends : memberEnd a .done s = endGroup .done (setProgress a .done s) := by
    unfold memberEnd
    dsimp only
    rw [if_pos rfl, settleGroup]
    simp only [progressOf, progress]
    rw [if_pos ⟨live, done⟩]
  rw [ends]
  exact endGroup_ended progress .done

/-- A member that ends DONE while another has not leaves the group in progress. -/
theorem memberEnd_of_rest {g : Group} (h : s.msc.group = some g) {c : Axis} (other : c ≠ a)
    (present : g.members.get c ≠ none) (unended : g.members.get c ≠ some .done) :
    (memberEnd a .done s).msc.group = some { g with members := g.members.set a (some .done) } := by
  have progress := setProgress_group h a .done
  have waits : ¬allDone { g with members := g.members.set a (some .done) } = true := by
    rw [allDone_iff]
    intro all
    have mine := all c
    dsimp only at mine
    rw [PerAxis.get_set_of_ne _ _ other] at mine
    exact mine.elim present unended
  have stays : memberEnd a .done s = setProgress a .done s := by
    unfold memberEnd
    dsimp only
    rw [if_pos rfl, settleGroup]
    simp only [progressOf, progress]
    rw [if_neg fun both => waits both.2]
  rw [stays, progress]

/-- A member that does not end DONE ends the group in progress with what its outcome decides. -/
theorem memberEnd_of_failure {g : Group} (h : s.msc.group = some g) (live : g.outcome = .inProgress)
    {o : MoveOutcome} (fails : o ≠ .done) :
    (memberEnd a o s).msc.group =
        some { g with members := g.members.set a (some (progressOf o)), outcome := groupOutcomeOf o } ∧
      HeldOn g.port .recall (memberEnd a o s) := by
  have progress := setProgress_group h a (progressOf o)
  have running : groupInProgress (setProgress a (progressOf o) s) = true := by
    unfold groupInProgress
    rw [progress]
    simp [live]
  have ends : memberEnd a o s = endGroup (groupOutcomeOf o) (setProgress a (progressOf o) s) := by
    unfold memberEnd
    dsimp only
    rw [if_neg fails, if_pos running]
  rw [ends]
  exact endGroup_ended progress _

/-! ## The record of an end -/

/-- FDT and GEO leave the group and the causes that MSC has set. -/
theorem recordEnd_told (a : Axis) (e : MoveEnd) (s : State) :
    Unchanged [.fdt, .geo, .bkm] (endTold a e s) (recordEnd a e s) :=
  ((tellFocus_frame a e _).weaken (by simp)).trans ((geoMoveEnd_frame a (homedBy e) e.final _).weaken (by simp))

theorem recordEnd_move {e : MoveEnd} {p : Port} (h : e.book.port = some p) (a : Axis) (s : State) :
    HeldOn p .move (recordEnd a e s) := by
  refine HeldOn.of_attention (s := endTold a e s) ?_ (recordEnd_told a e s) (by simp)
  refine tellGroup_keeps (heldOn_end p .move) a e ?_
  rw [h]
  exact raiseOn_heldOn .move p _

/-- The state in which the result and MOVE stand, and the group has not been told. -/
theorem raised_group (a : Axis) (e : MoveEnd) (s : State) :
    (raiseOnIssuer .move e.book.port (recordResult a e s)).msc.group = s.msc.group := by
  rw [(raiseOnIssuer_frame .move e.book.port (recordResult a e s) .msc (by simp) :)]
  rfl

/-! ## The end of a request in force -/

theorem bookOf_of_inForce {b : Book} (h : s.msc.inForce.get a = some b) : bookOf s a = b := by
  unfold bookOf
  rw [h]
  rfl

/-- The end of a request in force raises MOVE on the port that issued it (R94). -/
theorem finishForce_move {b : Book} {p : Port} (inForce : s.msc.inForce.get a = some b)
    (port : b.port = some p) (r : AxisRecord) (o : MoveOutcome) (f : Option Int) :
    HeldOn p .move (finishForce a r o f s) :=
  recordEnd_move (e := endOfForce (s.axis a) (bookOf s a) o f)
    ((congrArg Book.port (bookOf_of_inForce inForce)).trans port) a _

/-- The end of a member in force is the end that the group takes (R96). -/
theorem finishForce_member {b : Book} (inForce : s.msc.inForce.get a = some b) (member : b.member = true)
    (r : AxisRecord) (o : MoveOutcome) (f : Option Int) : ∃ u : State, u.msc.group = s.msc.group ∧
      (finishForce a r o f s).msc.group = (memberEnd a o u).msc.group ∧
      ∀ p, HeldOn p .recall (memberEnd a o u) → HeldOn p .recall (finishForce a r o f s) := by
  set v := setInForce a none (s.setAxis a r)
  set e := endOfForce (s.axis a) (bookOf s a) o f
  have told : endTold a e v =
      memberEnd a o (raiseOnIssuer .move e.book.port (recordResult a e v)) :=
    if_pos ((congrArg Book.member (bookOf_of_inForce inForce)).trans member)
  have frame : Unchanged [.fdt, .geo, .bkm] (endTold a e v) (finishForce a r o f s) := recordEnd_told a e v
  rw [told] at frame
  exact ⟨_, raised_group a e v, congrArg Msc.group (frame .msc (by simp)),
    fun p held => held.of_attention frame (by simp)⟩

end Sys2Proof.Machine
end

section
/-! HOME_SWITCH_CHANGE. A change is a new level alone, the watch on a stepping move, or the end of a stage of a
homing. -/

namespace Sys2Proof.Machine

variable {s t : State} {a : Axis} {b : Bool}

theorem exec_homeSwitchChange (a : Axis) (b : Bool) (awake : s.inReset = false) :
    exec (.homeSwitchChange a b) s = .next (occasionAfter a s (switchChange a b s)) :=
  exec_event (f := fun t => occasionAfter a t (switchChange a b t)) rfl awake

/-- An axis record with another debounced level (R78). -/
def AxisRecord.switched (r : AxisRecord) (b : Bool) : AxisRecord := { r with switch := b }

/-- The watch acts on a stepping move beyond the home window (R79). -/
def Watched (r : AxisRecord) : Prop :=
  r.state = .moving ∧ stepping r = true ∧ 200 < r.position.getD 0

/-! ## The row, case by case (R76, R78, R79) -/

theorem switchChange_of_same (h : (s.axis a).switch = b) : switchChange a b s = s := if_pos h

theorem switchChange_of_change (h : (s.axis a).switch ≠ b)
    (stage : (s.axis a).state = .homing → (s.axis a).phase ≠ some .seek ∧ (s.axis a).phase ≠ some .release)
    (free : b = true → ¬Watched (s.axis a)) :
    switchChange a b s = s.setAxis a ((s.axis a).switched b) := by
  unfold switchChange
  rw [if_neg h]
  dsimp only
  simp only [State.setAxis_axis_self]
  split
  · rename_i homing seek
    exact absurd seek (stage homing).1
  · rename_i homing release
    exact absurd release (stage homing).2
  · rename_i moving
    refine if_neg fun watch => ?_
    rw [Bool.and_eq_true, decide_eq_true_eq] at watch
    obtain ⟨steps, beyond⟩ := watch
    exact free rfl ⟨moving, steps, beyond⟩
  · rfl

theorem switchChange_of_watch (off : (s.axis a).switch = false) (watched : Watched (s.axis a)) :
    switchChange a true s = finishLost a .limitHit (s.setAxis a ((s.axis a).switched true)) := by
  obtain ⟨moving, steps, beyond⟩ := watched
  have state : ((s.axis a).switched true).state = .moving := moving
  have acts : (stepping ((s.axis a).switched true) &&
      decide (homeWindow < ((s.axis a).switched true).position.getD 0)) = true := by
    rw [Bool.and_eq_true, decide_eq_true_eq]
    exact ⟨steps, beyond⟩
  unfold switchChange
  rw [if_neg (by simp [off]), ← AxisRecord.switched]
  dsimp only
  simp only [State.setAxis_axis_self, state, acts, if_true]

theorem switchChange_of_seek (off : (s.axis a).switch = false) (homing : (s.axis a).state = .homing)
    (seek : (s.axis a).phase = some .seek) :
    switchChange a true s = s.setAxis a ((s.axis a).switched true).dwellForRelease := by
  have state : ((s.axis a).switched true).state = .homing := homing
  have phase : ((s.axis a).switched true).phase = some .seek := seek
  unfold switchChange
  rw [if_neg (by simp [off]), ← AxisRecord.switched]
  dsimp only
  simp only [State.setAxis_axis_self, state, phase, setAxis_setAxis]

theorem switchChange_of_release (on : (s.axis a).switch = true) (homing : (s.axis a).state = .homing)
    (release : (s.axis a).phase = some .release) :
    switchChange a false s = completeHoming a (s.setAxis a ((s.axis a).switched false)) := by
  have state : ((s.axis a).switched false).state = .homing := homing
  have phase : ((s.axis a).switched false).phase = some .release := release
  unfold switchChange
  rw [if_neg (by simp [on]), ← AxisRecord.switched]
  dsimp only
  simp only [State.setAxis_axis_self, state, phase]

/-- The watch ends a member's group LOST (R79, R96). -/
theorem watch_group {x : Book} {g : Group} (off : (s.axis a).switch = false) (watched : Watched (s.axis a))
    (inForce : s.msc.inForce.get a = some x) (member : x.member = true) (group : s.msc.group = some g)
    (live : g.outcome = .inProgress) :
    (switchChange a true s).msc.group =
        some { g with members := g.members.set a (some .limitHit), outcome := .lost } ∧
      HeldOn g.port .recall (switchChange a true s) := by
  rw [switchChange_of_watch off watched]
  obtain ⟨u, same, told, held⟩ := finishForce_member (s := s.setAxis a ((s.axis a).switched true)) inForce member
    ((s.setAxis a ((s.axis a).switched true)).axis a).becomeLost .limitHit none
  obtain ⟨ended, raised⟩ := memberEnd_of_failure (a := a) (same.trans group) live (o := .limitHit) (by decide)
  exact ⟨told.trans ended, held _ raised⟩

theorem stepping_iff_steps (r : AxisRecord) : stepping r = true ↔
    r.phase = some .travel ∨ r.phase = some .overshootReturn ∨ r.phase = some .stopRamp := by
  rw [stepping_iff, or_assoc]

/-- Settles O47: a level that is no change, the watch, a level alone, the end of SEEK, the end of RELEASE. -/
theorem homeSwitchChangeWatchesAndHomes : Obligations.HomeSwitchChangeWatchesAndHomes := by
  intro a b s awake r steps
  have stays : ∀ x : AxisRecord, switchChange a b s = s.setAxis a x → x.slot = r.slot →
      Unchanged [.ldu] s (occasionAfter a s (switchChange a b s)) ∧
        OnlyAxes [a] s (occasionAfter a s (switchChange a b s)) ∧
        (occasionAfter a s (switchChange a b s)).axis a = x := fun x row slot => by
    rw [row, occasionAfter_setAxis slot]
    exact setAxis_after s a x
  refine ⟨_, exec_homeSwitchChange a b awake, fun same => ?_, ?_, fun change rests => ?_, ?_, ?_⟩
  · rw [switchChange_of_same same.symm, occasionAfter_self]
  · rintro p rfl off moving stepping known beyond none
    have watched : Watched r := ⟨moving, (stepping_iff_steps r).mpr stepping, by rw [known]; exact beyond⟩
    have lost := (finishLost_ended a .limitHit (s.setAxis a (r.switched true))).of_setAxis rfl rfl
    rw [← switchChange_of_watch off watched] at lost
    rw [occasionAfter_of_nonePending (lost.nonePending none), lost.axis, State.setAxis_axis_self]
    refine ⟨lost.only, rfl, rfl, rfl, rfl, rfl, lost.last, fun x g inForce member group live => ?_⟩
    obtain ⟨ended, onM, onS⟩ := watch_group off watched inForce member group live
    exact ⟨ended, onM, onS⟩
  · refine stays _ (switchChange_of_change (Ne.symm change) (fun homing => ?_) fun on watched => ?_) rfl
    · rcases rests with idle | lost | ⟨moving, -⟩ | ⟨-, reverse⟩
      · cases homing.symm.trans idle
      · cases homing.symm.trans lost
      · cases homing.symm.trans moving
      · rw [reverse]
        exact ⟨by simp, by simp⟩
    · obtain ⟨moves, stepping, beyond⟩ := watched
      rcases rests with idle | lost | ⟨-, released | phase | ⟨p, known, within⟩⟩ | ⟨homing, -⟩
      · cases moves.symm.trans idle
      · cases moves.symm.trans lost
      · cases on.symm.trans released
      · exact phase ((stepping_iff_steps r).mp stepping)
      · rw [known] at beyond
        exact absurd beyond (not_lt.mpr within)
      · cases moves.symm.trans homing
  · rintro rfl off homing seek
    exact stays _ (switchChange_of_seek off homing seek) rfl
  · rintro rfl on homing release none
    have done := (completeHoming_ended a (s.setAxis a (r.switched false))).of_setAxis rfl rfl
    rw [← switchChange_of_release on homing release] at done
    rw [occasionAfter_of_nonePending (done.nonePending none), done.axis, State.setAxis_axis_self]
    exact ⟨done.only, rfl, rfl, rfl, rfl, rfl, rfl, done.last⟩

end Sys2Proof.Machine
end

section
/-! STOP. The command is one operation on each axis of its set, and a grant occasion when a slot was released or
a record left the list; on one axis the operation is told by whether the axis runs, is YIELDED or waits. -/

namespace Sys2Proof.Machine

variable {s t : State} {a : Axis} {axes : PerAxis Bool}

/-! ## The set of axes of a payload -/

/-- The axes that a set byte names (R159). -/
def axesOfSet (x : Byte) : PerAxis Bool := ⟨x.getLsbD 0, x.getLsbD 1, x.getLsbD 2, x.getLsbD 3⟩

theorem axesOfSet_get (x : Byte) (b : Axis) : (axesOfSet x).get b = x.getLsbD (axisNumber b) := by
  cases b <;> rfl

theorem axisSetOfByte_of_lt {x : Byte} (h : x.toNat < 16) : axisSetOfByte x = some (axesOfSet x) := if_pos h

/-- A set byte of one axis names that axis alone. -/
theorem axesOfSet_of_one {x : Byte} (h : x.toNat = 2 ^ axisNumber a) (b : Axis) :
    (axesOfSet x).get b = decide (b = a) := by
  have byte : x = BitVec.ofNat 8 (2 ^ axisNumber a) := by
    apply BitVec.eq_of_toNat_eq
    rw [h, BitVec.toNat_ofNat]
    cases a <;> rfl
  subst byte
  cases a <;> cases b <;> rfl

theorem setByte_lt {x : Byte} (h : x.toNat = 2 ^ axisNumber a) : x.toNat < 16 := by
  rw [h]
  cases a <;> decide

/-- An operation on the axes of a set of one is that on its axis. -/
theorem forAxes_of_one (one : ∀ b, axes.get b = decide (b = a)) (f : Axis → State → State) (s : State) :
    forAxes axes f s = f a s := by
  unfold forAxes
  simp only [one]
  cases a <;> rfl

/-- An operation that does nothing on the axes of a set does nothing. -/
theorem forAxes_of_idle {f : Axis → State → State} (idle : ∀ b, axes.get b = true → f b s = s) :
    forAxes axes f s = s := by
  have one : ∀ b, (if axes.get b = true then f b s else s) = s := fun b => by
    split
    · exact idle b ‹_›
    · rfl
  simp only [forAxes, allAxes, List.foldl, one]

/-- Without a live member on the axes of a command the group goes on (R96). -/
theorem endGroupFor_of_dead (o : GroupOutcome) (dead : ∀ b, axes.get b = true → liveMember s b = false) :
    endGroupFor o axes s = s := by
  refine if_neg fun live => ?_
  obtain ⟨b, -, both⟩ := List.any_eq_true.mp live
  rw [Bool.and_eq_true] at both
  obtain ⟨named, live⟩ := both
  exact absurd live (by simp [dead b named])

theorem dead_of_one (one : ∀ b, axes.get b = decide (b = a)) (dead : liveMember s a = false) (b : Axis)
    (named : axes.get b = true) : liveMember s b = false := by
  rw [one b, decide_eq_true_eq] at named
  rwa [named]

/-! ## Requests that leave without a grant (R88, R89) -/

/-- A pending record has left the list: the axis's last result, and no axis record changed. -/
structure Dropped (a : Axis) (q : Request) (o : MoveOutcome) (s t : State) : Prop where
  ldu : t.ldu = s.ldu
  last : t.msc.last.get a = ⟨some q.tag, some q.source, some o, shownPosition s q.axis⟩
  gone : t.msc.pending.get a = none
  others : ∀ b, b ≠ a → (t.msc.pending.get b).isNone = (s.msc.pending.get b).isNone

theorem dropRequest_dropped {q : Request} (waits : s.msc.pending.get a = some q) (o : MoveOutcome) :
    Dropped a q o s (dropRequest a o s) := by
  obtain ⟨-, gone, others⟩ := dropRequest_msc a o s
  refine ⟨?_, ?_, Option.isNone_iff_eq_none.mp gone, fun b hb => (others b hb).2⟩ <;>
    unfold dropRequest <;> rw [waits]
  · exact recordEnd_ldu _ _ _
  · obtain ⟨last, -, -⟩ := recordEnd_msc a (endOfPending (setRequest a none s) q o) (setRequest a none s)
    dsimp only
    rw [last, PerAxis.get_set_self]
    rfl

theorem dropRequest_of_none (h : s.msc.pending.get a = none) (o : MoveOutcome) :
    dropRequest a o s = s := by
  unfold dropRequest
  rw [h]

/-- A yielded move has ended where it stands, and its remainder has left the list (R74, R89). -/
structure YieldEnded (a : Axis) (p : Int) (o : MoveOutcome) (s t : State) : Prop where
  axis : t.axis a = restingAt s a p
  only : OnlyAxes [a] s t
  last : t.msc.last.get a = ⟨(s.axis a).tag, (s.axis a).source, some o, some p⟩
  gone : t.msc.pending.get a = none
  others : ∀ b, b ≠ a → (t.msc.pending.get b).isNone = (s.msc.pending.get b).isNone

theorem endYielded_ended {p : Int} (known : (s.axis a).position = some p) (o : MoveOutcome) :
    YieldEnded a p o s (endYielded a o s) := by
  obtain ⟨axis, only, last, -, pending⟩ := finishIdle_ended a o p (setRequest a none s)
  have row : endYielded a o s = finishIdle a o p (setRequest a none s) := by
    unfold endYielded
    rw [known]
  rw [row]
  refine ⟨axis, only, last, ?_, fun b hb => ?_⟩
  · rw [← Option.isNone_iff_eq_none, pending, setRequest_pending_self]
    rfl
  · rw [pending, setRequest_pending_of_ne hb]

/-- Nothing waits on the axis of a yielded move that has ended, whatever its position. -/
theorem endYielded_gone (a : Axis) (o : MoveOutcome) (s : State) :
    (endYielded a o s).msc.pending.get a = none ∧
      ∀ b, b ≠ a → ((endYielded a o s).msc.pending.get b).isNone = (s.msc.pending.get b).isNone := by
  cases known : (s.axis a).position with
  | some p =>
    have ended := endYielded_ended known o
    exact ⟨ended.gone, ended.others⟩
  | none =>
    have row : endYielded a o s = setRequest a none s := by
      unfold endYielded
      rw [known]
    rw [row]
    exact ⟨setRequest_pending_self a s, fun b hb => by rw [setRequest_pending_of_ne hb]⟩

/-! ## STOP on one axis (R73, R89) -/

theorem stopAxis_of_running (runs : running s a = true) : stopAxis a s = stopRunning a s := if_pos runs

theorem stopAxis_of_yielded (free : running s a = false) (waits : yielded s a = true) :
    stopAxis a s = endYielded a .cancelled s := by
  unfold stopAxis
  rw [if_neg (by simp [free]), if_pos waits]

theorem stopAxis_of_pending (free : running s a = false) (rests : yielded s a = false) :
    stopAxis a s = dropRequest a .cancelled s := by
  unfold stopAxis
  rw [if_neg (by simp [free]), if_neg (by simp [rests])]

theorem stopRunning_of_homing (homing : (s.axis a).state = .homing) :
    stopRunning a s = finishLost a .cancelled s := by
  unfold stopRunning
  rw [homing]

theorem stopRunning_of_ramp (moving : (s.axis a).state = .moving) (ramp : (s.axis a).phase = some .stopRamp) :
    stopRunning a s = s.setAxis a { s.axis a with endAction := some .cancel } := by
  unfold stopRunning
  rw [moving, ramp]

theorem stopRunning_of_dwell {p : Int} (moving : (s.axis a).state = .moving)
    (dwell : (s.axis a).phase = some .reverse) (known : (s.axis a).position = some p) :
    stopRunning a s = finishIdle a .cancelled p s := by
  unfold stopRunning
  rw [moving, dwell, known]

theorem stopRunning_of_leg {p : Int} (moving : (s.axis a).state = .moving)
    (leg : (s.axis a).phase = some .travel ∨ (s.axis a).phase = some .overshootReturn)
    (known : (s.axis a).position = some p) : stopRunning a s = startRamp a .cancel s := by
  unfold stopRunning
  rcases leg with leg | leg <;> rw [moving, leg, known]

theorem rampLength_ne_zero {p e : Int} (h : p ≠ e) : rampLength p e ≠ 0 := by
  unfold rampLength
  omega

/-- A stop ramp of some steps is entered (R70). -/
theorem startRamp_of_steps {p : Int} (known : (s.axis a).position = some p) (away : p ≠ (s.axis a).legEnd)
    (e : EndAction) : startRamp a e s =
      s.setAxis a ((s.axis a).ramping e (rampLength p (s.axis a).legEnd)) := by
  rw [startRamp_eq known]
  refine if_neg fun ⟨_, empty⟩ => rampLength_ne_zero away ?_
  rw [State.setAxis_axis_self] at empty
  exact empty

/-! ## The command -/

theorem exec_stop {p : Port} {x : Byte} (awake : s.inReset = false) (port : p = .m ∨ p = .s)
    (low : x.toNat < 16) : exec (.stop p [x]) s =
      .next (respond p 0x22 (answerOk []) (stopNow (axesOfSet x) (shiftOut p 3 s))) := by
  have permitted : cmdPermitted .stop p = true := by rcases port with rfl | rfl <;> rfl
  exact (exec_next _ s).trans
    (congrArg _ (takeCommand_of_accepted awake permitted rfl (axisSetOfByte_of_lt low)))

theorem occasionIf_of_nonePending (h : NonePending t) : occasionIf s t = t := by
  unfold occasionIf
  split
  · rfl
  · exact grantOccasion_of_nonePending h none

theorem occasionIf_of_setAxis {r : AxisRecord} (slot : r.slot = (s.axis a).slot) :
    occasionIf s (s.setAxis a r) = s.setAxis a r :=
  if_pos ⟨(setAxis_only s a r).holders (by rw [State.setAxis_axis_self, slot]), rfl⟩

theorem stopNow_of_one (one : ∀ b, axes.get b = decide (b = a)) (dead : liveMember s a = false) :
    stopNow axes s = occasionIf s (stopAxis a s) := by
  unfold stopNow
  rw [endGroupFor_of_dead _ (dead_of_one one dead), forAxes_of_one one]

/-- STOP changes nothing on axes that neither run nor wait (R89). -/
theorem stopNow_of_idle (idle : ∀ b, axes.get b = true → running s b = false ∧ yielded s b = false ∧
    s.msc.pending.get b = none ∧ liveMember s b = false) : stopNow axes s = s := by
  have same : forAxes axes stopAxis s = s := forAxes_of_idle fun b named => by
    obtain ⟨free, rests, empty, -⟩ := idle b named
    rw [stopAxis_of_pending free rests, dropRequest_of_none empty]
  unfold stopNow
  rw [endGroupFor_of_dead _ fun b named => (idle b named).2.2.2, same]
  exact if_pos ⟨rfl, rfl⟩

/-- A stop that leaves the axis its slot is no occasion. -/
theorem stopNow_of_setAxis {r : AxisRecord} (one : ∀ b, axes.get b = decide (b = a))
    (dead : liveMember s a = false) (row : stopAxis a s = s.setAxis a r) (slot : r.slot = (s.axis a).slot) :
    stopNow axes s = s.setAxis a r := by
  rw [stopNow_of_one one dead, row]
  exact occasionIf_of_setAxis slot

/-- A stop that ends the request in force grants nothing where nothing waits. -/
theorem stopNow_of_ended {r : AxisRecord} {o : MoveOutcome} {f : Option Int}
    (one : ∀ b, axes.get b = decide (b = a)) (dead : liveMember s a = false) (none : NonePending s)
    (ended : Ended a r o f s (stopAxis a s)) : Ended a r o f s (stopNow axes s) := by
  rwa [stopNow_of_one one dead, occasionIf_of_nonePending (ended.nonePending none)]

/-- What alone waits leaves the list at a stop of its axis. -/
theorem stopAxis_nonePending {q : Request} (free : running s a = false)
    (waits : s.msc.pending.get a = some q) (alone : ∀ b, b ≠ a → s.msc.pending.get b = none) :
    NonePending (stopAxis a s) := by
  have left : (stopAxis a s).msc.pending.get a = none ∧
      ∀ b, b ≠ a → ((stopAxis a s).msc.pending.get b).isNone = (s.msc.pending.get b).isNone := by
    cases remains : yielded s a with
    | true =>
      rw [stopAxis_of_yielded free remains]
      exact endYielded_gone a .cancelled s
    | false =>
      rw [stopAxis_of_pending free remains]
      have dropped := dropRequest_dropped waits .cancelled
      exact ⟨dropped.gone, dropped.others⟩
  obtain ⟨gone, others⟩ := left
  intro b
  by_cases same : b = a
  · rw [same, gone]
  · have rest := others b same
    rw [alone b same] at rest
    exact Option.isNone_iff_eq_none.mp rest

theorem stopNow_of_waiting {q : Request} (one : ∀ b, axes.get b = decide (b = a))
    (dead : liveMember s a = false) (free : running s a = false) (waits : s.msc.pending.get a = some q)
    (alone : ∀ b, b ≠ a → s.msc.pending.get b = none) : stopNow axes s = stopAxis a s := by
  rw [stopNow_of_one one dead, occasionIf_of_nonePending (stopAxis_nonePending free waits alone)]

/-- Settles O44: an empty effect, then by the state and the phase of a running axis, then what waits. -/
theorem stopRampsMovesAndCancelsHomings : Obligations.StopRampsMovesAndCancelsHomings := by
  intro p x s awake port low
  set u := shiftOut p 3 s
  have frame : Unchanged [.attention, .scn, .ldu, .msc, .fdt, .geo, .bkm] u (stopNow (axesOfSet x) u) :=
    stopNow_keeps (lens_frame u) (axesOfSet x) (.refl _ _)
  have ramps : ∀ a r, stopNow (axesOfSet x) u = u.setAxis a r →
      Unchanged [.ports, .ldu] s (respond p 0x22 (answerOk []) (stopNow (axesOfSet x) u)) ∧
        OnlyAxes [a] s (respond p 0x22 (answerOk []) (stopNow (axesOfSet x) u)) ∧
        (respond p 0x22 (answerOk []) (stopNow (axesOfSet x) u)).axis a = r := fun a r row => by
    obtain ⟨ldu, only, axis⟩ := setAxis_after u a r
    rw [row]
    exact ⟨ldu.taken 0x22 (answerOk []), only, axis⟩
  refine ⟨_, exec_stop awake port low, respond_answered p 0x22 [x] (answerOk []) (frame .ports (by simp)),
    fun idle => ?_, fun a n one runs dead moving known away leg => ?_, fun a one runs dead homing none => ?_,
    fun a one runs dead moving ramp => ?_, fun a n one runs dead moving dwell known none => ?_,
    fun a q one free dead waits own alone => ?_⟩
  · rw [stopNow_of_idle (s := u) fun b named => idle b (by rwa [← axesOfSet_get])]
    exact (Unchanged.refl [] u).taken 0x22 (answerOk [])
  · have row : stopAxis a u = u.setAxis a ((u.axis a).ramping .cancel (rampLength n (u.axis a).legEnd)) :=
      (stopAxis_of_running (s := u) runs).trans ((stopRunning_of_leg (s := u) moving leg known).trans
        (startRamp_of_steps (s := u) known away .cancel))
    exact ramps a _ (stopNow_of_setAxis (s := u) (axesOfSet_of_one one) dead row rfl)
  · have lost := finishLost_ended a .cancelled u
    rw [← stopRunning_of_homing (s := u) homing, ← stopAxis_of_running (s := u) runs] at lost
    obtain ⟨axis, only, last, -⟩ := stopNow_of_ended (s := u) (axesOfSet_of_one one) dead none lost
    have record : (respond p 0x22 (answerOk []) (stopNow (axesOfSet x) u)).axis a = (u.axis a).becomeLost := axis
    rw [record]
    exact ⟨only, rfl, rfl, rfl, rfl, last⟩
  · have row : stopAxis a u = u.setAxis a { u.axis a with endAction := some .cancel } :=
      (stopAxis_of_running (s := u) runs).trans (stopRunning_of_ramp (s := u) moving ramp)
    exact ramps a _ (stopNow_of_setAxis (s := u) (axesOfSet_of_one one) dead row rfl)
  · have rests := finishIdle_ended a .cancelled n u
    rw [← stopRunning_of_dwell (s := u) moving dwell known, ← stopAxis_of_running (s := u) runs] at rests
    obtain ⟨axis, only, last, -⟩ := stopNow_of_ended (s := u) (axesOfSet_of_one one) dead none rests
    exact ⟨only, axis, last⟩
  · rw [stopNow_of_waiting (s := u) (axesOfSet_of_one one) dead free waits alone]
    refine ⟨stopAxis_nonePending (s := u) free waits alone, fun rests => ?_,
      fun n remains moving known => ?_⟩
    · have dropped := dropRequest_dropped (s := u) waits .cancelled
      rw [stopAxis_of_pending (s := u) free rests]
      have last := dropped.last
      rw [own] at last
      exact ⟨dropped.ldu, last⟩
    · have ended := endYielded_ended (s := u) known .cancelled
      rw [stopAxis_of_yielded (s := u) free remains]
      exact ⟨ended.only, ended.axis, ended.last⟩

end Sys2Proof.Machine
end

section
/-! SUPPORT. What one grant does: which record is selected, and what LDU makes of a HOME and of a move. -/

namespace Sys2Proof.Machine

variable {s t u : State} {a : Axis}

/-! ## The selection among one or more (R92, R93) -/

theorem exists_oldest {l : List Axis} {b : Axis} (h : b ∈ l) : ∃ c, oldest s l = some c := by
  cases l with
  | nil => cases h
  | cons x rest =>
    unfold oldest
    split
    · exact ⟨_, rfl⟩
    · split <;> exact ⟨_, rfl⟩

/-- Where some axis is admitted one is selected. -/
theorem exists_selectAmong {allowed : Axis → Bool} {b : Axis} (h : allowed b = true) :
    ∃ c, selectAmong s allowed = some c := by
  unfold selectAmong
  split
  · exact Option.isSome_iff_exists.mp (List.find?_isSome.mpr ⟨b, mem_ringFrom _ b, h⟩)
  · exact exists_oldest (List.mem_filter.mpr ⟨mem_allAxes b, h⟩)

/-- With an eligible record an occasion without an axis passed over selects one. -/
theorem exists_selectGrant {b : Axis} (h : axisEligible s b = true) : ∃ c, selectGrant s none = some c := by
  obtain ⟨c, selected⟩ := exists_selectAmong (s := s)
    (allowed := fun b => axisEligible s b && none != some b) (b := b) (by simp [h])
  refine ⟨c, ?_⟩
  rw [selectGrant, selected]

/-- The axis that has just yielded is passed over for the one other eligible record (R93). -/
theorem selectGrant_of_passed {b : Axis} (other : a ≠ b) (mine : axisEligible s b = true)
    (rest : ∀ c, c ≠ a → c ≠ b → axisEligible s c = false) : selectGrant s (some a) = some b := by
  obtain ⟨c, selected⟩ := exists_selectAmong (s := s)
    (allowed := fun b => axisEligible s b && some a != some b) (b := b) (by simp [mine, other])
  have both := allowed_of_selectAmong selected
  rw [Bool.and_eq_true, bne_iff_ne, ne_eq, Option.some.injEq] at both
  obtain ⟨eligible, away⟩ := both
  have same : c = b := by
    by_contra differs
    rw [rest c (Ne.symm away) differs] at eligible
    cases eligible
  rw [selectGrant, selected, same]

/-! ## What LDU makes of a grant (R66, R76) -/

theorem lduGrant_of_home {q : Request} (h : q.kind = .home) (d : DriveSlot) :
    lduGrant a q d s = grantHome a q d s := by
  unfold lduGrant
  rw [h]

theorem lduGrant_of_move {q : Request} {p : Int} (h : q.kind ≠ .home)
    (known : (s.axis a).position = some p) (d : DriveSlot) :
    lduGrant a q d s = grantMove a q p d s := by
  unfold lduGrant
  rw [known]
  cases kind : q.kind with
  | home => exact absurd kind h
  | absolute v => rfl
  | relative v => rfl

/-- The record of an axis that takes over a granted move from where it stands. -/
def grantedTo (s : State) (a : Axis) (q : Request) (p : Int) : AxisRecord :=
  (s.axis a).granted q (some (goalFrom s a p q.kind)) (some p)

theorem grantMove_of_watched {q : Request} {p : Int} (h : q.kind ≠ .home)
    (watched : (s.axis a).switch = true ∧ 200 < p) (d : DriveSlot) :
    grantMove a q p d s = finishLost a .limitHit (s.setAxis a (grantedTo s a q p)) := by
  have watched : (s.axis a).switch = true ∧ homeWindow < p := watched
  unfold grantMove
  dsimp only
  rw [resolve_eq s a p q.kind h, if_pos watched]
  rfl

theorem grantMove_of_reached {q : Request} {p : Int} (h : q.kind ≠ .home)
    (free : ¬((s.axis a).switch = true ∧ 200 < p)) (reached : goalFrom s a p q.kind = p) (d : DriveSlot) :
    grantMove a q p d s = finishIdle a .done p (s.setAxis a (grantedTo s a q p)) := by
  have free : ¬((s.axis a).switch = true ∧ homeWindow < p) := free
  unfold grantMove
  dsimp only
  rw [resolve_eq s a p q.kind h, if_neg free, if_pos reached]
  rfl

theorem grantMove_of_plan {q : Request} {p : Int} {x : Plan} (h : q.kind ≠ .home)
    (free : ¬((s.axis a).switch = true ∧ 200 < p)) (away : goalFrom s a p q.kind ≠ p)
    (plan : planFrom p (goalFrom s a p q.kind) (axisBacklash s a) (s.axis a).lastStep = some x)
    (d : DriveSlot) : grantMove a q p d s = markMotion (s.setAxis a (AxisRecord.beginPlan
      { (grantedTo s a q p).holding d with state := .moving, rate := some (axisRate s a) } x)) := by
  have free : ¬((s.axis a).switch = true ∧ homeWindow < p) := free
  unfold grantMove
  dsimp only
  rw [resolve_eq s a p q.kind h, if_neg free, if_neg away,
    startMove_of_plan (x := x) (by rw [State.setAxis_axis_self]; exact plan), setAxis_setAxis,
    State.setAxis_axis_self]
  rfl

/-- A grant leaves the pointer and what else waits as the hand-over left them. -/
theorem lduGrant_msc (a : Axis) (q : Request) (d : DriveSlot) (s : State) :
    (lduGrant a q d s).msc.favoured = s.msc.favoured ∧
      ∀ b, ((lduGrant a q d s).msc.pending.get b).isNone = (s.msc.pending.get b).isNone := by
  have ends : ∀ {x r o f t}, Ended a r o f (s.setAxis a x) t → t.msc.favoured = s.msc.favoured ∧
      ∀ b, (t.msc.pending.get b).isNone = (s.msc.pending.get b).isNone := fun ended =>
    ⟨ended.favoured, ended.pending⟩
  unfold lduGrant
  split
  · exact ⟨rfl, fun _ => rfl⟩
  · unfold grantMove
    dsimp only
    split
    · exact ends (finishLost_ended a .limitHit _)
    · split
      · exact ends (finishIdle_ended a .done _ _)
      · rw [(startMove_frame a _ _ d _ .msc (by simp) : (startMove a _ _ d _).msc = _)]
        exact ⟨rfl, fun _ => rfl⟩
  · exact ends (finishLost_ended a .limitHit _)

theorem grantOne_nonePending {q : Request} (waits : s.msc.pending.get a = some q)
    (alone : ∀ b, b ≠ a → s.msc.pending.get b = none) (d : DriveSlot) :
    NonePending (grantOne a d s) := fun b => by
  obtain ⟨x, handed, pending, -⟩ := handedOver_eq a q s
  rw [grantOne_eq waits, handed, ← Option.isNone_iff_eq_none, (lduGrant_msc a q d _).2, State.withMsc_msc,
    pending, Option.isNone_iff_eq_none]
  by_cases same : b = a
  · rw [same]
    exact PerAxis.get_set_self _ _ _
  · rw [PerAxis.get_set_of_ne _ _ same]
    exact alone b same

theorem grantOne_favoured {q : Request} (waits : s.msc.pending.get a = some q) (d : DriveSlot) :
    (grantOne a d s).msc.favoured = nextAxis a := by
  obtain ⟨x, handed, -, favoured, -⟩ := handedOver_eq a q s
  rw [grantOne_eq waits, handed, (lduGrant_msc a q d _).1, State.withMsc_msc, favoured]

theorem slotCount_pos (s : State) : 1 ≤ slotCount s := by
  unfold slotCount
  split <;> decide

/-- With nothing running, what alone waits is granted slot 0, and no more (R63, R91). -/
theorem grantOccasion_of_alone {q : Request} (still : ∀ b, running s b = false)
    (waits : s.msc.pending.get a = some q) (alone : ∀ b, b ≠ a → s.msc.pending.get b = none)
    (eligible : Eligible s q) : grantOccasion none s = grantOne a .slot0 s := by
  have selected : selectGrant s none = some a := selectGrant_of_turn waits eligible fun c r other also =>
    absurd also (by simp [alone c other])
  have slots := slotCount_pos s
  unfold grantOccasion
  rw [grantLoop, if_neg (by rw [runningCount_eq_zero still]; omega), selected, freeSlot_of_still still]
  exact grantLoop_of_nonePending (grantOne_nonePending waits alone .slot0) none 3

end Sys2Proof.Machine
end

section
/-! MOVE for an axis at rest. The request joins the list and the occasion after it either finds every slot in
use or, with nothing running, grants it at once. -/

namespace Sys2Proof.Machine

variable {s t u : State} {a : Axis}

/-! ## Placing on an axis that neither runs nor waits (R88) -/

/-- The request of a command has joined the list with the next stamp. -/
def queued (n : NewRequest) (s : State) : State :=
  setRequest n.axis (some (stamped n s.msc.nextStamp)) (nextStamp s)

theorem place_of_running {n : NewRequest} (runs : running s n.axis = true) :
    place n s = passToRunning (stamped n s.msc.nextStamp) (nextStamp s) := if_pos runs

theorem place_of_waiting {n : NewRequest} (free : running s n.axis = false) : place n s =
    setRequest n.axis (some (stamped n s.msc.nextStamp)) (supersedePending n.axis (nextStamp s)) := by
  unfold place
  dsimp only
  exact if_neg (by rw [show running (nextStamp s) n.axis = false from free]; decide)

theorem supersedePending_of_none (rests : yielded s a = false) (empty : s.msc.pending.get a = none) :
    supersedePending a s = s := by
  unfold supersedePending
  rw [if_neg (by simp [rests]), dropRequest_of_none empty]

theorem place_of_idle {n : NewRequest} (free : running s n.axis = false)
    (rests : yielded s n.axis = false) (empty : s.msc.pending.get n.axis = none) :
    place n s = queued n s := by
  rw [place_of_waiting free, supersedePending_of_none (s := nextStamp s) rests empty]
  rfl

theorem queued_pending (n : NewRequest) (s : State) :
    (queued n s).msc.pending.get n.axis = some (stamped n s.msc.nextStamp) := PerAxis.get_set_self _ _ _

theorem queued_pending_of_ne (n : NewRequest) {b : Axis} (h : b ≠ n.axis) (s : State) :
    (queued n s).msc.pending.get b = s.msc.pending.get b := PerAxis.get_set_of_ne _ _ h

theorem queued_frame (n : NewRequest) (s : State) : Unchanged [.msc] s (queued n s) :=
  (withMsc_frame s _).trans (withMsc_frame _ _)

/-! ## The command (R86) -/

theorem parseMove_length {d : List Byte} {x : MoveOperands} (parsed : parseMove d = some x) :
    d.length = 7 := by
  unfold parseMove at parsed
  split at parsed
  · rfl
  · cases parsed

theorem exec_move {d : List Byte} {x : MoveOperands} (awake : s.inReset = false)
    (parsed : parseMove d = some x) : exec (.move .m d) s =
      .next (respond .m 0x20 (moveNow .m x (shiftOut .m (d.length + 2) s)).2
        (moveNow .m x (shiftOut .m (d.length + 2) s)).1) := by
  have length : cmdLengthOk .move d.length = true := by
    rw [parseMove_length parsed]
    rfl
  exact (exec_next _ s).trans (congrArg _ (takeCommand_of_accepted awake rfl length parsed))

theorem onlyAxis_get (a b : Axis) : (onlyAxis a).get b = decide (b = a) := by
  cases a <;> cases b <;> rfl

theorem moveNow_of_accepted {p : Port} {x : MoveOperands} (follow : x.follow ≠ some x.axis)
    (target : ∀ v, x.kind = .absolute v → 0 ≤ v) (power : s.lps.power ≠ .off)
    (known : positionKnown s x.axis = true) (dead : liveMember s x.axis = false) :
    moveNow p x s = (grantOccasion none (place (moveRequest p x) s), answerOk []) := by
  have inRange : negativeTarget x.kind = false := by
    unfold negativeTarget
    split
    · rename_i v kind
      simp [target v kind]
    · rfl
  have passes : moveRefusal s x = none := by
    unfold moveRefusal
    rw [if_neg (by simp [follow, inRange]), if_neg power, if_pos known]
  unfold moveNow
  rw [passes]
  unfold acceptMove
  rw [endGroupFor_of_dead _ (dead_of_one (onlyAxis_get x.axis) dead)]

/-! ## The grant at once (R66) -/

theorem normalTemp_of_scn (h : t.scn = s.scn) (c : Channel) : normalTemp t c = normalTemp s c := by
  unfold normalTemp shownOf State.channel
  rw [h]

/-- A user focus move that ends DONE anchors the tracker at the temperature presented now (R106). -/
theorem recordEnd_userFocus {e : MoveEnd} (source : e.source = some .m) (done : e.outcome = .done)
    (target : e.target.isSome = true) (s : State) :
    (recordEnd .fc e s).fdt.anchor = normalTemp s .lns ∧ (recordEnd .fc e s).fdt.correction = 0 := by
  obtain ⟨goal, target⟩ := Option.isSome_iff_exists.mp target
  have told : tellFocus .fc e (endTold .fc e s) = userAnchor (endTold .fc e s) := by
    unfold tellFocus focusEnd
    rw [if_pos rfl, source, done, target]
  have scn : (endTold .fc e s).scn = s.scn :=
    (((withMsc_frame s _).weaken (m := [.attention, .msc]) (by simp)).trans
      (((raiseOnIssuer_frame _ _ _).weaken (by simp)).trans (tellGroup_step .fc e _).frame)) .scn (by simp)
  have fdt : (recordEnd .fc e s).fdt = (userAnchor (endTold .fc e s)).fdt := by
    rw [← told]
    exact geoMoveEnd_frame .fc (homedBy e) e.final _ .fdt (by simp)
  rw [fdt, ← normalTemp_of_scn scn]
  exact ⟨rfl, rfl⟩

theorem grantOne_of_plain {q : Request} (waits : s.msc.pending.get a = some q)
    (plain : q.book.member = false) (d : DriveSlot) : grantOne a d s = lduGrant a q d (s.withMsc
      { s.msc with pending := s.msc.pending.set a none, favoured := nextAxis a,
                   inForce := s.msc.inForce.set a (some q.book) }) := by
  rw [grantOne_eq waits, handedOver]
  exact congrArg _ (if_neg (by simp [plain]))

end Sys2Proof.Machine
end

section
/-! MOVE for an axis at rest: the row. -/

namespace Sys2Proof.Machine

variable {s : State}

/-- The state in which MSC has handed a request to LDU and LDU has not acted. -/
def handedTo (a : Axis) (q : Request) (s : State) : State :=
  s.withMsc { s.msc with pending := s.msc.pending.set a none, favoured := nextAxis a,
                         inForce := s.msc.inForce.set a (some q.book) }

/-- The path that a granted move begins with (R67). -/
theorem planFrom_granted {p goal : Int} (away : goal ≠ p) (b : Int) (d : Direction) :
    planFrom p goal b d = some
      ⟨if p < goal then .positive else .negative, if p < goal then goal else max 0 (goal - b),
        if p < goal then goal - p else (p - max 0 (goal - b)) + (goal - max 0 (goal - b))⟩ := by
  by_cases below : p < goal
  · rw [planFrom_of_lt below]
    simp only [below, if_true]
  · have steps : planFrom p goal b d ≠ none := by
      rw [ne_eq, planFrom_eq_none_iff]
      exact fun still => away still.1.symm
    rw [planFrom_of_loop (by omega) steps]
    simp only [below, if_false]
    rfl

theorem positionKnown_iff (s : State) (a : Axis) :
    positionKnown s a = true ↔ (s.axis a).state = .idle ∨ (s.axis a).state = .moving := by
  simp [positionKnown]

theorem finishIdle_userFocus {a : Axis} (focus : a = .fc) (source : (s.axis a).source = some .m)
    (target : (s.axis a).target.isSome = true) (p : Int) :
    (finishIdle a .done p s).fdt.anchor = normalTemp s .lns ∧ (finishIdle a .done p s).fdt.correction = 0 := by
  subst focus
  exact recordEnd_userFocus (e := endOfForce (s.axis .fc) (bookOf s .fc) .done (some p)) source rfl target _

theorem facing_ascending (r : AxisRecord) (p goal : Int) :
    r.facing (if p < goal then .positive else .negative) =
      { r with direction := if p < goal then .positive else .negative, dirHigh := decide (p < goal) } := by
  unfold AxisRecord.facing
  by_cases below : p < goal <;> simp [below]

/-- Settles O42: with every slot in use the request waits; alone in the list it is handed to LDU, which finds
the switch asserted beyond the home window, the target reached, or a path. -/
theorem moveOfAnIdleAxisWaitsOrIsGranted : Obligations.MoveOfAnIdleAxisWaitsOrIsGranted := by
  intro d x p s awake parsed follow target power idle known free rests empty dead a book goal approach
  set u := shiftOut .m (d.length + 2) s
  set n := moveRequest .m x
  set q := stamped n u.msc.nextStamp
  have kind : q.kind ≠ .home := parseMove_kind parsed
  have accepted : moveNow .m x u = (grantOccasion none (queued n u), answerOk []) := by
    rw [moveNow_of_accepted (s := u) follow target power
      ((positionKnown_iff u a).mpr (.inl idle)) dead, place_of_idle (s := u) (n := n) free rests empty]
  refine ⟨_, exec_move awake parsed, fun full => ?_, fun still none => ?_⟩ <;> rw [accepted]
  · rw [grantOccasion_of_full (s := queued n u) full]
    exact ⟨(queued_frame n u).taken 0x20 (answerOk []), rfl⟩
  have waits : (queued n u).msc.pending.get a = some q := queued_pending n u
  have alone : ∀ b, b ≠ a → (queued n u).msc.pending.get b = Option.none := fun b other => by
    rw [queued_pending_of_ne n other]
    exact none b
  have eligible : Eligible (queued n u) q := by
    refine ⟨free, fun f follows => ⟨still f, alone f ?_⟩, fun drift => by cases drift⟩
    rintro rfl
    exact follow follows
  have granted : grantOccasion Option.none (queued n u) = grantOne a .slot0 (queued n u) :=
    grantOccasion_of_alone (s := queued n u) still waits alone eligible
  have handed : grantOne a .slot0 (queued n u) = grantMove a q p .slot0 (handedTo a q (queued n u)) :=
    (grantOne_of_plain waits rfl .slot0).trans (lduGrant_of_move (s := handedTo a q (queued n u)) kind known _)
  set v := handedTo a q (queued n u)
  have inForce : v.msc.inForce.get a = some q.book := PerAxis.get_set_self _ _ _
  rw [granted]
  refine ⟨⟨grantOne_favoured waits .slot0, grantOne_nonePending waits alone .slot0,
    grantOne_axes a .slot0 (queued n u)⟩, fun on beyond => ?_, fun unwatched reached => ?_,
    fun unwatched away => ?_⟩ <;> rw [handed]
  · rw [grantMove_of_watched (s := v) kind ⟨on, beyond⟩]
    have lost := finishLost_ended a .limitHit (v.setAxis a (grantedTo v a q p))
    obtain ⟨cause, -⟩ := finishForce_move (s := v.setAxis a (grantedTo v a q p)) inForce rfl
      ((v.setAxis a (grantedTo v a q p)).axis a).becomeLost .limitHit Option.none
    have last := lost.last
    rw [State.setAxis_axis_self] at last
    have record := lost.axis
    refine ⟨?_, ?_, ?_, last, cause rfl⟩ <;> exact congrArg _ record
  · rw [grantMove_of_reached (s := v) kind unwatched reached]
    have done := finishIdle_ended a .done p (v.setAxis a (grantedTo v a q p))
    obtain ⟨cause, -⟩ := finishForce_move (s := v.setAxis a (grantedTo v a q p)) inForce rfl
      (((v.setAxis a (grantedTo v a q p)).axis a).idleAt
        (axisMaximum (v.setAxis a (grantedTo v a q p)) a) p) .done (some p)
    have last := done.last
    rw [State.setAxis_axis_self] at last
    have record := done.axis
    refine ⟨?_, ?_, ?_, last, cause rfl, fun focus => ?_⟩
    · exact congrArg AxisRecord.state record
    · exact congrArg AxisRecord.position record
    · exact congrArg AxisRecord.slot record
    · exact finishIdle_userFocus (s := v.setAxis a (grantedTo v a q p)) focus
        (by rw [State.setAxis_axis_self]; rfl) (by rw [State.setAxis_axis_self]; rfl) p
  · rw [grantMove_of_plan (s := v) kind unwatched away (planFrom_granted away _ _), AxisRecord.beginPlan,
      facing_ascending]
    have frame : ∀ r, Unchanged [.ldu, .msc, .scn] u (markMotion (v.setAxis a r)) := fun r =>
      ((((queued_frame n u).trans (withMsc_frame _ _)).weaken (by simp)).trans
        ((setAxis_frame _ _ _).weaken (by simp))).trans ((withScn_frame _ _).weaken (by simp))
    exact ⟨(frame _).taken 0x20 (answerOk []), rfl, inForce, State.setAxis_axis_self _ _ _⟩

end Sys2Proof.Machine
end

section
/-! HOME on one axis: passed to a running axis, in the place of what waits, or begun at once. -/

namespace Sys2Proof.Machine

variable {s t : State} {a : Axis}

/-! ## The command (R87) -/

theorem exec_home {x g : Byte} (awake : s.inReset = false) (low : x.toNat < 16) :
    exec (.home .m [x, g]) s = .next (respond .m 0x21 (homeNow .m (axesOfSet x) g (shiftOut .m 4 s)).2
      (homeNow .m (axesOfSet x) g (shiftOut .m 4 s)).1) := by
  have parsed : parseHome [x, g] = some (axesOfSet x, g) :=
    congrArg (Option.map (·, g)) (axisSetOfByte_of_lt low)
  exact (exec_next _ s).trans (congrArg _ (takeCommand_of_accepted awake rfl rfl parsed))

theorem homeNow_of_off {p : Port} {axes : PerAxis Bool} {g : Byte} (off : s.lps.power = .off) :
    homeNow p axes g s = (s, refuse .noPower) := if_pos off

theorem homeNow_of_none {p : Port} {g : Byte} (power : s.lps.power ≠ .off) :
    homeNow p (.same false) g s = (s, answerOk []) := by
  unfold homeNow
  rw [if_neg power]
  exact congrArg (·, answerOk []) (if_pos rfl)

/-- A HOME of a set whose members have ended places its requests and leads to an occasion. -/
theorem homeNow_of_set {p : Port} {axes : PerAxis Bool} {g : Byte} (power : s.lps.power ≠ .off)
    (named : axes ≠ .same false) (dead : ∀ b, axes.get b = true → liveMember s b = false) :
    homeNow p axes g s = (grantOccasion none (forAxes axes (fun a => place (homeRequest p g a)) s),
      answerOk []) := by
  unfold homeNow acceptHome
  rw [if_neg power, if_neg named, endGroupFor_of_dead _ dead]

theorem homeNow_of_one {p : Port} {axes : PerAxis Bool} {g : Byte} (power : s.lps.power ≠ .off)
    (one : ∀ b, axes.get b = decide (b = a)) (dead : liveMember s a = false) :
    homeNow p axes g s = (grantOccasion none (place (homeRequest p g a) s), answerOk []) := by
  have present : axes ≠ .same false := by
    rintro rfl
    have mine := one a
    cases a <;> cases mine
  rw [homeNow_of_set power present (dead_of_one one dead), forAxes_of_one one]

/-! ## A HOME that is granted (R76) -/

/-- The record of an axis whose granted homing begins with slot `d`. -/
def homingBegun (s : State) (a : Axis) (q : Request) (d : DriveSlot) : AxisRecord :=
  (((s.axis a).granted q none none).holding d).enterHoming.firstStage (homingLimit s a)

theorem grantOne_of_home {q : Request} (waits : s.msc.pending.get a = some q) (home : q.kind = .home)
    (plain : q.book.member = false) (d : DriveSlot) :
    grantOne a d s = markMotion ((handedTo a q s).setAxis a (homingBegun s a q d)) :=
  (grantOne_of_plain waits plain d).trans (lduGrant_of_home (s := handedTo a q s) home d)

/-! ## A request that takes over from the one in force (R71, R72, R75, R88) -/

/-- The request in force on an axis has been replaced: the record, the last result of the old request, the
new one in force, and no other axis nor what waits changed. -/
structure Replaced (a : Axis) (r : AxisRecord) (b : Book) (f : Option Int) (s t : State) : Prop where
  axis : t.axis a = r
  only : OnlyAxes [a] s t
  inForce : t.msc.inForce.get a = some b
  last : t.msc.last.get a = ⟨(s.axis a).tag, (s.axis a).source, some .superseded, f⟩
  pending : ∀ b, (t.msc.pending.get b).isNone = (s.msc.pending.get b).isNone

theorem replaceForce_replaced (a : Axis) (r : AxisRecord) (b : Book) (f : Option Int) (s : State) :
    Replaced a r b f s (replaceForce a r b f s) := by
  set e := endOfForce (s.axis a) (bookOf s a) .superseded f
  have axes : ∀ c, (replaceForce a r b f s).axis c = (s.setAxis a r).axis c := fun c => by
    have ldu : (replaceForce a r b f s).ldu = (s.setAxis a r).ldu := recordEnd_ldu a e _
    unfold State.axis
    rw [ldu]
  obtain ⟨last, -, pending⟩ := recordEnd_msc a e (s.setAxis a r)
  refine ⟨(axes a).trans (State.setAxis_axis_self s a r), fun c hc => (axes c).trans (setAxis_only s a r c hc),
    PerAxis.get_set_self _ _ _, ?_, pending⟩
  have same : (replaceForce a r b f s).msc.last = (recordEnd a e (s.setAxis a r)).msc.last := rfl
  rw [same, last, PerAxis.get_set_self]
  rfl

theorem Replaced.nonePending {r : AxisRecord} {b : Book} {f : Option Int} (h : Replaced a r b f s t)
    (none : NonePending s) : NonePending t := fun b => by
  have same := h.pending b
  rw [none b] at same
  exact Option.isNone_iff_eq_none.mp same

/-- The record of an axis whose request in force has made way for a HOME. -/
def homeTaken (s : State) (a : Axis) (q : Request) : AxisRecord := (s.axis a).takingOver q none none

theorem passHome_of_homing {q : Request} (homing : (s.axis a).state = .homing) :
    passHome a q s = replaceForce a (homeTaken s a q) q.book none s := by
  unfold passHome
  rw [homing]
  rfl

theorem passHome_of_ramp {q : Request} (moving : (s.axis a).state = .moving)
    (ramp : (s.axis a).phase = some .stopRamp) : passHome a q s =
      replaceForce a { homeTaken s a q with endAction := some .home } q.book (s.axis a).position s := by
  unfold passHome
  rw [moving, ramp]
  rfl

theorem passHome_of_dwell {q : Request} (moving : (s.axis a).state = .moving)
    (dwell : (s.axis a).phase = some .reverse) : passHome a q s =
      replaceForce a { homeTaken s a q with dwell := some .homing } q.book (s.axis a).position s := by
  unfold passHome
  rw [moving, dwell]
  rfl

/-- Away from the end of its leg the axis enters a stop ramp that leads to the homing (R72). -/
theorem passHome_of_leg {q : Request} {p : Int} (moving : (s.axis a).state = .moving)
    (leg : (s.axis a).phase = some .travel ∨ (s.axis a).phase = some .overshootReturn)
    (known : (s.axis a).position = some p) (away : p ≠ (s.axis a).legEnd) : passHome a q s =
      replaceForce a ((homeTaken s a q).ramping .home (rampLength p (s.axis a).legEnd)) q.book (some p) s := by
  have row : passHome a q s = endEmptyRamp a (replaceForce a
      ((homeTaken s a q).ramping .home (rampLength p (s.axis a).legEnd)) q.book (some p) s) := by
    unfold passHome
    rcases leg with leg | leg <;> rw [moving, leg, known] <;> rfl
  rw [row]
  refine if_neg fun ⟨_, empty⟩ => rampLength_ne_zero away ?_
  rw [(replaceForce_replaced a _ q.book (some p) s).axis] at empty
  exact empty

theorem passToRunning_of_home {q : Request} (home : q.kind = .home) (plain : q.book.member = false) :
    passToRunning q s = passHome q.axis q s := by
  unfold passToRunning
  rw [home, if_neg (by simp [plain])]

/-! ## A request in the place of what waits (R74, R88) -/

theorem supersedePending_of_rest (rests : yielded s a = false) :
    supersedePending a s = dropRequest a .superseded s := if_neg (by simp [rests])

theorem supersedePending_of_yielded (remains : yielded s a = true) :
    supersedePending a s = endYielded a .superseded s := if_pos remains

/-- What makes way on an axis that does not run releases no slot. -/
theorem supersedePending_running (free : running s a = false) (b : Axis) :
    running (supersedePending a s) b = running s b := by
  cases remains : yielded s a with
  | false =>
    rw [supersedePending_of_rest remains]
    exact running_of_axis (dropRequest_axis a _ s b)
  | true =>
    rw [supersedePending_of_yielded remains]
    cases known : (s.axis a).position with
    | none =>
      unfold endYielded
      rw [known]
      rfl
    | some p =>
      have ended := endYielded_ended known .superseded
      have slot : (s.axis a).slot = none := by simpa [running] using free
      exact ended.only.running (by rw [ended.axis, slot]; rfl) b

theorem runningCount_congr (h : ∀ b, running t b = running s b) : runningCount t = runningCount s := by
  unfold runningCount
  simp only [h]

/-- With every slot in use the new request waits in the place of the old. -/
theorem grantOccasion_place_of_full {n : NewRequest} (free : running s n.axis = false)
    (full : slotCount s ≤ runningCount s) : grantOccasion none (place n s) = setRequest n.axis
      (some (stamped n s.msc.nextStamp)) (supersedePending n.axis (nextStamp s)) := by
  have count : runningCount (supersedePending n.axis (nextStamp s)) = runningCount s :=
    runningCount_congr (supersedePending_running (s := nextStamp s) free)
  have mode : (supersedePending n.axis (nextStamp s)).afc = s.afc :=
    supersedePending_keeps (lens_frame (nextStamp s)) n.axis (.refl _ _) .afc (by simp)
  rw [place_of_waiting free]
  refine grantOccasion_of_full ?_ none
  show slotCount (supersedePending n.axis (nextStamp s)) ≤
    runningCount (supersedePending n.axis (nextStamp s))
  rw [count, slotCount, mode]
  exact full

end Sys2Proof.Machine
end

section
/-! HOME of a set of axes. The requests join the list in axis order with consecutive stamps; with nothing
running the occasion starts as many homings as there are slots, one slot at a grant. -/

namespace Sys2Proof.Machine

variable {s t u w : State} {a : Axis}

/-! ## The count of running axes (R63) -/

/-- An axis that starts, the others as they were, is one more that runs. -/
theorem runningCount_succ (others : ∀ b, b ≠ a → running t b = running s b) (before : running s a = false)
    (after : running t a = true) : runningCount t = runningCount s + 1 := by
  have parts : ∀ x : State, runningCount x = (if running x .hs = true then 1 else 0) +
      (if running x .vs = true then 1 else 0) + (if running x .zm = true then 1 else 0) +
      (if running x .fc = true then 1 else 0) := fun x => by
    simp only [runningCount, allAxes, ← List.countP_eq_length_filter, List.countP_cons, List.countP_nil]
    omega
  rw [parts s, parts t]
  cases a with
  | hs => rw [others .vs (by decide), others .zm (by decide), others .fc (by decide), before, after]; simp; omega
  | vs => rw [others .hs (by decide), others .zm (by decide), others .fc (by decide), before, after]; simp; omega
  | zm => rw [others .hs (by decide), others .vs (by decide), others .fc (by decide), before, after]; simp; omega
  | fc => rw [others .hs (by decide), others .vs (by decide), others .zm (by decide), before, after]; simp

/-- Two axes that run are two of the count. -/
theorem two_le_runningCount {b c : Axis} (apart : b ≠ c) (hb : running s b = true)
    (hc : running s c = true) : 2 ≤ runningCount s := by
  have both : [b, c] ⊆ allAxes.filter (fun a => running s a) := by
    intro x hx
    refine List.mem_filter.mpr ⟨mem_allAxes x, ?_⟩
    rcases List.mem_pair.mp hx with rfl | rfl
    · exact hb
    · exact hc
  exact (List.subperm_of_subset (by simp [apart]) both).length_le

theorem slotCount_le (s : State) : slotCount s ≤ 2 := by
  unfold slotCount
  split <;> decide

theorem holder_of_slotHeld {d : DriveSlot} (h : slotHeld s d = true) :
    ∃ b, (s.axis b).slot = some d := by
  obtain ⟨b, -, held⟩ := List.any_eq_true.mp h
  exact ⟨b, by simpa using held⟩

/-- While fewer axes run than there are slots, one is free (R63). -/
theorem exists_freeSlot (room : runningCount s < slotCount s) : ∃ d, freeSlot s = some d := by
  unfold freeSlot
  split
  · exact ⟨_, rfl⟩
  · rename_i held0
    split
    · exact ⟨_, rfl⟩
    · rename_i held1
      obtain ⟨b, hb⟩ := holder_of_slotHeld (Bool.not_eq_false _ ▸ held0)
      obtain ⟨c, hc⟩ := holder_of_slotHeld (Bool.not_eq_false _ ▸ held1)
      have apart : b ≠ c := by
        rintro rfl
        cases hb.symm.trans hc
      have two := two_le_runningCount (s := s) apart (by simp [running, hb]) (by simp [running, hc])
      have most := slotCount_le s
      omega

/-! ## The requests join the list (R87) -/

/-- The request of a HOME of Port M with a stamp. -/
def homeAt (g : Byte) (a : Axis) (stamp : Nat) : Request :=
  ⟨a, .home, .held, none, g, .m, ⟨some .m, stamp, false, none⟩⟩

/-- The named axes of a list before one of its axes. -/
def rankIn (l : List Axis) (named : Axis → Bool) (b : Axis) : Nat :=
  ((l.takeWhile (fun c => c != b)).filter named).length

theorem rankIn_allAxes (named : Axis → Bool) (b : Axis) : rankIn allAxes named b =
    (allAxes.filter (fun c => named c && decide (axisNumber c < axisNumber b))).length := by
  have before : allAxes.takeWhile (fun c => c != b) =
      allAxes.filter (fun c => decide (axisNumber c < axisNumber b)) := by cases b <;> rfl
  rw [rankIn, before, List.filter_filter]

/-- The place of HOMEs on axes that neither run nor wait, in the order of a list. -/
theorem placeHomes (g : Byte) (named : Axis → Bool) {l : List Axis} (nodup : l.Nodup)
    (idle : ∀ b, named b = true → running s b = false ∧ yielded s b = false)
    (empty : ∀ b ∈ l, named b = true → s.msc.pending.get b = none) :
    let t := l.foldl (fun t a => if named a = true then place (homeRequest .m g a) t else t) s
    Unchanged [.msc] s t ∧ ∀ b, t.msc.pending.get b =
      if b ∈ l ∧ named b = true then some (homeAt g b (s.msc.nextStamp + rankIn l named b))
      else s.msc.pending.get b := by
  induction l generalizing s with
  | nil => exact ⟨.refl _ _, fun b => by simp⟩
  | cons c l ih =>
    obtain ⟨fresh, nodup⟩ := List.nodup_cons.mp nodup
    rw [List.foldl_cons]
    cases name : named c with
    | false =>
      obtain ⟨frame, pending⟩ := ih nodup idle fun b hb => empty b (List.mem_cons_of_mem c hb)
      refine ⟨frame, fun b => (pending b).trans ?_⟩
      by_cases same : b = c
      · subst same
        simp [fresh, name]
      · have rank : rankIn (c :: l) named b = rankIn l named b := by
          simp [rankIn, Ne.symm same, name]
        simp only [rank, List.mem_cons, same, false_or]
    | true =>
      obtain ⟨free, rests⟩ := idle c name
      have placed : place (homeRequest .m g c) s = queued (homeRequest .m g c) s :=
        place_of_idle (n := homeRequest .m g c) free rests (empty c List.mem_cons_self name)
      simp only [if_true]
      rw [placed]
      obtain ⟨frame, pending⟩ := ih (s := queued (homeRequest .m g c) s) nodup idle fun b hb named => by
        have other : b ≠ c := fun same => fresh (same ▸ hb)
        rw [queued_pending_of_ne (homeRequest .m g c) other]
        exact empty b (List.mem_cons_of_mem c hb) named
      refine ⟨(queued_frame _ _).trans frame, fun b => (pending b).trans ?_⟩
      by_cases same : b = c
      · subst same
        have rank : rankIn (b :: l) named b = 0 := by simp [rankIn]
        simp only [fresh, false_and, if_false, List.mem_cons, true_or, name, and_self, if_true, rank]
        exact queued_pending (homeRequest .m g b) s
      · have rank : rankIn (c :: l) named b = rankIn l named b + 1 := by
          simp [rankIn, Ne.symm same, name]
        have stamp : (queued (homeRequest .m g c) s).msc.nextStamp = s.msc.nextStamp + 1 := rfl
        rw [queued_pending_of_ne (homeRequest .m g c) same, stamp]
        simp only [rank, List.mem_cons, same, false_or, Nat.add_assoc, Nat.add_comm 1]

end Sys2Proof.Machine
end

section
/-! HOME of a set of axes: the occasion, grant by grant. -/

namespace Sys2Proof.Machine

variable {s t u w : State} {a : Axis} {named : Axis → Bool} {wait : Axis → Request}

/-! ## The occasion (R63, R87, R91) -/

/-- A HOME of Port M that waits on its own axis. -/
def WaitingHome (g : Byte) (a : Axis) (q : Request) : Prop :=
  q.axis = a ∧ q.kind = .home ∧ q.follow = none ∧ q.source = .m ∧ q.tag = g ∧ q.book.member = false

/-- The axis has begun its homing, and nothing waits on it. -/
def HomingBegun (g : Byte) (a : Axis) (t : State) : Prop :=
  running t a = true ∧ (t.axis a).state = .homing ∧ (t.axis a).tag = some g ∧
    (t.axis a).source = some .m ∧ t.msc.pending.get a = none

/-- Some of the named axes have begun their homings, no more than there are slots, and the others wait as
they did before the occasion. -/
structure HomesUnderway (g : Byte) (named : Axis → Bool) (wait : Axis → Request) (w t : State) : Prop where
  mode : t.afc = w.afc
  rest : ∀ a, named a = false → t.axis a = w.axis a ∧ t.msc.pending.get a = none
  each : ∀ a, named a = true →
    HomingBegun g a t ∨ (t.axis a = w.axis a ∧ t.msc.pending.get a = some (wait a))
  room : runningCount t ≤ slotCount t

section

variable {g : Byte} (still : ∀ a, running w a = false) (homes : ∀ a, WaitingHome g a (wait a))

include still in
/-- An axis that runs at such an occasion is a named one. -/
theorem HomesUnderway.named_of_running (h : HomesUnderway g named wait w t) (runs : running t a = true) :
    named a = true := by
  by_contra other
  have same := running_of_axis (h.rest a (Bool.eq_false_iff.mpr other)).1
  rw [still a, runs] at same
  cases same

include still in
theorem HomesUnderway.count_le (h : HomesUnderway g named wait w t) :
    runningCount t ≤ (allAxes.filter named).length := by
  unfold runningCount
  rw [← List.countP_eq_length_filter, ← List.countP_eq_length_filter]
  exact List.countP_mono_left fun b _ runs => h.named_of_running still runs

include still homes in
/-- An axis on which a HOME waits has an eligible record. -/
theorem axisEligible_of_waitingHome (same : t.axis a = w.axis a)
    (waits : t.msc.pending.get a = some (wait a)) : axisEligible t a = true := by
  obtain ⟨axis, -, follow, source, -⟩ := homes a
  refine (axisEligible_iff t a).mpr ⟨wait a, waits, ?_, fun f follows => ?_, fun drift => ?_⟩
  · rw [axis]
    exact (running_of_axis same).trans (still a)
  · rw [follow] at follows
    cases follows
  · rw [source] at drift
    cases drift

include still homes in
/-- With nothing left to select every named axis has begun its homing. -/
theorem HomesUnderway.count_of_none (h : HomesUnderway g named wait w t)
    (nothing : selectGrant t none = none) : runningCount t = (allAxes.filter named).length := by
  have begun : ∀ b, running t b = named b := fun b => by
    cases name : named b with
    | false => exact (running_of_axis (h.rest b name).1).trans (still b)
    | true =>
      rcases h.each b name with ⟨runs, -⟩ | ⟨same, waits⟩
      · exact runs
      · obtain ⟨c, selected⟩ := exists_selectGrant (axisEligible_of_waitingHome still homes same waits)
        cases nothing.symm.trans selected
  unfold runningCount
  simp only [begun]

include still homes in
/-- A grant begins one more homing. -/
theorem HomesUnderway.grant (h : HomesUnderway g named wait w t) {d : DriveSlot}
    (room : runningCount t < slotCount t) (selected : selectGrant t none = some a) :
    HomesUnderway g named wait w (grantOne a d t) ∧
      runningCount (grantOne a d t) = runningCount t + 1 := by
  obtain ⟨q, waits, eligible⟩ := (axisEligible_iff t a).mp (eligible_of_selectGrant selected)
  have name : named a = true := by
    by_contra other
    cases (h.rest a (Bool.eq_false_iff.mpr other)).2.symm.trans waits
  have mine : t.axis a = w.axis a ∧ q = wait a := by
    rcases h.each a name with ⟨-, -, -, -, empty⟩ | ⟨same, pending⟩
    · cases empty.symm.trans waits
    · exact ⟨same, Option.some.inj (waits.symm.trans pending)⟩
  obtain ⟨same, rfl⟩ := mine
  obtain ⟨-, home, -, source, tag, plain⟩ := homes a
  obtain ⟨r, grant, started⟩ := grantHome_started home a d (handedTo a (wait a) t)
  have one : grantOne a d t = markMotion ((handedTo a (wait a) t).setAxis a r) :=
    ((grantOne_of_plain waits plain d).trans (lduGrant_of_home (s := handedTo a (wait a) t) home d)).trans grant
  have axis : (grantOne a d t).axis a = r := by
    rw [one]
    exact State.setAxis_axis_self _ a r
  have only : OnlyAxes [a] t (grantOne a d t) := grantOne_axes a d t
  have pending : ∀ b, b ≠ a → (grantOne a d t).msc.pending.get b = t.msc.pending.get b := fun b other => by
    rw [one]
    exact PerAxis.get_set_of_ne _ _ other
  have begun : HomingBegun g a (grantOne a d t) := by
    rw [HomingBegun, running, axis, started.slot, started.tag, started.source, started.home home, source, tag]
    refine ⟨rfl, rfl, rfl, rfl, ?_⟩
    rw [one]
    exact PerAxis.get_set_self _ _ _
  have others : ∀ b, b ≠ a → (grantOne a d t).axis b = t.axis b := fun b other => only b (by simpa using other)
  have count := runningCount_succ (s := t) (t := grantOne a d t)
    (fun b other => running_of_axis (others b other)) ((running_of_axis same).trans (still a)) begun.1
  have mode : (grantOne a d t).afc = t.afc := by
    rw [one]
    rfl
  refine ⟨⟨mode.trans h.mode, fun b other => ?_, fun b mine => ?_, ?_⟩, count⟩
  · have away : b ≠ a := fun same => by
      rw [same, name] at other
      cases other
    rw [others b away, pending b away]
    exact h.rest b other
  · by_cases this : b = a
    · rw [this]
      exact .inl begun
    · have runs := running_of_axis (others b this)
      rw [HomingBegun, runs, others b this, pending b this]
      exact h.each b mine
  · rw [count, slotCount, mode]
    exact room

include still homes in
/-- An occasion begins homings until the slots are in use or none waits. -/
theorem HomesUnderway.grantLoop (h : HomesUnderway g named wait w t) (n : Nat)
    (fuel : 2 ≤ n + runningCount t) : HomesUnderway g named wait w (grantLoop none n t) ∧
      runningCount (Machine.grantLoop none n t) =
        min (allAxes.filter named).length (slotCount (Machine.grantLoop none n t)) := by
  have stops : slotCount t ≤ runningCount t →
      runningCount t = min (allAxes.filter named).length (slotCount t) := fun full => by
    have most := h.count_le still
    have room := h.room
    omega
  induction n generalizing t with
  | zero =>
    have slots := slotCount_le t
    exact ⟨h, stops (by omega)⟩
  | succ n ih =>
    unfold Machine.grantLoop
    split
    · exact ⟨h, stops ‹_›⟩
    · rename_i room
      obtain ⟨d, free⟩ := exists_freeSlot (s := t) (by omega)
      rw [free]
      cases selected : selectGrant t none with
      | none =>
        have count := h.count_of_none still homes selected
        have most := h.room
        refine ⟨h, ?_⟩
        show runningCount t = min _ (slotCount t)
        omega
      | some b =>
        obtain ⟨next, count⟩ := h.grant still homes (d := d) (by omega) selected
        refine ih next (by omega) fun full => ?_
        have most := next.count_le still
        have room := next.room
        omega

end

/-! ## The requests of a set -/

/-- The requests of a set have joined the list. -/
def homesPlaced (g : Byte) (named : Axis → Bool) (s : State) : State :=
  allAxes.foldl (fun t a => if named a = true then place (homeRequest .m g a) t else t) s

theorem homesPlaced_of_idle (g : Byte)
    (idle : ∀ b, named b = true → running s b = false ∧ yielded s b = false ∧
      s.msc.pending.get b = none ∧ liveMember s b = false) :
    Unchanged [.msc] s (homesPlaced g named s) ∧ ∀ b, (homesPlaced g named s).msc.pending.get b =
      if named b = true then some (homeAt g b (s.msc.nextStamp +
        (allAxes.filter (fun c => named c && decide (axisNumber c < axisNumber b))).length))
      else s.msc.pending.get b := by
  obtain ⟨frame, pending⟩ := placeHomes (s := s) g named (l := allAxes) (by decide)
    (fun b name => ⟨(idle b name).1, (idle b name).2.1⟩) fun b _ name => (idle b name).2.2.1
  refine ⟨frame, fun b => (pending b).trans ?_⟩
  simp only [mem_allAxes, true_and, rankIn_allAxes]

end Sys2Proof.Machine
end

section
/-! HOME: what the command leaves in each of its cases, and the row. -/

namespace Sys2Proof.Machine

variable {s : State} {a : Axis} {axes : PerAxis Bool} {g : Byte}

/-! ## One axis -/

/-- What an accepted HOME of one axis makes of the state. -/
def homeOne (g : Byte) (a : Axis) (s : State) : State := grantOccasion none (place (homeRequest .m g a) s)

/-- A HOME of an axis at rest, with nothing running or waiting, begins at once (R76). -/
theorem homeOne_begins (g : Byte) (still : ∀ b, running s b = false) (none : NonePending s)
    (rests : yielded s a = false) : homeOne g a s = markMotion
      ((handedTo a (homeAt g a s.msc.nextStamp) (queued (homeRequest .m g a) s)).setAxis a
        (homingBegun s a (homeAt g a s.msc.nextStamp) .slot0)) := by
  have waits : (queued (homeRequest .m g a) s).msc.pending.get a = some (homeAt g a s.msc.nextStamp) :=
    queued_pending (homeRequest .m g a) s
  have alone : ∀ b, b ≠ a → (queued (homeRequest .m g a) s).msc.pending.get b = Option.none := fun b other => by
    rw [queued_pending_of_ne (homeRequest .m g a) other]
    exact none b
  have eligible : Eligible (queued (homeRequest .m g a) s) (homeAt g a s.msc.nextStamp) :=
    ⟨still a, fun f follows => (by cases follows), fun drift => by cases drift⟩
  rw [homeOne, place_of_idle (n := homeRequest .m g a) (still a) rests (none a),
    grantOccasion_of_alone (s := queued (homeRequest .m g a) s) still waits alone eligible,
    grantOne_of_home waits rfl rfl]
  rfl

/-- A HOME that has begun the homing of its axis at once. -/
structure HomeBegun (g : Byte) (a : Axis) (s t : State) : Prop where
  frame : Unchanged [.ldu, .msc, .scn] s t
  only : OnlyAxes [a] s t
  motion : t.scn = { s.scn with motion := true }
  quiet : NonePending t
  favoured : t.msc.favoured = nextAxis a
  axis : t.axis a = homingBegun s a (homeAt g a s.msc.nextStamp) .slot0

theorem homeOne_begun (g : Byte) (still : ∀ b, running s b = false) (none : NonePending s)
    (rests : yielded s a = false) : HomeBegun g a s (homeOne g a s) := by
  rw [homeOne_begins g still none rests]
  set v := handedTo a (homeAt g a s.msc.nextStamp) (queued (homeRequest .m g a) s)
  have frame : Unchanged [.msc] s v := (queued_frame _ s).trans (withMsc_frame _ _)
  refine ⟨((frame.weaken (by simp)).trans ((setAxis_frame v a _).weaken (by simp))).trans
    ((withScn_frame _ _).weaken (by simp)), setAxis_only v a _, rfl, fun b => ?_, rfl,
    State.setAxis_axis_self v a _⟩
  by_cases same : b = a
  · rw [same]
    exact PerAxis.get_set_self _ _ _
  · exact (PerAxis.get_set_of_ne _ _ same).trans
      ((queued_pending_of_ne (homeRequest .m g a) same s).trans (none b))

/-- The record of a homing that begins with the switch released. -/
theorem homingBegun_of_released {q : Request} (released : (s.axis a).switch = false) (d : DriveSlot) :
    homingBegun s a q d = (((s.axis a).granted q none none).holding d).enterHoming.seek (homingLimit s a) :=
  AxisRecord.firstStage_of_released (r := (((s.axis a).granted q none none).holding d).enterHoming) released _

/-- The record of a homing that begins with the switch asserted. -/
theorem homingBegun_of_asserted {q : Request} (asserted : (s.axis a).switch = true) (d : DriveSlot) :
    homingBegun s a q d = (((s.axis a).granted q none none).holding d).enterHoming.dwellForRelease :=
  AxisRecord.firstStage_of_asserted (r := (((s.axis a).granted q none none).holding d).enterHoming) asserted _

/-- A HOME of a running axis replaces the request in force; nothing waits, so nothing is granted (R88). -/
theorem homeOne_replaces {r : AxisRecord} {b : Book} {f : Option Int} (runs : running s a = true)
    (none : NonePending s) (passes : passHome a (homeAt g a s.msc.nextStamp) (nextStamp s) =
      replaceForce a r b f (nextStamp s)) : homeOne g a s = replaceForce a r b f (nextStamp s) := by
  have quiet : NonePending (replaceForce a r b f (nextStamp s)) :=
    (replaceForce_replaced a r b f (nextStamp s)).nonePending none
  rw [homeOne, place_of_running (n := homeRequest .m g a) runs, passToRunning_of_home rfl rfl]
  show grantOccasion Option.none (passHome a (homeAt g a s.msc.nextStamp) (nextStamp s)) = _
  rw [passes, grantOccasion_of_nonePending quiet]

/-- What a HOME of a running axis leaves. -/
theorem homeOne_replaced {r : AxisRecord} {b : Book} {f : Option Int} (runs : running s a = true)
    (none : NonePending s) (passes : passHome a (homeAt g a s.msc.nextStamp) (nextStamp s) =
      replaceForce a r b f (nextStamp s)) :
    Replaced a r b f s (homeOne g a s) ∧ NonePending (homeOne g a s) := by
  have replaced := replaceForce_replaced a r b f (nextStamp s)
  rw [homeOne_replaces runs none passes]
  exact ⟨⟨replaced.axis, replaced.only, replaced.inForce, replaced.last, replaced.pending⟩,
    replaced.nonePending none⟩

theorem homeOne_of_homing (g : Byte) (runs : running s a = true) (none : NonePending s)
    (homing : (s.axis a).state = .homing) : Replaced a (homeTaken s a (homeAt g a s.msc.nextStamp))
        (homeAt g a s.msc.nextStamp).book Option.none s (homeOne g a s) ∧ NonePending (homeOne g a s) :=
  homeOne_replaced runs none (passHome_of_homing (s := nextStamp s) homing)

theorem homeOne_of_leg {p : Int} (g : Byte) (runs : running s a = true) (none : NonePending s)
    (moving : (s.axis a).state = .moving)
    (leg : (s.axis a).phase = some .travel ∨ (s.axis a).phase = some .overshootReturn)
    (known : (s.axis a).position = some p) (away : p ≠ (s.axis a).legEnd) :
    Replaced a ((homeTaken s a (homeAt g a s.msc.nextStamp)).ramping .home (rampLength p (s.axis a).legEnd))
        (homeAt g a s.msc.nextStamp).book (some p) s (homeOne g a s) ∧ NonePending (homeOne g a s) :=
  homeOne_replaced runs none (passHome_of_leg (s := nextStamp s) moving leg known away)

theorem homeOne_of_ramp {p : Int} (g : Byte) (runs : running s a = true) (none : NonePending s)
    (moving : (s.axis a).state = .moving) (ramp : (s.axis a).phase = some .stopRamp)
    (known : (s.axis a).position = some p) :
    Replaced a { homeTaken s a (homeAt g a s.msc.nextStamp) with endAction := some .home }
        (homeAt g a s.msc.nextStamp).book (some p) s (homeOne g a s) ∧ NonePending (homeOne g a s) := by
  rw [← known]
  exact homeOne_replaced runs none (passHome_of_ramp (s := nextStamp s) moving ramp)

theorem homeOne_of_dwell {p : Int} (g : Byte) (runs : running s a = true) (none : NonePending s)
    (moving : (s.axis a).state = .moving) (dwell : (s.axis a).phase = some .reverse)
    (known : (s.axis a).position = some p) :
    Replaced a { homeTaken s a (homeAt g a s.msc.nextStamp) with dwell := some .homing }
        (homeAt g a s.msc.nextStamp).book (some p) s (homeOne g a s) ∧ NonePending (homeOne g a s) := by
  rw [← known]
  exact homeOne_replaced runs none (passHome_of_dwell (s := nextStamp s) moving dwell)

/-- A HOME of an axis that waits, with every slot in use, waits in its place (R88). -/
theorem homeOne_waits (g : Byte) (free : running s a = false) (full : slotCount s ≤ runningCount s) :
    homeOne g a s = setRequest a (some (homeAt g a s.msc.nextStamp))
      (supersedePending a (nextStamp s)) := by
  rw [homeOne, grantOccasion_place_of_full (n := homeRequest .m g a) free full]
  rfl

/-- What waited has left with the outcome SUPERSEDED. -/
theorem homeOne_of_waiting {q : Request} (g : Byte) (free : running s a = false)
    (full : slotCount s ≤ runningCount s) (rests : yielded s a = false)
    (waits : s.msc.pending.get a = some q) : (homeOne g a s).ldu = s.ldu ∧
      (homeOne g a s).msc.last.get a =
        ⟨some q.tag, some q.source, some .superseded, shownPosition s q.axis⟩ := by
  have dropped := dropRequest_dropped (s := nextStamp s) waits .superseded
  rw [homeOne_waits g free full, supersedePending_of_rest (s := nextStamp s) rests]
  exact ⟨dropped.ldu, dropped.last⟩

/-- A yielded move has ended where it stood. -/
theorem homeOne_of_yielded {p : Int} (g : Byte) (free : running s a = false)
    (full : slotCount s ≤ runningCount s) (remains : yielded s a = true)
    (known : (s.axis a).position = some p) : OnlyAxes [a] s (homeOne g a s) ∧
      (homeOne g a s).axis a = restingAt s a p ∧ (homeOne g a s).msc.last.get a =
        ⟨(s.axis a).tag, (s.axis a).source, some .superseded, some p⟩ := by
  have ended := endYielded_ended (s := nextStamp s) known .superseded
  rw [homeOne_waits g free full, supersedePending_of_yielded (s := nextStamp s) remains]
  exact ⟨ended.only, ended.axis, ended.last⟩

/-! ## The ports -/

theorem NonePending.answered (h : NonePending s) (p : Port) (code : Byte) (answer : Answer) :
    NonePending (respond p code answer s) := h

theorem Replaced.answered {p : Port} {n : Nat} {t : State} {r : AxisRecord} {b : Book} {f : Option Int}
    (h : Replaced a r b f (shiftOut p n s) t) (code : Byte) (answer : Answer) :
    Replaced a r b f s (respond p code answer t) := ⟨h.axis, h.only, h.inForce, h.last, h.pending⟩

theorem homeNow_answered {x g : Byte} {t : State} (h : homeNow .m (axesOfSet x) g (shiftOut .m 4 s) =
    (t, answerOk [])) (awake : s.inReset = false) (low : x.toNat < 16) :
    exec (.home .m [x, g]) s = .next (respond .m 0x21 (answerOk []) t) ∧
      Answered .m 0x21 [x, g] .ok [] s (respond .m 0x21 (answerOk []) t) := by
  have kept : Unchanged [.attention, .scn, .ldu, .msc, .fdt, .geo, .bkm] (shiftOut .m 4 s)
      (homeNow .m (axesOfSet x) g (shiftOut .m 4 s)).1 :=
    homeNow_keeps (lens_frame _) .m (axesOfSet x) g (.refl _ _)
  have row := exec_home (g := g) awake low
  rw [h] at kept row
  exact ⟨row, respond_answered .m 0x21 [x, g] (answerOk []) (kept .ports (by simp))⟩

/-- A HOME that changes nothing but the ports. -/
theorem homeNow_idle {x g : Byte} (h : homeNow .m (axesOfSet x) g (shiftOut .m 4 s) =
    (shiftOut .m 4 s, answerOk [])) (awake : s.inReset = false) (low : x.toNat < 16) :
    ∃ t, exec (.home .m [x, g]) s = .next t ∧ Answered .m 0x21 [x, g] .ok [] s t ∧
      Unchanged [.ports] s t := by
  obtain ⟨row, answered⟩ := homeNow_answered h awake low
  exact ⟨_, row, answered, (Unchanged.refl [] (shiftOut .m 4 s)).taken 0x21 (answerOk [])⟩

/-! ## Sets -/

theorem homeNow_one {x g : Byte} (awake : s.inReset = false) (power : s.lps.power ≠ .off)
    (set : x.toNat = 2 ^ axisNumber a) (dead : liveMember s a = false) :
    exec (.home .m [x, g]) s = .next (respond .m 0x21 (answerOk []) (homeOne g a (shiftOut .m 4 s))) ∧
      Answered .m 0x21 [x, g] .ok [] s (respond .m 0x21 (answerOk []) (homeOne g a (shiftOut .m 4 s))) :=
  homeNow_answered (homeNow_of_one (s := shiftOut .m 4 s) power (axesOfSet_of_one set) dead) awake (setByte_lt set)

/-- An accepted HOME of any set places its requests and leads to an occasion; an empty set places nothing and
leads to none. -/
theorem homeNow_set (g : Byte) (power : s.lps.power ≠ .off)
    (dead : ∀ b, axes.get b = true → liveMember s b = false) : ∃ t, homeNow .m axes g s = (t, answerOk []) ∧
      (grantOccasion none s = s → t = grantOccasion none (homesPlaced g axes.get s)) := by
  by_cases present : axes = .same false
  · subst present
    exact ⟨s, homeNow_of_none power, fun quiet => quiet.symm⟩
  · exact ⟨_, homeNow_of_set power present dead, fun _ => rfl⟩

/-- With nothing running or waiting the occasion after a HOME of a set starts as many homings as it can. -/
theorem homesPlaced_grantOccasion {named : Axis → Bool} (g : Byte) (still : ∀ b, running s b = false)
    (quiet : NonePending s) (idle : ∀ b, named b = true → running s b = false ∧ yielded s b = false ∧
      s.msc.pending.get b = none ∧ liveMember s b = false) :
    HomesUnderway g named (fun a => homeAt g a (s.msc.nextStamp +
        (allAxes.filter (fun c => named c && decide (axisNumber c < axisNumber a))).length)) s
        (grantOccasion Option.none (homesPlaced g named s)) ∧
      runningCount (grantOccasion Option.none (homesPlaced g named s)) =
        min (allAxes.filter named).length (slotCount s) := by
  obtain ⟨frame, pending⟩ := homesPlaced_of_idle (s := s) g idle
  have same : ∀ b, (homesPlaced g named s).axis b = s.axis b := fun b => by
    unfold State.axis
    rw [(frame .ldu (by simp) : _ = s.ldu)]
  have count : runningCount (homesPlaced g named s) = 0 :=
    runningCount_eq_zero fun b => (running_of_axis (same b)).trans (still b)
  have placed : HomesUnderway g named (fun a => homeAt g a (s.msc.nextStamp +
      (allAxes.filter (fun c => named c && decide (axisNumber c < axisNumber a))).length)) s
      (homesPlaced g named s) := by
    refine ⟨frame .afc (by simp), fun b other => ⟨same b, ?_⟩, fun b name => .inr ⟨same b, ?_⟩, ?_⟩
    · rw [pending b, if_neg (by simp [other])]
      exact quiet b
    · rw [pending b, if_pos name]
    · rw [count]
      exact Nat.zero_le _
  have waits : ∀ b, WaitingHome g b (homeAt g b (s.msc.nextStamp +
      (allAxes.filter (fun c => named c && decide (axisNumber c < axisNumber b))).length)) := fun b =>
    ⟨rfl, rfl, rfl, rfl, rfl, rfl⟩
  obtain ⟨underway, running⟩ := placed.grantLoop (g := g) still waits 4 (by omega)
  refine ⟨underway, running.trans ?_⟩
  rw [slotCount, slotCount, underway.mode]

/-- With every slot in use the HOMEs of a set wait. -/
theorem homesPlaced_of_full {named : Axis → Bool} (g : Byte) (full : slotCount s ≤ runningCount s)
    (idle : ∀ b, named b = true → running s b = false ∧ yielded s b = false ∧
      s.msc.pending.get b = none ∧ liveMember s b = false) :
    grantOccasion none (homesPlaced g named s) = homesPlaced g named s := by
  obtain ⟨frame, -⟩ := homesPlaced_of_idle (s := s) g idle
  have ldu : (homesPlaced g named s).ldu = s.ldu := frame .ldu (by simp)
  have afc : (homesPlaced g named s).afc = s.afc := frame .afc (by simp)
  refine grantOccasion_of_full ?_ none
  have count : runningCount (homesPlaced g named s) = runningCount s :=
    runningCount_congr fun b => running_of_axis (by rw [State.axis, State.axis, ldu])
  rw [count, slotCount, afc]
  exact full

/-- Settles O43: the refusal and the empty set, a HOME that begins at once, a set grant by grant, and a HOME
in the place of what runs or waits. -/
theorem homeBeginsTheHoming : Obligations.HomeBeginsTheHoming := by
  intro x g s awake named waiting
  set u := shiftOut .m 4 s
  refine ⟨fun off low => ?_, fun power none => ?_, fun a power set still none rests dead => ?_,
    fun power low idle => ?_, ?_⟩
  · have row := exec_home (g := g) awake low
    rw [homeNow_of_off (s := u) off] at row
    exact ⟨_, row, answered_only .m 0x21 [x, g] (refuse .noPower) s⟩
  · subst none
    exact homeNow_idle (homeNow_of_none (s := u) power) awake (by decide)
  · obtain ⟨row, answered⟩ := homeNow_one (g := g) awake power set dead
    have begun := homeOne_begun (s := u) g still none rests
    exact ⟨_, row, answered, begun.frame.taken 0x21 (answerOk []), begun.only, begun.motion, begun.quiet,
      begun.favoured, fun released => begun.axis.trans (homingBegun_of_released (s := u) released _),
      fun asserted => begun.axis.trans (homingBegun_of_asserted (s := u) asserted _)⟩
  · have names : (axesOfSet x).get = named := funext (axesOfSet_get x)
    obtain ⟨t, taken, occasion⟩ := homeNow_set (s := u) (axes := axesOfSet x) g power fun b name =>
      (idle b ((axesOfSet_get x b).symm.trans name)).2.2.2
    rw [names] at occasion
    obtain ⟨row, answered⟩ := homeNow_answered taken awake low
    refine ⟨_, row, answered, fun full => ?_, fun still none => ?_⟩
    · obtain ⟨frame, pending⟩ := homesPlaced_of_idle (s := u) g idle
      rw [occasion (grantOccasion_of_full (s := u) full _), homesPlaced_of_full (s := u) g full idle]
      exact ⟨frame.taken 0x21 (answerOk []), pending⟩
    · obtain ⟨underway, count⟩ := homesPlaced_grantOccasion (s := u) g still none idle
      rw [occasion (grantOccasion_of_nonePending (s := u) none _)]
      exact ⟨count, fun a => ⟨underway.rest a, underway.each a⟩⟩
  · intro a power set dead r book new
    obtain ⟨row, answered⟩ := homeNow_one (g := g) awake power set dead
    refine ⟨_, row, answered, fun runs none homing => ?_, fun p runs none moving known => ?_,
      fun q free waits own full => ?_⟩
    · obtain ⟨replaced, quiet⟩ := homeOne_of_homing (s := u) g runs none homing
      have taken := replaced.answered 0x21 (answerOk [])
      exact ⟨taken.only, quiet.answered .m 0x21 (answerOk []), taken.axis, taken.inForce, taken.last⟩
    · have leg := fun steps away => homeOne_of_leg (s := u) g runs none moving steps known away
      have ramp := fun ramps => homeOne_of_ramp (s := u) g runs none moving ramps known
      have dwell := fun dwells => homeOne_of_dwell (s := u) g runs none moving dwells known
      refine ⟨?_, fun steps away => ((leg steps away).1.answered 0x21 (answerOk [])).axis,
        fun ramps => ((ramp ramps).1.answered 0x21 (answerOk [])).axis,
        fun dwells => ((dwell dwells).1.answered 0x21 (answerOk [])).axis⟩
      have ends : ∀ {r'}, Replaced a r' book (some p) u (homeOne g a u) ∧ NonePending (homeOne g a u) →
          Replaced a r' book (some p) s (respond .m 0x21 (answerOk []) (homeOne g a u)) ∧
            NonePending (respond .m 0x21 (answerOk []) (homeOne g a u)) := fun ⟨replaced, quiet⟩ =>
        ⟨replaced.answered 0x21 (answerOk []), quiet.answered .m 0x21 (answerOk [])⟩
      rintro (⟨steps, away⟩ | ramps | dwells)
      · obtain ⟨replaced, quiet⟩ := ends (leg steps away)
        exact ⟨replaced.only, quiet, replaced.inForce, replaced.last⟩
      · obtain ⟨replaced, quiet⟩ := ends (ramp ramps)
        exact ⟨replaced.only, quiet, replaced.inForce, replaced.last⟩
      · obtain ⟨replaced, quiet⟩ := ends (dwell dwells)
        exact ⟨replaced.only, quiet, replaced.inForce, replaced.last⟩
    · refine ⟨?_, fun rests => ?_, fun p remains _ known =>
        homeOne_of_yielded (s := u) g free full remains known⟩
      · rw [homeOne_waits (s := u) g free full]
        exact PerAxis.get_set_self _ _ _
      · obtain ⟨ldu, last⟩ := homeOne_of_waiting (s := u) g free full rests waits
        rw [own] at last
        exact ⟨ldu, last⟩

end Sys2Proof.Machine
end

section
/-! STEP. The record of a step, what GEO makes of its report, and which of its ends follows. -/

namespace Sys2Proof.Machine

variable {s t u : State} {a : Axis} {p : Int}

theorem exec_step (a : Axis) (awake : s.inReset = false) : exec (.step a) s = .next (axisStep a s) :=
  exec_event (f := axisStep a) rfl awake

theorem stepBy_eq (d : Direction) : stepBy d = if d = .positive then 1 else -1 := by cases d <;> rfl

/-! ## The step and its report (R65, R83) -/

/-- A step has been taken and reported to GEO. -/
def stepTaken (a : Axis) (p : Int) (s : State) : State :=
  geoStepReport a (p + stepBy (s.axis a).direction) (s.setAxis a ((s.axis a).stepped p))

theorem geoStepReport_frame (a : Axis) (p : Int) (s : State) : Unchanged [.geo, .bkm] s (geoStepReport a p s) := by
  unfold geoStepReport
  split
  · exact requestBuild_frame s
  · exact .refl _ _

theorem stepTaken_frame (a : Axis) (p : Int) (s : State) : Unchanged [.ldu, .geo, .bkm] s (stepTaken a p s) :=
  ((setAxis_frame s a _).weaken (by simp)).trans ((geoStepReport_frame _ _ _).weaken (by simp))

/-- HS and FC do not feed the geometry (R83). -/
theorem stepTaken_aside (aside : a = .hs ∨ a = .fc) (p : Int) (s : State) :
    stepTaken a p s = s.setAxis a ((s.axis a).stepped p) := by
  rcases aside with rfl | rfl <;> rfl

theorem stepTaken_ldu (a : Axis) (p : Int) (s : State) :
    (stepTaken a p s).ldu = (s.setAxis a ((s.axis a).stepped p)).ldu :=
  geoStepReport_frame a _ _ .ldu (by simp)

theorem stepTaken_axis (a : Axis) (p : Int) (s : State) :
    (stepTaken a p s).axis a = (s.axis a).stepped p := by
  rw [State.axis, stepTaken_ldu]
  exact State.setAxis_axis_self s a _

theorem stepTaken_only (a : Axis) (p : Int) (s : State) : OnlyAxes [a] s (stepTaken a p s) :=
  (setAxis_only s a ((s.axis a).stepped p)).trans (.of_ldu (stepTaken_ldu a p s))

theorem stepTaken_msc (a : Axis) (p : Int) (s : State) : (stepTaken a p s).msc = s.msc :=
  stepTaken_frame a p s .msc (by simp)

/-! ## Segments (R69, R93) -/

/-- The step of the record counts and ends its segment. -/
def atBoundary (r : AxisRecord) : Bool := countsSegment r && (r.segment + 1) % 256 == 0

theorem countsSegment_iff (r : AxisRecord) :
    countsSegment r = true ↔ r.phase = some .travel ∧ r.mode = some .shared := by
  simp [countsSegment]

theorem atBoundary_iff (r : AxisRecord) : atBoundary r = true ↔
    (r.phase = some .travel ∧ r.mode = some .shared) ∧ (r.segment + 1) % 256 = 0 := by
  rw [atBoundary, Bool.and_eq_true, countsSegment_iff, beq_iff_eq]

theorem stepped_of_counts {r : AxisRecord} (counts : countsSegment r = true) (p : Int) : r.stepped p =
    { r with position := some (p + stepBy r.direction), remaining := r.remaining - 1,
             segment := (r.segment + 1) % 256, lastStep := r.direction } := by
  rw [AxisRecord.stepped, if_pos counts]

theorem stepped_of_uncounted {r : AxisRecord} (free : countsSegment r = false) (p : Int) : r.stepped p =
    { r with position := some (p + stepBy r.direction), remaining := r.remaining - 1,
             lastStep := r.direction } := by
  rw [AxisRecord.stepped, if_neg (by simp [free])]

/-- The step at a boundary leaves the segment empty. -/
theorem stepped_atBoundary {r : AxisRecord} (boundary : atBoundary r = true) (p : Int) : r.stepped p =
    { r with position := some (p + stepBy r.direction), remaining := r.remaining - 1,
             segment := 0, lastStep := r.direction } := by
  obtain ⟨counts, zero⟩ := (atBoundary_iff r).mp boundary
  rw [stepped_of_counts ((countsSegment_iff r).mpr counts), zero]

theorem boundary_eq (r : AxisRecord) (p : Int) :
    (countsSegment r && (r.stepped p).segment == 0) = atBoundary r := by
  unfold atBoundary
  cases counts : countsSegment r with
  | false => rfl
  | true => rw [stepped_of_counts counts]

theorem Eligible.congr {q : Request} (runs : ∀ b, running t b = running s b)
    (pending : ∀ b, t.msc.pending.get b = none ↔ s.msc.pending.get b = none)
    (power : t.lps.power = s.lps.power) : Eligible t q ↔ Eligible s q := by
  unfold Eligible
  simp only [runs, pending, power]

/-- MSC orders a yield when every slot is in use and an eligible record waits (R93). -/
theorem ordersYield_iff (s : State) : ordersYield s = true ↔ slotCount s ≤ runningCount s ∧
    ∃ b q, s.msc.pending.get b = some q ∧ Eligible s q := by
  simp only [ordersYield, Bool.and_eq_true, List.any_eq_true, decide_eq_true_eq, axisEligible_iff, mem_allAxes,
    true_and, and_comm]

theorem stepTaken_running (a : Axis) (p : Int) (s : State) (b : Axis) :
    running (stepTaken a p s) b = running s b :=
  (stepTaken_only a p s).running (by rw [stepTaken_axis]; rfl) b

/-- A step changes nothing of what the order looks at. -/
theorem stepTaken_ordersYield (a : Axis) (p : Int) (s : State) : ordersYield (stepTaken a p s) = true ↔
    slotCount s ≤ runningCount s ∧ ∃ b q, s.msc.pending.get b = some q ∧ Eligible s q := by
  have msc := stepTaken_msc a p s
  have afc : (stepTaken a p s).afc = s.afc := stepTaken_frame a p s .afc (by simp)
  have lps : (stepTaken a p s).lps = s.lps := stepTaken_frame a p s .lps (by simp)
  have same : ∀ q, Eligible (stepTaken a p s) q ↔ Eligible s q := fun q =>
    Eligible.congr (stepTaken_running a p s) (fun b => by rw [msc]) (by rw [lps])
  rw [ordersYield_iff, slotCount, afc, runningCount_congr (stepTaken_running a p s), msc]
  simp only [same, slotCount]

/-! ## The row, case by case -/

theorem axisStep_of_move (moving : (s.axis a).state = .moving) (slot : (s.axis a).slot.isSome = true)
    (steps : stepping (s.axis a) = true) (known : (s.axis a).position = some p) :
    axisStep a s = occasionAfter a s (afterStep a (atBoundary (s.axis a)) (stepTaken a p s)) := by
  have can : canStep (s.axis a) = true := (canStep_iff _).mpr ⟨moving, slot, steps, by rw [known]; rfl⟩
  unfold axisStep
  dsimp only
  rw [if_neg (by rw [moving]; simp), if_pos can, known, ← boundary_eq (s.axis a) p]
  rfl

theorem axisStep_of_homing (homing : (s.axis a).state = .homing)
    (stage : (s.axis a).phase = some .seek ∨ (s.axis a).phase = some .release) :
    axisStep a s = occasionAfter a s (homingStep a s) := if_pos ⟨homing, stage⟩

theorem legEnded_iff (r : AxisRecord) : legEnded r = true ↔ r.position = some r.legEnd := by simp [legEnded]

theorem lastLeg_iff (r : AxisRecord) :
    lastLeg r = true ↔ r.direction = .positive ∨ r.target = some r.legEnd := by simp [lastLeg]

section

variable {b : Bool} (leg : (u.axis a).phase ≠ some .stopRamp)

include leg

/-- A step within its leg, without a yield, is followed by nothing. -/
theorem afterStep_of_within (within : legEnded (u.axis a) = false) (calm : (b && ordersYield u) = false) :
    afterStep a b u = u := by
  unfold afterStep
  simp [leg, within, calm]

/-- The step that ends the plan ends the move DONE (R68). -/
theorem afterStep_of_last (ended : legEnded (u.axis a) = true) (last : lastLeg (u.axis a) = true) :
    afterStep a b u = finishDone a u := by
  unfold afterStep
  simp [leg, ended, last]

/-- At the end of a leg before the return leg the axis waits in the reversal dwell (R68). -/
theorem afterStep_of_leg (ended : legEnded (u.axis a) = true) (more : lastLeg (u.axis a) = false)
    (calm : (b && ordersYield u) = false) : afterStep a b u = u.setAxis a
      ((u.axis a).beginDwell .returnLeg ((u.axis a).target.getD 0 - (u.axis a).legEnd)) := by
  unfold afterStep
  simp [leg, ended, more, calm, legEnd]

/-- A boundary at which MSC orders a yield leads to a stop ramp (R70, R93). -/
theorem afterStep_of_yield (goesOn : (legEnded (u.axis a) && lastLeg (u.axis a)) = false)
    (orders : ordersYield u = true) : afterStep a true u = startRamp a .yield u := by
  unfold afterStep
  simp [leg, goesOn, orders]

end

theorem afterStep_of_ramp {b : Bool} (ramp : (u.axis a).phase = some .stopRamp)
    (ended : (u.axis a).remaining ≤ 0) : afterStep a b u = rampEnd a u := by
  unfold afterStep
  simp [ramp, ended]

end Sys2Proof.Machine
end

section
/-! STEP. The remainder of a yielded move goes back to the list, and the slot that it leaves goes to the record
that waits (R70, R74, R93). -/

namespace Sys2Proof.Machine

variable {s t u : State} {a b : Axis} {p n : Int} {rest : Request}

/-- An axis has become YIELDED with a record, and its remainder waits. -/
structure HandedBack (a : Axis) (r : AxisRecord) (rest : Request) (s t : State) : Prop where
  frame : Unchanged [.ldu, .msc, .geo, .bkm] s t
  only : OnlyAxes [a] s t
  axis : t.axis a = r
  last : t.msc.last = s.msc.last
  pending : t.msc.pending = s.msc.pending.set a (some rest)

theorem planLength_of_away (away : n ≠ p) (b : Int) (d : Direction) :
    planLength (planFrom p n b d) = stepsTo p n (max 0 (n - b)) := by
  rw [planFrom_granted away]
  rfl

theorem becomeYielded_eq (a : Axis) (s : State) : ∃ x, becomeYielded a s =
      (s.setAxis a ((s.axis a).yielding (planLength (planOf s a (s.axis a).lastStep)))).withMsc x ∧
    x.pending = s.msc.pending.set a (some (remainderOf a (s.axis a) (bookOf s a))) ∧ x.last = s.msc.last := by
  unfold becomeYielded
  dsimp only
  split
  · obtain ⟨g, progress⟩ := setProgress_eq a .waiting (setRequest a (some (remainderOf a (s.axis a) (bookOf s a)))
      (s.setAxis a ((s.axis a).yielding (planLength (planOf s a (s.axis a).lastStep)))))
    exact ⟨_, progress, rfl, rfl⟩
  · exact ⟨_, rfl, rfl, rfl⟩

theorem axisBacklash_of_prf (h : t.prf = s.prf) (a : Axis) : axisBacklash t a = axisBacklash s a := by
  unfold axisBacklash
  rw [h]

/-- The ramp of a yield has ended away from the target of the move in force. -/
theorem becomeYielded_handedBack {g : Byte} {source : Source} {x : Book}
    (frame : Unchanged [.ldu, .geo, .bkm] s u) (only : OnlyAxes [a] s u)
    (known : (u.axis a).position = some p) (target : (u.axis a).target = some n) (away : n ≠ p)
    (tag : (u.axis a).tag = some g) (issuer : (u.axis a).source = some source)
    (inForce : s.msc.inForce.get a = some x) :
    HandedBack a ((u.axis a).yielding (stepsTo p n (max 0 (n - axisBacklash s a))))
      ⟨a, .absolute n, .shared, none, g, source, x⟩ s (becomeYielded a u) := by
  obtain ⟨y, row, pending, last⟩ := becomeYielded_eq a u
  have msc : u.msc = s.msc := frame .msc (by simp)
  have book : bookOf u a = x := bookOf_of_inForce (by rw [msc, inForce])
  have length : planLength (planOf u a (u.axis a).lastStep) = stepsTo p n (max 0 (n - axisBacklash s a)) := by
    rw [planOf_eq known target, planLength_of_away away, axisBacklash_of_prf (frame .prf (by simp))]
  have remainder : remainderOf a (u.axis a) x = ⟨a, .absolute n, .shared, none, g, source, x⟩ := by
    rw [remainderOf, target, tag, issuer]
    rfl
  rw [length] at row
  rw [book, remainder, msc] at pending
  rw [msc] at last
  rw [row]
  exact ⟨((frame.weaken (by simp)).trans ((setAxis_frame u a _).weaken (by simp))).trans
      ((withMsc_frame _ y).weaken (by simp)), only.trans (setAxis_only u a _),
    State.setAxis_axis_self u a _, last, pending⟩

/-! ## The slot that a yield leaves (R63) -/

theorem mem_holders (s : State) (b : Axis) : b ∈ holders s ↔ running s b = true := by
  simp [holders, mem_allAxes]

section

variable {r : AxisRecord} (back : HandedBack a r rest s t) (runs : running s a = true) (slot : r.slot = none)

include back slot in
theorem HandedBack.released : running t a = false := by
  rw [running, back.axis, slot]
  rfl

include back in
theorem HandedBack.others (other : b ≠ a) : running t b = running s b :=
  running_of_axis (back.only b (by simpa using other))

include back runs slot in
theorem HandedBack.count : runningCount s = runningCount t + 1 :=
  runningCount_succ (s := t) (t := s) (fun _ other => (back.others other).symm) (back.released slot) runs

include back in
theorem HandedBack.slotCount : slotCount t = slotCount s := by
  rw [Machine.slotCount, Machine.slotCount, (back.frame .afc (by simp) : t.afc = s.afc)]

include back runs slot in
/-- The released slot is an occasion at which the axis that has just yielded is passed over (R93). -/
theorem HandedBack.occasionAfter (phase : r.phase = some .yielded) :
    occasionAfter a s t = grantOccasion (some a) t := by
  have remains : yielded t a = true := by
    rw [yielded_iff, back.axis, phase]
  have differs : holders s ≠ holders t := fun same => by
    have mine := (mem_holders s a).mpr runs
    rw [same, mem_holders, back.released slot] at mine
    cases mine
  unfold Machine.occasionAfter
  rw [if_neg differs, if_pos remains]

end

/-- The one record that waits is selected before the remainder. -/
theorem HandedBack.selected {r : AxisRecord} {q : Request} (back : HandedBack a r rest s t) (runs : running s a = true)
    (other : b ≠ a) (waits : s.msc.pending.get b = some q) (own : q.axis = b)
    (alone : ∀ c, c ≠ b → s.msc.pending.get c = none) (eligible : Eligible s q) :
    selectGrant t (some a) = some b ∧ t.msc.pending.get b = some q := by
  have elsewhere : ∀ c, c ≠ a → t.msc.pending.get c = s.msc.pending.get c := fun c away => by
    rw [back.pending, PerAxis.get_set_of_ne _ _ away]
  obtain ⟨rests, follow, drift⟩ := eligible
  have lps : t.lps = s.lps := back.frame .lps (by simp)
  have still : Eligible t q := by
    refine ⟨?_, fun f follows => ?_, fun source => ?_⟩
    · rwa [own, back.others other, ← own]
    · have away : f ≠ a := by
        rintro rfl
        cases runs.symm.trans (follow f follows).1
      rw [back.others away, elsewhere f away]
      exact follow f follows
    · rw [lps]
      exact drift source
  have waiting : t.msc.pending.get b = some q := (elsewhere b other).trans waits
  refine ⟨selectGrant_of_passed (Ne.symm other) ((axisEligible_iff t b).mpr ⟨q, waiting, still⟩)
    fun c away apart => axisEligible_of_none ?_, waiting⟩
  rw [elsewhere c away, alone c apart]

/-! ## One grant for one slot -/

theorem handedOver_last (a : Axis) (q : Request) (s : State) : (handedOver a q s).msc.last = s.msc.last := by
  unfold handedOver
  dsimp only
  split
  · obtain ⟨g, progress⟩ := setProgress_eq a .running (s.withMsc { s.msc with
      pending := s.msc.pending.set a none, favoured := nextAxis a,
      inForce := s.msc.inForce.set a (some q.book) })
    rw [progress]
    rfl
  · rfl

theorem StartsWhenGranted.congr {q : Request} (starts : StartsWhenGranted s b q) (axis : t.axis b = s.axis b)
    (prf : t.prf = s.prf) : StartsWhenGranted t b q := by
  unfold StartsWhenGranted goalFrom at starts ⊢
  rwa [axis, axisMaximum_of_prf prf]

/-- With one slot left an occasion grants it to the selected record, and no more. -/
theorem grantOccasion_of_one {x : Option Axis} {q : Request} (room : runningCount t + 1 = slotCount t)
    (selected : selectGrant t x = some b) (waits : t.msc.pending.get b = some q)
    (rests : running t b = false) (starts : StartsWhenGranted t b q) :
    let v := grantOccasion x t
    OnlyAxes [b] t v ∧ running v b = true ∧ v.msc.last = t.msc.last ∧
      v.msc.pending = t.msc.pending.set b none := by
  obtain ⟨d, free⟩ := exists_freeSlot (s := t) (by omega)
  obtain ⟨y, handed, pending, -⟩ := handedOver_eq b q t
  have last := handedOver_last b q t
  rw [handed] at last
  obtain ⟨r, grant, started⟩ := lduGrant_started (s := t.withMsc y)
    (starts.congr (t := t.withMsc y) rfl rfl) d
  have one : grantOne b d t = markMotion ((t.withMsc y).setAxis b r) := by
    rw [grantOne_eq waits, handed, grant]
  have only : OnlyAxes [b] t (grantOne b d t) := grantOne_axes b d t
  have runs : running (grantOne b d t) b = true := by
    have axis : (grantOne b d t).axis b = r := by
      rw [one]
      exact State.setAxis_axis_self _ b r
    rw [running, axis, started.slot]
    rfl
  have count : runningCount (grantOne b d t) = runningCount t + 1 :=
    runningCount_succ (s := t) (fun c other => running_of_axis (only c (by simpa using other))) rests runs
  have slots : slotCount (grantOne b d t) = slotCount t := by
    rw [one]
    rfl
  have occasion : grantOccasion x t = grantOne b d t := by
    unfold grantOccasion
    rw [grantLoop, if_neg (by omega), selected, free]
    exact grantLoop_of_full (by omega) x 3
  have msc : (grantOne b d t).msc = y := by
    rw [one]
    rfl
  dsimp only
  rw [occasion, msc]
  exact ⟨only, runs, last, pending⟩

/-! ## What the row shows of a yield -/

/-- What is left of a step after which the remainder has gone back: with more axes running than slots nothing
is granted; otherwise the one record that waits goes first. -/
def YieldSettled (a : Axis) (r : AxisRecord) (rest : Request) (s t : State) : Prop :=
  (slotCount s < runningCount s → HandedBack a r rest s t) ∧
  (∀ b q, b ≠ a → s.msc.pending.get b = some q → q.axis = b →
    (∀ c, c ≠ b → s.msc.pending.get c = none) → Eligible s q → StartsWhenGranted s b q →
    slotCount s = runningCount s →
    OnlyAxes [a, b] s t ∧ t.axis a = r ∧ running t b = true ∧ t.msc.last = s.msc.last ∧
      t.msc.pending.get a = some rest ∧ t.msc.pending.get b = none)

theorem HandedBack.settled {r : AxisRecord} (back : HandedBack a r rest s t) (runs : running s a = true)
    (slot : r.slot = none) (phase : r.phase = some .yielded) :
    YieldSettled a r rest s (Machine.occasionAfter a s t) := by
  have count := back.count runs slot
  rw [back.occasionAfter runs slot phase]
  refine ⟨fun crowded => ?_, fun b q other waits own alone eligible starts full => ?_⟩
  · rwa [grantOccasion_of_full (by rw [back.slotCount]; omega)]
  · obtain ⟨selected, waiting⟩ := back.selected runs other waits own alone eligible
    have axis : t.axis b = s.axis b := back.only b (by simpa using other)
    obtain ⟨only, started, last, pending⟩ := grantOccasion_of_one (x := some a)
      (by rw [back.slotCount]; omega) selected waiting
      (by rw [back.others other, ← own]; exact eligible.1) (starts.congr axis (back.frame .prf (by simp)))
    refine ⟨fun c away => ?_, (only a (by simpa using Ne.symm other)).trans back.axis, started,
      last.trans back.last, ?_, ?_⟩
    · simp only [List.mem_cons, List.not_mem_nil, or_false, not_or] at away
      obtain ⟨notA, notB⟩ := away
      exact (only c (by simpa using notB)).trans (back.only c (by simpa using notA))
    · rw [pending, PerAxis.get_set_of_ne _ _ (Ne.symm other), back.pending, PerAxis.get_set_self]
    · rw [pending, PerAxis.get_set_self]

end Sys2Proof.Machine
end

section
/-! STEP. What the row leaves after each of its ends, and the row. -/

namespace Sys2Proof.Machine

variable {s t : State} {a : Axis} {p n : Int}

/-! ## After the step (R68, R69, R70) -/

theorem stepTaken_position (a : Axis) (p : Int) (s : State) :
    ((stepTaken a p s).axis a).position = some (p + stepBy (s.axis a).direction) := by
  rw [stepTaken_axis]
  rfl

/-- An end after the step is an end of the request that was in force before it. -/
theorem Ended.of_stepTaken {r : AxisRecord} {o : MoveOutcome} {f : Option Int}
    (h : Ended a r o f (stepTaken a p s) t) : Ended a r o f s t := by
  obtain ⟨axis, only, last, favoured, pending⟩ := h
  rw [stepTaken_axis] at last
  rw [stepTaken_msc] at favoured pending
  exact ⟨axis, (stepTaken_only a p s).trans only, last, favoured, pending⟩

/-- A record put in the place of the stepped one keeps the slot, so there is no occasion. -/
theorem occasionAfter_stepTaken {x : AxisRecord} (slot : x.slot = (s.axis a).slot) :
    occasionAfter a s ((stepTaken a p s).setAxis a x) = (stepTaken a p s).setAxis a x :=
  occasionAfter_of_slot ((stepTaken_only a p s).trans (setAxis_only _ a x))
    (by rw [State.setAxis_axis_self, slot])

theorem stepTaken_setAxis (a : Axis) (p : Int) (s : State) (x : AxisRecord) :
    Unchanged [.ldu, .geo, .bkm] s ((stepTaken a p s).setAxis a x) ∧
      OnlyAxes [a] s ((stepTaken a p s).setAxis a x) ∧ ((stepTaken a p s).setAxis a x).axis a = x :=
  ⟨(stepTaken_frame a p s).trans ((setAxis_frame _ a x).weaken (by simp)),
    (stepTaken_only a p s).trans (setAxis_only _ a x), State.setAxis_axis_self _ a x⟩

/-- A segment boundary at which MSC orders a yield. -/
def StepYields (s : State) : Prop :=
  slotCount s ≤ runningCount s ∧ ∃ b q, s.msc.pending.get b = some q ∧ Eligible s q

theorem stepCalm (calm : atBoundary (s.axis a) = true → ¬StepYields s) (p : Int) :
    (atBoundary (s.axis a) && ordersYield (stepTaken a p s)) = false := by
  by_contra both
  rw [Bool.not_eq_false, Bool.and_eq_true] at both
  obtain ⟨boundary, orders⟩ := both
  exact calm boundary ((stepTaken_ordersYield a p s).mp orders)

/-- A record that steps along a leg of its move. -/
structure OnItsLeg (r : AxisRecord) (p : Int) : Prop where
  moving : r.state = .moving
  slot : r.slot.isSome = true
  known : r.position = some p
  leg : r.phase = some .travel ∨ r.phase = some .overshootReturn

theorem OnItsLeg.of_boundary {r : AxisRecord} (moving : r.state = .moving) (slot : r.slot.isSome = true)
    (known : r.position = some p) (boundary : atBoundary r = true) : OnItsLeg r p :=
  ⟨moving, slot, known, .inl ((atBoundary_iff r).mp boundary).1.1⟩

section

variable (on : OnItsLeg (s.axis a) p)

include on

theorem OnItsLeg.row : axisStep a s =
    occasionAfter a s (afterStep a (atBoundary (s.axis a)) (stepTaken a p s)) :=
  axisStep_of_move on.moving on.slot ((stepping_iff _).mpr (.inl on.leg)) on.known

theorem OnItsLeg.phase : ((stepTaken a p s).axis a).phase ≠ some .stopRamp := by
  rw [stepTaken_axis]
  show (s.axis a).phase ≠ some .stopRamp
  rcases on.leg with leg | leg <;> rw [leg] <;> decide

omit on in
theorem legEnded_stepTaken (a : Axis) (p : Int) (s : State) : legEnded ((stepTaken a p s).axis a) =
    decide (p + stepBy (s.axis a).direction = (s.axis a).legEnd) := by
  rw [Bool.eq_iff_iff, legEnded_iff, stepTaken_axis, decide_eq_true_eq]
  exact Option.some_inj

omit on in
theorem lastLeg_stepTaken (a : Axis) (p : Int) (s : State) :
    lastLeg ((stepTaken a p s).axis a) = lastLeg (s.axis a) := by
  rw [stepTaken_axis]
  rfl

/-- Within its leg, without a yield, the axis has stepped and nothing follows. -/
theorem OnItsLeg.within (away : p + stepBy (s.axis a).direction ≠ (s.axis a).legEnd)
    (calm : atBoundary (s.axis a) = true → ¬StepYields s) : axisStep a s = stepTaken a p s := by
  rw [on.row, afterStep_of_within on.phase (by rw [legEnded_stepTaken, decide_eq_false away]) (stepCalm calm p)]
  exact occasionAfter_of_slot (stepTaken_only a p s) (by rw [stepTaken_axis]; rfl)

/-- The step that ends the plan ends the move DONE. -/
theorem OnItsLeg.last (ended : p + stepBy (s.axis a).direction = (s.axis a).legEnd)
    (last : lastLeg (s.axis a) = true) :
    axisStep a s = occasionAfter a s (finishDone a (stepTaken a p s)) := by
  rw [on.row, afterStep_of_last on.phase (by rw [legEnded_stepTaken, decide_eq_true ended])
    (by rw [lastLeg_stepTaken, last])]

/-- At the end of a leg before the return leg the axis waits in the reversal dwell. -/
theorem OnItsLeg.dwells (ended : p + stepBy (s.axis a).direction = (s.axis a).legEnd)
    (more : lastLeg (s.axis a) = false) (target : (s.axis a).target = some n)
    (calm : atBoundary (s.axis a) = true → ¬StepYields s) : axisStep a s = (stepTaken a p s).setAxis a
      (((s.axis a).stepped p).beginDwell .returnLeg (n - (s.axis a).legEnd)) := by
  have goal : (((s.axis a).stepped p).target.getD 0 : Int) = n := by
    show (s.axis a).target.getD 0 = n
    rw [target]
    rfl
  rw [on.row, afterStep_of_leg on.phase (by rw [legEnded_stepTaken, decide_eq_true ended])
    (by rw [lastLeg_stepTaken, more]) (stepCalm calm p), stepTaken_axis, goal]
  exact occasionAfter_stepTaken rfl

/-- At a boundary with a yield the axis enters the stop ramp. -/
theorem OnItsLeg.ramps (goesOn : p + stepBy (s.axis a).direction ≠ (s.axis a).legEnd ∨
    lastLeg (s.axis a) = false) (boundary : atBoundary (s.axis a) = true) (orders : StepYields s) :
    axisStep a s = occasionAfter a s (startRamp a .yield (stepTaken a p s)) := by
  have unended : (legEnded ((stepTaken a p s).axis a) && lastLeg ((stepTaken a p s).axis a)) = false := by
    rw [legEnded_stepTaken, lastLeg_stepTaken]
    rcases goesOn with away | more
    · rw [decide_eq_false away, Bool.false_and]
    · rw [more, Bool.and_false]
  rw [on.row, boundary, afterStep_of_yield on.phase unended ((stepTaken_ordersYield a p s).mpr orders)]

end

/-! ## Yields (R70, R74, R93) -/

/-- Within its leg the stop ramp of a yield has steps. -/
theorem startRamp_stepTaken (away : p + stepBy (s.axis a).direction ≠ (s.axis a).legEnd) :
    startRamp a .yield (stepTaken a p s) = (stepTaken a p s).setAxis a (((s.axis a).stepped p).ramping .yield
      (rampLength (p + stepBy (s.axis a).direction) (s.axis a).legEnd)) := by
  have steps := startRamp_of_steps (stepTaken_position a p s) (by rw [stepTaken_axis]; exact away) .yield
  rwa [stepTaken_axis] at steps

theorem OnItsLeg.entersRamp (on : OnItsLeg (s.axis a) p)
    (away : p + stepBy (s.axis a).direction ≠ (s.axis a).legEnd) (boundary : atBoundary (s.axis a) = true)
    (orders : StepYields s) : axisStep a s = (stepTaken a p s).setAxis a (((s.axis a).stepped p).ramping .yield
      (rampLength (p + stepBy (s.axis a).direction) (s.axis a).legEnd)) := by
  rw [on.ramps (.inl away) boundary orders, startRamp_stepTaken away]
  exact occasionAfter_stepTaken rfl

theorem rampEnd_of_yield (yields : (s.axis a).endAction = some .yield) (known : (s.axis a).position = some p) :
    rampEnd a s = becomeYielded a s := by
  unfold rampEnd
  rw [yields, known]

theorem rampEnd_of_cancel (cancels : (s.axis a).endAction = some .cancel)
    (known : (s.axis a).position = some p) : rampEnd a s = finishIdle a .cancelled p s := by
  unfold rampEnd
  rw [cancels, known]

/-- At the end of its leg the stop ramp of a yield has no steps and ends at once. -/
theorem startRamp_stepTaken_of_end (ended : p + stepBy (s.axis a).direction = (s.axis a).legEnd) :
    startRamp a .yield (stepTaken a p s) = becomeYielded a ((stepTaken a p s).setAxis a
      (((s.axis a).stepped p).ramping .yield 0)) := by
  have empty : rampLength (p + stepBy (s.axis a).direction) ((s.axis a).stepped p).legEnd = 0 := by
    rw [ended]
    exact (congrArg (fun d : Int => min 32 (d.natAbs : Int)) (sub_self _)).trans rfl
  rw [startRamp_eq (stepTaken_position a p s), stepTaken_axis, empty, endEmptyRamp, State.setAxis_axis_self,
    if_pos ⟨rfl, rfl⟩]
  exact rampEnd_of_yield (by rw [State.setAxis_axis_self]; rfl) (by rw [State.setAxis_axis_self]; rfl)

/-- A yield of the stepped record, from a record that differs from it in its phase alone, settles. -/
theorem becomeYielded_settled {g : Byte} {source : Source} {x : Book} {r : AxisRecord} {t : State}
    (runs : running s a = true) (frame : Unchanged [.ldu, .geo, .bkm] s t) (only : OnlyAxes [a] s t)
    (record : t.axis a = r) (known : r.position = some p) (target : r.target = some n) (away : n ≠ p)
    (tag : r.tag = some g) (issuer : r.source = some source) (inForce : s.msc.inForce.get a = some x) :
    YieldSettled a (r.yielding (stepsTo p n (max 0 (n - axisBacklash s a))))
      ⟨a, .absolute n, .shared, none, g, source, x⟩ s (occasionAfter a s (becomeYielded a t)) := by
  subst record
  exact (becomeYielded_handedBack frame only known target away tag issuer inForce).settled runs rfl rfl

end Sys2Proof.Machine
end

section
/-! STEP: the ends of moves and homings, and the row. -/

namespace Sys2Proof.Machine

variable {s t : State} {a : Axis} {p n : Int}

/-! ## The end of a move (R68, R94, R96) -/

theorem finishDone_eq (known : (s.axis a).position = some p) : finishDone a s = finishIdle a .done p s := by
  unfold finishDone
  rw [known]

/-- A step after which the request in force ended with nothing waiting. -/
theorem axisStep_ended {r : AxisRecord} {o : MoveOutcome} {f : Option Int} (none : NonePending s)
    (ended : Ended a r o f s t) (row : axisStep a s = occasionAfter a s t) : axisStep a s = t := by
  rw [row, occasionAfter_of_nonePending (ended.nonePending none)]

/-- The record of an axis that has come to rest where a step led it. -/
theorem restingAt_stepTaken (a : Axis) (p q : Int) (s : State) : restingAt (stepTaken a p s) a q =
    { s.axis a with
      state := .idle, position := some q, phase := none, endAction := none,
      remaining := 0, dwell := none, slot := none, drvEn := false,
      lastStep := (s.axis a).direction, maxInForce := max (axisMaximum s a) q,
      segment := (restingAt (stepTaken a p s) a q).segment } := by
  have maximum : axisMaximum (stepTaken a p s) a = axisMaximum s a :=
    axisMaximum_of_prf (stepTaken_frame a p s .prf (by simp)) a
  rw [restingAt, maximum, stepTaken_axis]
  rfl

/-- The member's progress and the end of its group at a move that ended DONE. -/
theorem finishIdle_group {b : Book} {g : Group} (inForce : s.msc.inForce.get a = some b)
    (member : b.member = true) (group : s.msc.group = some g) (live : g.outcome = .inProgress) (q : Int) :
    ((∀ c, c ≠ a → g.members.get c = none ∨ g.members.get c = some .done) →
      (finishIdle a .done q s).msc.group = some { g with
        members := g.members.set a (some .done), outcome := .done } ∧
      HeldOn g.port .recall (finishIdle a .done q s)) ∧
    ((∃ c, c ≠ a ∧ g.members.get c ≠ none ∧ g.members.get c ≠ some .done) →
      (finishIdle a .done q s).msc.group = some { g with members := g.members.set a (some .done) }) := by
  obtain ⟨u, same, told, held⟩ := finishForce_member inForce member
    ((s.axis a).idleAt (axisMaximum s a) q) .done (some q)
  refine ⟨fun rest => ?_, fun ⟨c, other, present, unended⟩ => ?_⟩
  · obtain ⟨ended, raised⟩ := memberEnd_of_last (same.trans group) live rest
    exact ⟨told.trans ended, held _ raised⟩
  · exact told.trans (memberEnd_of_rest (same.trans group) other present unended)

/-! ## Homings (R76, R77) -/

/-- A homing stage after a step. -/
def AxisRecord.counted (r : AxisRecord) : AxisRecord :=
  { r with remaining := r.remaining - 1, lastStep := r.direction }

theorem homingStep_of_more (more : 1 < (s.axis a).remaining) :
    homingStep a s = s.setAxis a (s.axis a).counted := if_neg (by omega)

theorem homingStep_of_last (last : (s.axis a).remaining ≤ 1) :
    homingStep a s = finishLost a .homeNotFound (s.setAxis a (s.axis a).counted) := if_pos (by omega)

/-! ## The row -/

theorem runs_of_slot (slot : (s.axis a).slot.isSome = true) : running s a = true := slot

theorem axisStep_of_ramp (moving : (s.axis a).state = .moving) (slot : (s.axis a).slot.isSome = true)
    (known : (s.axis a).position = some p) (ramp : (s.axis a).phase = some .stopRamp)
    (ended : (s.axis a).remaining ≤ 1) :
    axisStep a s = occasionAfter a s (rampEnd a (stepTaken a p s)) := by
  rw [axisStep_of_move moving slot ((stepping_iff _).mpr (.inr ramp)) known, afterStep_of_ramp]
  · rw [stepTaken_axis]
    exact ramp
  · rw [stepTaken_axis]
    show (s.axis a).remaining - 1 ≤ 0
    omega

/-- Off TRAVEL no segment counts. -/
theorem stepped_segment_of_ramp {r : AxisRecord} (ramp : r.phase = some .stopRamp) (p : Int) :
    (r.stepped p).segment = r.segment := by
  have free : countsSegment r = false := by
    rw [countsSegment, ramp]
    rfl
  rw [stepped_of_uncounted free]

/-- The record of a step in negative direction. -/
theorem stepped_of_negative {r : AxisRecord} (negative : r.direction = .negative) (p : Int) : r.stepped p =
    { r with position := some (p - 1), remaining := r.remaining - 1, segment := (r.stepped p).segment,
             lastStep := .negative } := by
  have step : p + stepBy r.direction = p - 1 := by
    rw [negative]
    rfl
  have last : (r.stepped p).lastStep = .negative := negative
  rw [← step, ← last]
  rfl

theorem lastLeg_of_return {r : AxisRecord} (negative : r.direction = .negative) (target : r.target = some n)
    (returns : n ≠ r.legEnd) : lastLeg r = false := by
  simp [lastLeg, negative, target, returns]

/-- Settles O45: along a leg within it, at a boundary, at its end before a return leg and at the end of the
plan; at the end of a stop ramp; along a stage of a homing. -/
theorem stepMovesTheAxisAndEndsItsMove : Obligations.StepMovesTheAxisAndEndsItsMove := by
  intro a s awake r one counts boundary legs yields handedBack
  have direction : one = stepBy r.direction := (stepBy_eq r.direction).symm
  clear_value one
  subst direction
  have bound : atBoundary r = true ↔ boundary := atBoundary_iff r
  have uncalm : ∀ {b : Prop}, ¬boundary → atBoundary r = true → b := fun free ending =>
    absurd (bound.mp ending) free
  have settled : ∀ {p n segment rest x t}, YieldSettled a x rest s t → x = { r with
      position := some p, lastStep := r.direction, segment := segment, phase := some .yielded,
      endAction := none, slot := none, drvEn := false,
      remaining := stepsTo p n (max 0 (n - axisBacklash s a)) } → handedBack p n segment rest t := by
    rintro p n segment rest x t ⟨crowded, first⟩ rfl
    refine ⟨fun full => ?_, first⟩
    obtain ⟨frame, only, axis, last, pending⟩ := crowded full
    exact ⟨frame, only, axis, last, pending⟩
  refine ⟨_, exec_step a awake, fun p moving slot known leg away free => ?_,
    fun p moving slot known ending away => ?_, fun p n moving slot known leg negative ended target returns free => ?_,
    fun p n g source x moving slot known ending negative ended target returns tag issuer inForce => ?_,
    fun p moving slot known leg last ended none => ?_, fun p moving slot known ramp cancels short none => ?_,
    fun p n g source x moving slot known ramp gives short target tag issuer inForce away => ?_,
    fun homing stage => ⟨fun more => ?_, fun short none => ?_⟩⟩
  · have on : OnItsLeg r p := ⟨moving, slot, known, leg⟩
    rw [on.within away (uncalm free)]
    refine ⟨stepTaken_frame a p s, stepTaken_only a p s, fun aside => ?_, fun counting => ?_, fun idle => ?_⟩
    · rw [stepTaken_aside aside]
      exact setAxis_frame s a _
    · exact (stepTaken_axis a p s).trans (stepped_of_counts ((countsSegment_iff r).mpr counting) p)
    · exact (stepTaken_axis a p s).trans
        (stepped_of_uncounted (Bool.eq_false_iff.mpr (mt (countsSegment_iff r).mp idle)) p)
  · have bounded := bound.mpr ending
    have on := OnItsLeg.of_boundary moving slot known bounded
    have record := stepped_atBoundary bounded p
    by_cases orders : StepYields s
    · have row := on.entersRamp away bounded orders
      obtain ⟨frame, only, axis⟩ := stepTaken_setAxis a p s (((s.axis a).stepped p).ramping .yield
        (rampLength (p + stepBy (s.axis a).direction) (s.axis a).legEnd))
      rw [row]
      exact ⟨frame, only, fun _ => axis.trans (congrArg (AxisRecord.ramping · _ _) record),
        fun calm => absurd orders calm⟩
    · rw [on.within away fun _ => orders]
      exact ⟨stepTaken_frame a p s, stepTaken_only a p s, fun gives => absurd gives orders,
        fun _ => (stepTaken_axis a p s).trans record⟩
  · have on : OnItsLeg r p := ⟨moving, slot, known, leg⟩
    have here : p + stepBy r.direction = p - 1 := congrArg (p + stepBy ·) negative
    have row := on.dwells (here.trans ended) (lastLeg_of_return negative target returns) target (uncalm free)
    obtain ⟨frame, only, axis⟩ := stepTaken_setAxis a p s
      ((r.stepped p).beginDwell .returnLeg (n - r.legEnd))
    rw [row, axis]
    exact ⟨frame, only, congrArg (AxisRecord.beginDwell · _ _) (stepped_of_negative negative p)⟩
  · have bounded := bound.mpr ending
    have on := OnItsLeg.of_boundary moving slot known bounded
    have here : p + stepBy r.direction = p - 1 := congrArg (p + stepBy ·) negative
    have more := lastLeg_of_return negative target returns
    refine ⟨fun calm => ?_, fun orders => ?_⟩
    · have row := on.dwells (here.trans ended) more target fun _ => calm
      have record := stepped_of_negative negative p
      rw [stepped_atBoundary bounded p] at record
      obtain ⟨frame, only, axis⟩ := stepTaken_setAxis a p s
        ((r.stepped p).beginDwell .returnLeg (n - r.legEnd))
      rw [row]
      exact ⟨frame, only, axis.trans (congrArg (AxisRecord.beginDwell · _ _)
        ((stepped_atBoundary bounded p).trans record))⟩
    · have row := on.ramps (.inr more) bounded orders
      rw [startRamp_stepTaken_of_end (here.trans ended)] at row
      obtain ⟨frame, only, axis⟩ := stepTaken_setAxis a p s ((r.stepped p).ramping .yield 0)
      rw [row]
      refine settled (becomeYielded_settled (runs_of_slot slot) frame only axis (congrArg some here) target
        (ended ▸ returns) tag issuer inForce) ?_
      rw [stepped_atBoundary bounded p, here]
      rfl
  · have on : OnItsLeg r p := ⟨moving, slot, known, leg⟩
    have row := on.last ended ((lastLeg_iff r).mpr last)
    rw [finishDone_eq (stepTaken_position a p s)] at row
    have done := (finishIdle_ended a .done (p + stepBy r.direction) (stepTaken a p s)).of_stepTaken
    rw [axisStep_ended none done row, done.axis]
    refine ⟨done.only, restingAt_stepTaken a p _ s, done.last, fun b inForce port => ?_,
      fun b g inForce member group live => ?_⟩
    · exact (finishForce_move (s := stepTaken a p s) (by rw [stepTaken_msc]; exact inForce) port _ .done _).1 rfl
    · obtain ⟨ends, goesOn⟩ := finishIdle_group (s := stepTaken a p s) (by rw [stepTaken_msc]; exact inForce)
        member (by rw [stepTaken_msc]; exact group) live (p + stepBy r.direction)
      refine ⟨fun rest => ?_, goesOn⟩
      obtain ⟨ended, onM, onS⟩ := ends rest
      exact ⟨ended, onM, onS⟩
  · have row := axisStep_of_ramp moving slot known ramp short
    rw [rampEnd_of_cancel (by rw [stepTaken_axis]; exact cancels) (stepTaken_position a p s)] at row
    have done := (finishIdle_ended a .cancelled (p + stepBy r.direction) (stepTaken a p s)).of_stepTaken
    rw [axisStep_ended none done row, done.axis]
    exact ⟨done.only, rfl, rfl, rfl, rfl, rfl, done.last⟩
  · have row := axisStep_of_ramp moving slot known ramp short
    rw [rampEnd_of_yield (by rw [stepTaken_axis]; exact gives) (stepTaken_position a p s)] at row
    rw [row]
    refine settled (becomeYielded_settled (runs_of_slot slot) (stepTaken_frame a p s) (stepTaken_only a p s)
      (stepTaken_axis a p s) rfl target away tag issuer inForce) ?_
    rw [← stepped_segment_of_ramp ramp p]
    rfl
  · rw [axisStep_of_homing homing stage, homingStep_of_more more, occasionAfter_setAxis (r := r.counted) rfl]
    exact setAxis_after s a r.counted
  · have lost := (finishLost_ended a .homeNotFound (s.setAxis a r.counted)).of_setAxis rfl rfl
    rw [axisStep_of_homing homing stage, homingStep_of_last short,
      occasionAfter_of_nonePending (lost.nonePending none), lost.axis, State.setAxis_axis_self]
    exact ⟨lost.only, rfl, rfl, rfl, rfl, lost.last⟩

end Sys2Proof.Machine
end

section
/-! The queries. Each is a record of fields of fixed width, taken from what the frame of the query itself leaves
as it was. -/

namespace Sys2Proof.Machine

variable {s : State}

/-! ## The widths of fields (R159) -/

@[simp] theorem byte1_length (n : Nat) : (byte1 n).length = 1 := rfl

@[simp] theorem byteFlag_length (b : Bool) : (byteFlag b).length = 1 := rfl

@[simp] theorem bytes2_length (x : Int) : (bytes2 x).length = 2 := rfl

@[simp] theorem bytes2Opt_length (x : Option Int) : (bytes2Opt x).length = 2 := rfl

@[simp] theorem bytes4_length (x : Int) : (bytes4 x).length = 4 := rfl

@[simp] theorem causeBytes_length (x : CauseSet) : (causeBytes x).length = 2 := rfl

@[simp] theorem tagField_length (x : Option Byte) : (tagField x).length = 1 := rfl

@[simp] theorem slotField_length (x : Option DriveSlot) : (slotField x).length = 1 := by
  rcases x with _ | _ | _ <;> rfl

@[simp] theorem enumOpt_length {α : Type} (place : α → Nat) (x : Option α) :
    (enumOpt place x).length = 1 := by cases x <;> rfl

/-- A group takes as many bytes whether it is present or absent. -/
theorem groupOpt_length {size : Nat} {fields : Option (List Byte)}
    (width : ∀ x, fields = some x → x.length = size) : (groupOpt size fields).length = size + 1 := by
  cases fields with
  | none => simp [groupOpt]
  | some x => simp [groupOpt, width x rfl]

/-! ## The widths of the records (R147, R167, R168) -/

theorem tripCauseBytes_length (c : TripCause) : (tripCauseBytes c).length = 5 := by
  rcases c with ⟨_, _ | _, _⟩ <;> rfl

theorem groupBytes_length (g : Group) : (groupBytes g).length = 9 := by
  simp [groupBytes, axisSetByte, allAxes]

theorem statusPower_length (s : State) : (statusPower s).length = 17 := by
  have trip : (groupOpt 5 (s.lps.lastTrip.map tripCauseBytes)).length = 6 := groupOpt_length fun x present => by
    obtain ⟨c, -, rfl⟩ := Option.map_eq_some_iff.mp present
    exact tripCauseBytes_length c
  simp [statusPower, trip]

theorem statusSensing_length (s : State) : (statusSensing s).length = 30 := by
  simp [statusSensing, channelSetBytes, fanBytes, allFans]

theorem statusLens_length (s : State) : (statusLens s).length = 22 := by
  have group : (groupOpt 9 (s.msc.group.map groupBytes)).length = 10 := groupOpt_length fun x present => by
    obtain ⟨g, -, rfl⟩ := Option.map_eq_some_iff.mp present
    exact groupBytes_length g
  simp [statusLens, group, allAxes]

theorem statusBytes_length (s : State) (p : Port) : (statusBytes s p).length = 79 := by
  simp [statusBytes, statusPower_length, statusSensing_length, statusLens_length]

theorem axisAnswer_length (s : State) (a : Axis) : (axisAnswer s a).length = 36 := by
  have record : (axisBytes s a).length = 22 := by simp [axisBytes]
  have last : (lastBytes (s.msc.last.get a)).length = 5 := by simp [lastBytes]
  have tracker : (groupOpt 8 (if a = .fc then some (trackerBytes s.fdt) else none)).length = 9 :=
    groupOpt_length fun x present => by
      split at present
      · cases present
        rfl
      · cases present
  rw [axisAnswer, List.length_append, List.length_append, record, last, tracker]

theorem bankBytes_length (s : State) : (bankBytes s).length = 25 := by
  have loan : (groupOpt 6 (s.bkm.loan.map loanBytes)).length = 7 := groupOpt_length fun x present => by
    obtain ⟨l, -, rfl⟩ := Option.map_eq_some_iff.mp present
    rfl
  simp [bankBytes, loan, allBanks]

/-! ## Operand bytes as the records show them -/

theorem byte1_of_channel {b : Byte} {c : Channel} (h : channelOfByte b = some c) :
    byte1 (channelNumber c) = [b] := by
  have number : channelNumber c = b.toNat := by
    unfold channelOfByte at h
    split at h <;> cases h <;> exact Eq.symm ‹_›
  rw [byte1, number, BitVec.ofNat_toNat, BitVec.setWidth_eq]

theorem byte1_of_slot {b : Byte} {n : Fin 10} (h : slotOfByte b = some n) : byte1 n.val = [b] := by
  unfold slotOfByte at h
  split at h
  · cases h
    rw [byte1, BitVec.ofNat_toNat, BitVec.setWidth_eq]
  · cases h

/-! ## The commands (R99, R147, R167, R168) -/

/-- A command whose block gives a record and changes nothing is answered with the record. -/
theorem query_answered {α : Type} {c : Cmd} {parse : List Byte → Option α}
    {run : α → State → State × Answer} {p : Port} {d record : List Byte} {x : α} (awake : s.inReset = false)
    (permitted : cmdPermitted c p = true) (length : cmdLengthOk c d.length = true) (parsed : parse d = some x)
    (answers : run x (shiftOut p (d.length + 2) s) = (shiftOut p (d.length + 2) s, answerOk record)) :
    Answered p (cmdCode c) d .ok record s (takeCommand c parse run p d s) ∧
      Unchanged [.ports] s (takeCommand c parse run p d s) := by
  rw [takeCommand_of_accepted awake permitted length parsed, answers]
  exact answered_only p (cmdCode c) d (answerOk record) s

/-- The frame of a query leaves the frame-loss counts and the cause sets that STATUS shows. -/
theorem statusBytes_shiftOut (p : Port) (n : Nat) (s : State) :
    statusBytes (shiftOut p n s) p = statusBytes s p := by
  cases p <;> rfl

/-- Settles O20: command by command, the record and its width. -/
theorem queriesAnswerTheirRecordsAndChangeNothing : Obligations.QueriesAnswerTheirRecordsAndChangeNothing := by
  intro s awake
  refine ⟨fun p port => ?_, fun b c channel => ?_, fun b a axis => ?_, fun b n slot => ?_, ?_⟩
  · have permitted : cmdPermitted .status p = true := by rcases port with rfl | rfl <;> rfl
    obtain ⟨answered, frame⟩ := query_answered (run := runStatus p) (parse := parseNone) (d := []) (x := ())
      awake permitted rfl rfl rfl
    rw [statusBytes_shiftOut] at answered
    exact ⟨_, exec_next _ s, answered, frame, statusBytes_length s p⟩
  · obtain ⟨answered, frame⟩ := query_answered (p := .m) (c := .sensor) (run := runSensor .m) (d := [b])
      (record := sensorBytes s c) (parse := parseChannel) awake rfl rfl channel rfl
    rw [sensorBytes, byte1_of_channel channel] at answered
    exact ⟨_, exec_next _ s, answered, frame⟩
  · obtain ⟨answered, frame⟩ := query_answered (p := .m) (c := .axis) (run := runAxis .m) (d := [b])
      (record := axisAnswer s a) (parse := parseAxis) awake rfl rfl axis rfl
    exact ⟨_, exec_next _ s, answered, frame, axisAnswer_length s a⟩
  · obtain ⟨answered, frame⟩ := query_answered (p := .m) (c := .presetRead) (run := runPresetRead .m) (d := [b])
      (record := presetAnswer s n) (parse := parseSlot) awake rfl rfl slot rfl
    rw [presetAnswer, byte1_of_slot slot] at answered
    exact ⟨_, exec_next _ s, answered, frame⟩
  · obtain ⟨answered, frame⟩ := query_answered (p := .v) (c := .bankStatus) (run := runBankStatus .v) (d := [])
      (record := bankBytes s) (parse := parseNone) (x := ()) awake rfl rfl rfl rfl
    exact ⟨_, exec_next _ s, answered, frame, bankBytes_length s⟩

end Sys2Proof.Machine
end

section
/-! PRESET_SAVE and PRESET_ERASE. Both change one slot and mark its item; the checks of SAVE are tests over the
axes of its set. -/

namespace Sys2Proof.Machine

variable {s t : State}

/-! ## One slot of the table (R97, R171) -/

theorem changeSlot_frame (n : Fin 10) (x : Option Preset) (s : State) :
    Unchanged [.ptb, .nvs] s (changeSlot n x s) :=
  ((withPtb_frame s _).weaken (by simp)).trans ((markDirty_frame _ _).weaken (by simp))

theorem changeSlot_ptb (n : Fin 10) (x : Option Preset) (s : State) :
    (changeSlot n x s).ptb.slots = s.ptb.slots.set n x :=
  congrArg Ptb.slots (markDirty_frame (.preset n) _ .ptb (by simp))

theorem changeSlot_slot_self (n : Fin 10) (x : Option Preset) (s : State) :
    (changeSlot n x s).ptb.slots.get n = x := by
  rw [changeSlot_ptb, Vector.get_eq_getElem, Vector.getElem_set_self]

theorem changeSlot_slot_of_ne {n m : Fin 10} (other : m ≠ n) (x : Option Preset) (s : State) :
    (changeSlot n x s).ptb.slots.get m = s.ptb.slots.get m := by
  rw [changeSlot_ptb, Vector.get_eq_getElem, Vector.get_eq_getElem,
    Vector.getElem_set_ne _ _ fun same => other (Fin.ext same.symm)]

/-- What a command that changes one slot leaves behind. -/
structure SlotChanged (n : Fin 10) (x : Option Preset) (s t : State) : Prop where
  frame : Unchanged [.ports, .ptb, .nvs] s t
  slot : t.ptb.slots.get n = x
  others : ∀ m, m ≠ n → t.ptb.slots.get m = s.ptb.slots.get m
  marked : Marked (.preset n) t
  stored : t.nvs.slots = s.nvs.slots ∧ t.nvs.geometry = s.nvs.geometry

theorem changeSlot_taken (n : Fin 10) (x : Option Preset) (p : Port) (k : Nat) (c : Byte) (a : Answer)
    (s : State) : SlotChanged n x s (respond p c a (changeSlot n x (shiftOut p k s))) where
  frame := (changeSlot_frame n x _).taken c a
  slot := changeSlot_slot_self n x (shiftOut p k s)
  others _ other := changeSlot_slot_of_ne other x (shiftOut p k s)
  marked := markDirty_marked (.preset n) ((shiftOut p k s).withPtb _)
  stored := markDirty_stored (.preset n) ((shiftOut p k s).withPtb _)

theorem changeSlot_answered (n : Fin 10) (x : Option Preset) (p : Port) (c : Byte) (d : List Byte) (s : State) :
    Answered p c d .ok [] s (respond p c (answerOk []) (changeSlot n x (shiftOut p (d.length + 2) s))) :=
  respond_answered p c d (answerOk []) (changeSlot_frame n x _ .ports (by simp))

/-! ## PRESET_ERASE (R99) -/

theorem exec_presetErase {b : Byte} {n : Fin 10} (awake : s.inReset = false) (slot : slotOfByte b = some n) :
    exec (.presetErase .m [b]) s = .next (respond .m 0x29 (erasePreset n (shiftOut .m 3 s)).2
      (erasePreset n (shiftOut .m 3 s)).1) :=
  (exec_next _ s).trans (congrArg _
    (takeCommand_of_accepted (parse := parseSlot) (d := [b]) awake rfl rfl slot))

theorem erasePreset_of_empty {n : Fin 10} (empty : s.ptb.slots.get n = none) :
    erasePreset n s = (s, answerOk []) := by
  unfold erasePreset
  rw [empty]

theorem erasePreset_of_record {n : Fin 10} (held : s.ptb.slots.get n ≠ none) :
    erasePreset n s = (changeSlot n none s, answerOk []) := by
  unfold erasePreset
  cases record : s.ptb.slots.get n with
  | none => exact absurd record held
  | some x => rfl

/-! ## PRESET_SAVE (R98) -/

theorem exec_presetSave {d : List Byte} {x : SaveOperands} (awake : s.inReset = false) (length : d.length = 11)
    (parsed : parseSave d = some x) : exec (.presetSave .m d) s =
      .next (respond .m 0x28 (savePreset x (shiftOut .m (d.length + 2) s)).2
        (savePreset x (shiftOut .m (d.length + 2) s)).1) := by
  have fits : cmdLengthOk .presetSave d.length = true := by
    rw [length]
    rfl
  exact (exec_next _ s).trans (congrArg _ (takeCommand_of_accepted awake rfl fits parsed))

theorem anyAxis_iff (axes : PerAxis Bool) (test : Axis → Bool) :
    anyAxis axes test = true ↔ ∃ a, axes.get a = true ∧ test a = true := by
  simp [anyAxis, mem_allAxes]

/-- Some axis of the set runs, is YIELDED or has a pending record. -/
def SaveBusy (s : State) (x : SaveOperands) : Prop := ∃ a, x.axes.get a = true ∧
  (running s a = true ∨ yielded s a = true ∨ (s.msc.pending.get a).isSome = true)

/-- Some axis of the set is LOST. -/
def SaveLost (s : State) (x : SaveOperands) : Prop := ∃ a, x.axes.get a = true ∧ (s.axis a).state = .lost

/-- The focus is to be saved and LNS is not NORMAL. -/
def SaveUnread (s : State) (x : SaveOperands) : Prop := x.axes.fc = true ∧ normalTemp s .lns = none

theorem saveBusy_iff (s : State) (x : SaveOperands) : anyAxis x.axes (axisBusy s) = true ↔ SaveBusy s x := by
  simp only [anyAxis_iff, SaveBusy, axisBusy, Bool.or_eq_true, or_assoc]

theorem saveLost_iff (s : State) (x : SaveOperands) :
    anyAxis x.axes (fun a => (s.axis a).state == .lost) = true ↔ SaveLost s x := by
  simp only [anyAxis_iff, SaveLost, beq_iff_eq]

theorem saveUnread_iff (s : State) (x : SaveOperands) :
    (x.axes.fc && (normalTemp s .lns).isNone) = true ↔ SaveUnread s x := by
  simp only [SaveUnread, Bool.and_eq_true, Option.isNone_iff_eq_none]

theorem savePreset_of_refusal {x : SaveOperands} {r : Result} (h : saveRefusal s x = some r) :
    savePreset x s = (s, refuse r) := by
  unfold savePreset
  rw [h]

theorem savePreset_of_busy {x : SaveOperands} (busy : SaveBusy s x) : savePreset x s = (s, refuse .busy) :=
  savePreset_of_refusal (if_pos ((saveBusy_iff s x).mpr busy))

theorem savePreset_of_lost {x : SaveOperands} (free : ¬SaveBusy s x) (lost : SaveLost s x) :
    savePreset x s = (s, refuse .axisLost) :=
  savePreset_of_refusal ((if_neg (mt (saveBusy_iff s x).mp free)).trans (if_pos ((saveLost_iff s x).mpr lost)))

theorem savePreset_of_unread {x : SaveOperands} (free : ¬SaveBusy s x) (known : ¬SaveLost s x)
    (unread : SaveUnread s x) : savePreset x s = (s, refuse .notReady) :=
  savePreset_of_refusal ((if_neg (mt (saveBusy_iff s x).mp free)).trans
    ((if_neg (mt (saveLost_iff s x).mp known)).trans (if_pos ((saveUnread_iff s x).mpr unread))))

theorem savePreset_of_accepted {x : SaveOperands} (free : ¬SaveBusy s x) (known : ¬SaveLost s x)
    (read : ¬SaveUnread s x) :
    savePreset x s = (changeSlot x.slot (some (savedPreset s x)) s, answerOk []) := by
  have passes : saveRefusal s x = none := (if_neg (mt (saveBusy_iff s x).mp free)).trans
    ((if_neg (mt (saveLost_iff s x).mp known)).trans (if_neg (mt (saveUnread_iff s x).mp read)))
  unfold savePreset
  rw [passes]

theorem savedPreset_position (s : State) (x : SaveOperands) (a : Axis) :
    (savedPreset s x).positions.get a = if x.axes.get a then shownPosition s a else none := by
  cases a <;> rfl

/-- Settles O48: a slot is changed or left, by its record for ERASE and by the checks in their order for
SAVE. -/
theorem presetSaveAndEraseChangeTheSlot : Obligations.PresetSaveAndEraseChangeTheSlot := by
  refine ⟨fun b n s awake slot => ?_, ?_⟩
  · rw [exec_presetErase awake slot]
    by_cases empty : s.ptb.slots.get n = none
    · rw [erasePreset_of_empty (s := shiftOut .m 3 s) empty]
      obtain ⟨answered, frame⟩ := answered_only .m 0x29 [b] (answerOk []) s
      exact ⟨_, rfl, answered, fun _ => frame, fun held => absurd empty held⟩
    · rw [erasePreset_of_record (s := shiftOut .m 3 s) empty]
      obtain ⟨frame, erased, others, marked, stored⟩ := changeSlot_taken n none .m 3 0x29 (answerOk []) s
      exact ⟨_, rfl, changeSlot_answered n none .m 0x29 [b] s, fun held => absurd held empty,
        fun _ => ⟨frame, erased, others, marked, stored⟩⟩
  · intro d x s awake length parsed busy lost unread
    set u := shiftOut .m (d.length + 2) s
    have refused : ∀ r, savePreset x u = (u, refuse r) → ∃ t, exec (.presetSave .m d) s = .next t ∧
        Answered .m 0x28 d r [] s t ∧ Unchanged [.ports] s t := fun r refuses => by
      rw [exec_presetSave awake length parsed, refuses]
      exact ⟨_, rfl, answered_only .m 0x28 d (refuse r) s⟩
    by_cases isBusy : busy
    · obtain ⟨t, row, refusal⟩ := refused .busy (savePreset_of_busy (s := u) isBusy)
      exact ⟨t, row, fun _ => refusal, fun free => absurd isBusy free, fun free => absurd isBusy free,
        fun free => absurd isBusy free⟩
    by_cases isLost : lost
    · obtain ⟨t, row, refusal⟩ := refused .axisLost (savePreset_of_lost (s := u) isBusy isLost)
      exact ⟨t, row, fun h => absurd h isBusy, fun _ _ => refusal, fun _ known => absurd isLost known,
        fun _ known => absurd isLost known⟩
    by_cases isUnread : unread
    · obtain ⟨t, row, refusal⟩ := refused .notReady (savePreset_of_unread (s := u) isBusy isLost isUnread)
      exact ⟨t, row, fun h => absurd h isBusy, fun _ h => absurd h isLost, fun _ _ _ => refusal,
        fun _ _ read => absurd isUnread read⟩
    rw [exec_presetSave awake length parsed, savePreset_of_accepted (s := u) isBusy isLost isUnread]
    obtain ⟨frame, saved, others, marked, slots, geometry⟩ :=
      changeSlot_taken x.slot (some (savedPreset u x)) .m (d.length + 2) 0x28 (answerOk []) s
    exact ⟨_, rfl, fun h => absurd h isBusy, fun _ h => absurd h isLost, fun _ _ h => absurd h isUnread,
      fun _ _ _ => ⟨changeSlot_answered _ _ .m 0x28 d s, frame, marked, slots, geometry, others,
        _, saved, rfl, savedPreset_position u x, rfl, rfl, rfl⟩⟩

end Sys2Proof.Machine
end

section
/-! SUPPORT. The recall group through placings and grants: its slot, tag and port stay, and once its flags are
cleared no grant changes it (R96). -/

namespace Sys2Proof.Machine

variable {s t : State} {a : Axis}

/-! ## Which recall the group is of -/

/-- Slot, tag and port of the recall group. -/
def recallOf (s : State) : Option (Fin 10 × Byte × Port) := s.msc.group.map fun g => (g.slot, g.tag, g.port)

theorem recallOf_congr (h : t.msc.group = s.msc.group) : recallOf t = recallOf s := by
  unfold recallOf
  rw [h]

theorem recallOf_of_unchanged {l : List Part} (h : Unchanged l s t) (msc : Part.msc ∉ l) :
    recallOf t = recallOf s := recallOf_congr (congrArg Msc.group (h .msc msc))

@[simp] theorem recallOf_setProgress (a : Axis) (p : Progress) (s : State) :
    recallOf (setProgress a p s) = recallOf s := by
  unfold setProgress
  split
  · rfl
  · rename_i g group
    simp [recallOf, group]

@[simp] theorem recallOf_endGroup (o : GroupOutcome) (s : State) : recallOf (endGroup o s) = recallOf s := by
  cases group : s.msc.group with
  | none => rw [endGroup, group]
  | some g => simp [recallOf, (endGroup_ended group o).1, group]

@[simp] theorem recallOf_settleGroup (s : State) : recallOf (settleGroup s) = recallOf s := by
  unfold settleGroup
  split
  · rfl
  · split <;> simp

@[simp] theorem recallOf_tellGroup (a : Axis) (e : MoveEnd) (s : State) :
    recallOf (tellGroup a e s) = recallOf s := by
  unfold tellGroup memberEnd
  dsimp only
  split
  · split
    · simp
    · split <;> simp
  · rfl

@[simp] theorem recallOf_recordEnd (a : Axis) (e : MoveEnd) (s : State) :
    recallOf (recordEnd a e s) = recallOf s := by
  rw [recallOf_of_unchanged (recordEnd_told a e s) (by simp), endTold, recallOf_tellGroup]
  exact recallOf_congr (raised_group a e s)

/-! ## Ends, plans and orders -/

@[simp] theorem recallOf_finishForce (a : Axis) (r : AxisRecord) (o : MoveOutcome) (f : Option Int)
    (s : State) : recallOf (finishForce a r o f s) = recallOf s := recallOf_recordEnd _ _ _

@[simp] theorem recallOf_finishIdle (a : Axis) (o : MoveOutcome) (p : Int) (s : State) :
    recallOf (finishIdle a o p s) = recallOf s := recallOf_finishForce _ _ _ _ _

@[simp] theorem recallOf_finishLost (a : Axis) (o : MoveOutcome) (s : State) :
    recallOf (finishLost a o s) = recallOf s := recallOf_finishForce _ _ _ _ _

@[simp] theorem recallOf_replanAfterRamp (a : Axis) (s : State) :
    recallOf (replanAfterRamp a s) = recallOf s := by
  unfold replanAfterRamp finishDone
  dsimp only
  split
  · split <;> simp
  · split <;> rfl

@[simp] theorem recallOf_homeAfterRamp (a : Axis) (s : State) : recallOf (homeAfterRamp a s) = recallOf s := by
  unfold homeAfterRamp
  dsimp only
  split <;> rfl

@[simp] theorem recallOf_becomeYielded (a : Axis) (s : State) : recallOf (becomeYielded a s) = recallOf s := by
  unfold becomeYielded
  dsimp only
  split
  · exact recallOf_setProgress _ _ _
  · rfl

@[simp] theorem recallOf_endEmptyRamp (a : Axis) (s : State) : recallOf (endEmptyRamp a s) = recallOf s := by
  unfold endEmptyRamp rampEnd
  split
  · split <;> simp
  · rfl

@[simp] theorem recallOf_replaceForce (a : Axis) (r : AxisRecord) (b : Book) (f : Option Int) (s : State) :
    recallOf (replaceForce a r b f s) = recallOf s := recallOf_recordEnd _ _ _

@[simp] theorem recallOf_retarget (a : Axis) (q : Request) (s : State) :
    recallOf (retarget a q s) = recallOf s := by
  unfold retarget
  dsimp only
  split
  · rfl
  · split
    · simp
    · simp
    · split <;> simp

/-! ## Placings and grants of moves (R88, R91) -/

theorem recallOf_passToRunning {q : Request} (move : q.kind ≠ .home) (s : State) :
    recallOf (passToRunning q s) = recallOf s := by
  have passed : recallOf (if (s.axis q.axis).state = .moving then retarget q.axis q s else s) = recallOf s := by
    split <;> simp
  unfold passToRunning
  cases kind : q.kind with
  | home => exact absurd kind move
  | absolute v | relative v =>
    dsimp only
    split <;> simp [passed]

@[simp] theorem recallOf_supersedePending (a : Axis) (s : State) :
    recallOf (supersedePending a s) = recallOf s := by
  unfold supersedePending
  split
  · unfold endYielded
    split
    · rfl
    · exact recallOf_finishIdle _ _ _ _
  · unfold dropRequest
    split
    · rfl
    · exact recallOf_recordEnd _ _ _

theorem recallOf_place {n : NewRequest} (move : n.kind ≠ .home) (s : State) :
    recallOf (place n s) = recallOf s := by
  unfold place
  dsimp only
  split
  · exact recallOf_passToRunning (q := stamped n s.msc.nextStamp) move _
  · exact recallOf_supersedePending n.axis (nextStamp s)

@[simp] theorem recallOf_placeMember (x : Preset) (comp : Int) (tag : Byte) (p : Port) (a : Axis) (s : State) :
    recallOf (placeMember x comp tag p a s) = recallOf s := by
  unfold placeMember
  split
  · rfl
  · exact recallOf_place (by simp [memberRequest]) s

@[simp] theorem recallOf_lduGrant (a : Axis) (q : Request) (d : DriveSlot) (s : State) :
    recallOf (lduGrant a q d s) = recallOf s := by
  unfold lduGrant
  split
  · rfl
  · unfold grantMove
    dsimp only
    split
    · exact recallOf_finishLost _ _ _
    · split
      · exact recallOf_finishIdle _ _ _ _
      · exact (recallOf_of_unchanged (startMove_frame _ _ _ _ _) (by simp)).trans rfl
  · exact recallOf_finishLost _ _ _

@[simp] theorem recallOf_grantOne (a : Axis) (d : DriveSlot) (s : State) :
    recallOf (grantOne a d s) = recallOf s := by
  unfold grantOne
  split
  · rfl
  · rw [recallOf_lduGrant]
    split
    · exact recallOf_setProgress _ _ _
    · rfl

@[simp] theorem recallOf_grantOccasion (x : Option Axis) (s : State) :
    recallOf (grantOccasion x s) = recallOf s := by
  unfold grantOccasion
  generalize 4 = n
  induction n generalizing s with
  | zero => rfl
  | succ n ih =>
    unfold grantLoop
    split
    · rfl
    · split
      · rw [ih, recallOf_grantOne]
      · rfl

/-! ## A group that has ended (R96) -/

/-- The group is the given one, and no waiting request is flagged as a member of it. -/
structure GroupApart (g : Group) (s : State) : Prop where
  group : s.msc.group = some g
  pending : ∀ a q, s.msc.pending.get a = some q → q.book.member = false

theorem endGroup_apart {g : Group} (h : s.msc.group = some g) (o : GroupOutcome) :
    GroupApart { g with outcome := o } (endGroup o s) := by
  refine ⟨(endGroup_ended h o).1, fun a q waits => ?_⟩
  have cleared : (endGroup o s).msc.pending = s.msc.pending.map fun r => r.map Request.unflagged := by
    rw [endGroup, h]
    rfl
  rw [cleared, PerAxis.get_map] at waits
  obtain ⟨r, -, rfl⟩ := Option.map_eq_some_iff.mp waits
  rfl

/-- The end of a request that is no member tells the group nothing. -/
theorem recordEnd_of_plain {e : MoveEnd} (plain : e.book.member = false) (a : Axis) (s : State) :
    (recordEnd a e s).msc.group = s.msc.group ∧ (recordEnd a e s).msc.pending = s.msc.pending := by
  have told : endTold a e s = raiseOnIssuer .move e.book.port (recordResult a e s) := if_neg (by simp [plain])
  have msc : (recordEnd a e s).msc = (recordResult a e s).msc := by
    rw [(recordEnd_told a e s .msc (by simp) :), told]
    exact raiseOnIssuer_frame _ _ _ .msc (by simp)
  rw [msc]
  exact ⟨rfl, rfl⟩

theorem lduGrant_of_plain (plain : (bookOf s a).member = false) (q : Request) (d : DriveSlot) :
    (lduGrant a q d s).msc.group = s.msc.group ∧ (lduGrant a q d s).msc.pending = s.msc.pending := by
  have ends : ∀ x r o f, (finishForce a r o f (s.setAxis a x)).msc.group = s.msc.group ∧
      (finishForce a r o f (s.setAxis a x)).msc.pending = s.msc.pending := fun x r o f =>
    recordEnd_of_plain (e := endOfForce ((s.setAxis a x).axis a) (bookOf s a) o f) plain a
      (setInForce a none ((s.setAxis a x).setAxis a r))
  unfold lduGrant
  split
  · exact ⟨rfl, rfl⟩
  · unfold grantMove
    dsimp only
    split
    · exact ends _ _ _ _
    · split
      · exact ends _ _ _ _
      · rw [(startMove_frame a _ _ d _ .msc (by simp) : (startMove a _ _ d _).msc = _)]
        exact ⟨rfl, rfl⟩
  · exact ends _ _ _ _

theorem GroupApart.grantOne {g : Group} (h : GroupApart g s) (a : Axis) (d : DriveSlot) :
    GroupApart g (grantOne a d s) := by
  cases waits : s.msc.pending.get a with
  | none =>
    rw [Machine.grantOne, waits]
    exact h
  | some q =>
    have plain := h.pending a q waits
    have book : (bookOf (handedTo a q s) a).member = false := by
      rw [bookOf_of_inForce (b := q.book) (PerAxis.get_set_self _ _ _), plain]
    obtain ⟨group, pending⟩ := lduGrant_of_plain book q d
    have row : Machine.grantOne a d s = lduGrant a q d (handedTo a q s) := grantOne_of_plain waits plain d
    rw [row]
    refine ⟨group.trans h.group, fun b r other => ?_⟩
    rw [pending] at other
    by_cases same : b = a
    · subst same
      have taken : (handedTo b q s).msc.pending.get b = none := PerAxis.get_set_self _ _ _
      rw [taken] at other
      cases other
    · exact h.pending b r ((PerAxis.get_set_of_ne s.msc.pending none same).symm.trans other)

theorem GroupApart.grantOccasion {g : Group} (h : GroupApart g s) (x : Option Axis) :
    GroupApart g (grantOccasion x s) := by
  unfold Machine.grantOccasion
  generalize 4 = n
  induction n generalizing s with
  | zero => exact h
  | succ n ih =>
    unfold grantLoop
    split
    · exact h
    · split
      · exact ih (h.grantOne _ _)
      · exact h

/-- A cause that is held on a port stays held through the operations of the lens. -/
theorem heldOn_lens (p : Port) (d : Cause) : LensClosed (HeldOn p d) where
  toEndClosed := heldOn_end p d
  axis _ _ _ _ h := h
  take _ _ _ _ _ _ _ _ h := h
  mark _ h := h

end Sys2Proof.Machine
end

section
/-! PRESET_RECALL. The checks; the group and the trims of an accepted recall, which the operations of the lens
that follow them leave; and the members, each a request in its axis's place. -/

namespace Sys2Proof.Machine

variable {s t : State} {p : Port} {n : Fin 10} {g : Byte} {x : Preset}

/-! ## The command and its checks (R100) -/

theorem exec_presetRecall {b : Byte} (awake : s.inReset = false) (port : p = .m ∨ p = .s)
    (slot : slotOfByte b = some n) : exec (.presetRecall p [b, g]) s =
      .next (respond p 0x2A (recallPreset p n g (shiftOut p 4 s)).2
        (recallPreset p n g (shiftOut p 4 s)).1) := by
  have permitted : cmdPermitted .presetRecall p = true := by rcases port with rfl | rfl <;> rfl
  have parsed : parseRecall [b, g] = some (n, g) := by rw [parseRecall, slot, Option.map_some]
  exact (exec_next _ s).trans (congrArg _
    (takeCommand_of_accepted (d := [b, g]) awake permitted rfl parsed))

/-- Some axis of the preset is not position-known. -/
def RecallLost (s : State) (x : Preset) : Prop :=
  ∃ a, (x.positions.get a).isSome = true ∧ positionKnown s a = false

theorem recallLost_iff (s : State) (x : Preset) :
    anyAxis (presentAxes x) (fun a => !positionKnown s a) = true ↔ RecallLost s x := by
  simp [anyAxis_iff, RecallLost, presentAxes]

theorem recallRefusal_of_empty (power : s.lps.power ≠ .off) (empty : s.ptb.slots.get n = none) :
    recallRefusal s n = some .slotEmpty := by
  rw [recallRefusal, if_neg power, empty]

theorem recallRefusal_of_lost (power : s.lps.power ≠ .off) (held : s.ptb.slots.get n = some x)
    (lost : RecallLost s x) : recallRefusal s n = some .axisLost := by
  rw [recallRefusal, if_neg power, held]
  exact if_pos ((recallLost_iff s x).mpr lost)

theorem recallRefusal_of_known (power : s.lps.power ≠ .off) (held : s.ptb.slots.get n = some x)
    (known : ¬RecallLost s x) : recallRefusal s n = none := by
  rw [recallRefusal, if_neg power, held]
  exact if_neg (mt (recallLost_iff s x).mp known)

theorem recallPreset_of_refusal {r : Result} (h : recallRefusal s n = some r) :
    recallPreset p n g s = (s, refuse r) := by
  rw [recallPreset, h]

theorem recallPreset_of_accepted (passes : recallRefusal s n = none) (held : s.ptb.slots.get n = some x) :
    recallPreset p n g s = (acceptRecall n g p x s, answerOk []) := by
  rw [recallPreset, passes, held]

/-! ## The group and the trims (R96, R100, R102) -/

/-- The trims group of a preset is applied, if it has one. -/
def withTrims (x : Preset) (s : State) : State :=
  match x.trims with
  | none => s
  | some z => applyTrimsGroup z s

/-- The old group has made way, the new one stands and the trims are applied. -/
def recallFormed (n : Fin 10) (g : Byte) (p : Port) (x : Preset) (s : State) : State :=
  withTrims x (formGroup n g p x (supersedeGroup s))

/-- The members are placed in axis order. -/
def membersPlaced (comp : Int) (g : Byte) (p : Port) (x : Preset) (s : State) : State :=
  forAxes (presentAxes x) (placeMember x comp g p) s

theorem acceptRecall_eq (n : Fin 10) (g : Byte) (p : Port) (x : Preset) (s : State) :
    acceptRecall n g p x s = grantOccasion none (settleGroup
      (membersPlaced (compensationOf s x) g p x (recallFormed n g p x s))) := rfl

/-- The group that a recall forms. -/
def groupFormed (n : Fin 10) (g : Byte) (p : Port) (x : Preset) : Group :=
  ⟨n, g, p, x.positions.map fun y => y.map fun _ => .waiting, .inProgress⟩

theorem groupFormed_member (n : Fin 10) (g : Byte) (p : Port) (x : Preset) (a : Axis) :
    (groupFormed n g p x).members.get a = (x.positions.get a).map fun _ => .waiting :=
  PerAxis.get_map _ _ _

theorem changeSettings_frame (y : Settings) (s : State) :
    Unchanged [.geo, .nvs, .bkm] s (changeSettings y s) :=
  (((withGeo_frame s _).weaken (by simp)).trans ((markDirty_frame .geometry _).weaken (by simp))).trans
    ((requestBuild_frame _).weaken (by simp))

theorem changeSettings_settings (y : Settings) (s : State) : (changeSettings y s).geo.settings = y := by
  rw [changeSettings, requestBuild_settings, markDirty_frame .geometry _ .geo (by simp)]
  rfl

/-- A mark of the geometry item speaks of the store and the settings alone. -/
theorem Marked.geometry_congr (h : Marked .geometry s) (nvs : t.nvs = s.nvs)
    (settings : t.geo.settings = s.geo.settings) : Marked .geometry t := by
  unfold Marked copyItem at h ⊢
  rw [nvs, settings]
  exact h

theorem changeSettings_marked (y : Settings) (s : State) : Marked .geometry (changeSettings y s) :=
  (markDirty_marked .geometry (s.withGeo { s.geo with settings := y })).geometry_congr
    (requestBuild_frame _ .nvs (by simp)) (requestBuild_settings _)

theorem withTrims_frame (x : Preset) (s : State) : Unchanged [.geo, .nvs, .bkm] s (withTrims x s) := by
  unfold withTrims
  split
  · exact .refl _ _
  · exact changeSettings_frame _ s

theorem withTrims_of_none (none : x.trims = none) (s : State) : withTrims x s = s := by
  rw [withTrims, none]

theorem withTrims_of_some {z : TrimsGroup} (trims : x.trims = some z) (s : State) :
    withTrims x s = changeSettings { s.geo.settings with trims := z.trims, keystone := z.keystone } s := by
  rw [withTrims, trims]
  rfl

theorem recallFormed_group (n : Fin 10) (g : Byte) (p : Port) (x : Preset) (s : State) :
    (recallFormed n g p x s).msc.group = some (groupFormed n g p x) :=
  congrArg Msc.group (withTrims_frame x _ .msc (by simp))

/-! ## What an accepted recall leaves (R96, R100, R102) -/

/-- The operations of the lens after the forming of the group keep what the lens keeps. -/
theorem acceptRecall_after_formed {P : State → Prop} (h : LensClosed P)
    (formed : P (recallFormed n g p x s)) : P (acceptRecall n g p x s) := by
  rw [acceptRecall_eq]
  exact grantOccasion_keeps h none (settleGroup_keeps h.toEndClosed
    (forAxes_keeps (fun _ _ kept => placeMember_keeps h _ _ _ _ _ kept) _ formed))

/-- The operations of the lens before the trims keep what the lens keeps. -/
theorem grouped_of_lens {P : State → Prop} (h : LensClosed P) (hs : P s) :
    P (formGroup n g p x (supersedeGroup s)) := h.msc _ _ id (supersedeGroup_keeps h hs)

theorem acceptRecall_frame (n : Fin 10) (g : Byte) (p : Port) (x : Preset) (s : State) :
    Unchanged [.attention, .scn, .ldu, .msc, .fdt, .geo, .bkm, .nvs] s (acceptRecall n g p x s) := by
  have grouped := grouped_of_lens (n := n) (g := g) (p := p) (x := x) (lens_frame s) (Unchanged.refl _ s)
  have formed : Unchanged [.attention, .scn, .ldu, .msc, .fdt, .geo, .bkm, .nvs] s
      (recallFormed n g p x s) :=
    (grouped.weaken (by simp)).trans ((withTrims_frame x _).weaken (by simp))
  exact formed.trans ((acceptRecall_after_formed (lens_frame _) (Unchanged.refl _ _)).weaken (by simp))

theorem acceptRecall_group (n : Fin 10) (g : Byte) (p : Port) (x : Preset) (s : State) :
    recallOf (acceptRecall n g p x s) = some (n, g, p) := by
  have members : ∀ a u, recallOf u = some (n, g, p) →
      recallOf (placeMember x (compensationOf s x) g p a u) = some (n, g, p) := fun a u h =>
    (recallOf_placeMember x _ g p a u).trans h
  rw [acceptRecall_eq, recallOf_grantOccasion, recallOf_settleGroup]
  refine forAxes_keeps members _ ?_
  rw [recallOf, recallFormed_group]
  rfl

theorem acceptRecall_of_untrimmed (none : x.trims = none) (n : Fin 10) (g : Byte) (p : Port) (s : State) :
    (acceptRecall n g p x s).geo.settings = s.geo.settings ∧ samePart .nvs s (acceptRecall n g p x s) := by
  have kept : ∀ {P : State → Prop}, LensClosed P → P s → P (acceptRecall n g p x s) := fun h hs => by
    refine acceptRecall_after_formed h ?_
    rw [recallFormed, withTrims_of_none none]
    exact grouped_of_lens h hs
  exact ⟨kept (lens_settings _) rfl, kept (lens_frame s) (.refl _ s) .nvs (by simp)⟩

theorem acceptRecall_of_trimmed {z : TrimsGroup} (trims : x.trims = some z) (n : Fin 10) (g : Byte)
    (p : Port) (s : State) : Marked .geometry (acceptRecall n g p x s) ∧
      (acceptRecall n g p x s).geo.settings =
        { s.geo.settings with trims := z.trims, keystone := z.keystone } := by
  have grouped : (formGroup n g p x (supersedeGroup s)).geo.settings = s.geo.settings :=
    grouped_of_lens (lens_settings _) rfl
  have formed := withTrims_of_some trims (formGroup n g p x (supersedeGroup s))
  rw [grouped] at formed
  have after : Unchanged [.attention, .scn, .ldu, .msc, .fdt, .geo, .bkm] (recallFormed n g p x s)
      (acceptRecall n g p x s) := acceptRecall_after_formed (lens_frame _) (.refl _ _)
  have settings : (acceptRecall n g p x s).geo.settings = (recallFormed n g p x s).geo.settings :=
    acceptRecall_after_formed (lens_settings _) rfl
  have stored : (recallFormed n g p x s).geo.settings =
      { s.geo.settings with trims := z.trims, keystone := z.keystone } := by
    rw [recallFormed, formed, changeSettings_settings]
  have marked : Marked .geometry (recallFormed n g p x s) := by
    rw [recallFormed, formed]
    exact changeSettings_marked _ _
  exact ⟨marked.geometry_congr (after .nvs (by simp)) settings, settings.trans stored⟩

/-! ## A recall without positions (R96) -/

theorem settleGroup_of_done {y : Group} (group : s.msc.group = some y) (live : y.outcome = .inProgress)
    (done : ∀ c, y.members.get c = none ∨ y.members.get c = some .done) :
    settleGroup s = endGroup .done s := by
  rw [settleGroup, group]
  exact if_pos ⟨live, (allDone_iff y).mpr done⟩

theorem settleGroup_of_waiting {y : Group} (group : s.msc.group = some y) {a : Axis}
    (waits : y.members.get a = some .waiting) : settleGroup s = s := by
  have unended : ¬(y.outcome = .inProgress ∧ allDone y = true) := fun ⟨_, done⟩ => by
    rcases (allDone_iff y).mp done a with h | h <;> cases waits.symm.trans h
  rw [settleGroup, group]
  exact if_neg unended

theorem acceptRecall_of_none (none : ∀ a, x.positions.get a = none) (n : Fin 10) (g : Byte) (p : Port)
    (s : State) : (∃ y, (acceptRecall n g p x s).msc.group = some y ∧ y.outcome = .done) ∧
      HeldOn p .recall (acceptRecall n g p x s) := by
  have unplaced : membersPlaced (compensationOf s x) g p x (recallFormed n g p x s) =
      recallFormed n g p x s := forAxes_of_idle fun a present => by
    simp [presentAxes, none a] at present
  have group := recallFormed_group n g p x s
  have ended := settleGroup_of_done group rfl fun a => by
    rw [groupFormed_member, none a]
    exact .inl rfl
  rw [acceptRecall_eq, unplaced, ended]
  exact ⟨⟨_, ((endGroup_apart group .done).grantOccasion Option.none).group, rfl⟩,
    grantOccasion_keeps (heldOn_lens p .recall) Option.none (endGroup_ended group .done).2⟩

/-! ## The members with every slot in use (R88, R100) -/

/-- The members of the axes of a list wait in their places. -/
structure MembersQueued (x : Preset) (comp : Int) (g : Byte) (p : Port) (l : List Axis) (s t : State) :
    Prop where
  frame : Unchanged [.msc] s t
  group : t.msc.group = s.msc.group
  rest : ∀ b, b ∉ l → t.msc.pending.get b = s.msc.pending.get b
  each : ∀ b ∈ l, ∀ y, x.positions.get b = some y →
    ∃ stamp, t.msc.pending.get b = some (stamped (memberRequest x comp g p b y) stamp)

theorem placeMembers (comp : Int) {l : List Axis} (nodup : l.Nodup)
    (idle : ∀ b ∈ l, (x.positions.get b).isSome = true →
      running s b = false ∧ yielded s b = false ∧ s.msc.pending.get b = none) :
    MembersQueued x comp g p l s (l.foldl (fun t a =>
      if (presentAxes x).get a = true then placeMember x comp g p a t else t) s) := by
  induction l generalizing s with
  | nil => exact ⟨.refl _ _, rfl, fun _ _ => rfl, fun _ h => nomatch h⟩
  | cons c l ih =>
    obtain ⟨fresh, nodup⟩ := List.nodup_cons.mp nodup
    rw [List.foldl_cons]
    cases position : x.positions.get c with
    | none =>
      have absent : ¬(presentAxes x).get c = true := by simp [presentAxes, position]
      rw [if_neg absent]
      obtain ⟨frame, group, rest, each⟩ := ih nodup fun b hb => idle b (List.mem_cons_of_mem c hb)
      refine ⟨frame, group, fun b hb => rest b fun h => hb (List.mem_cons_of_mem c h),
        fun b hb y stored => ?_⟩
      have other : b ≠ c := by
        rintro rfl
        cases position.symm.trans stored
      exact each b (List.mem_of_ne_of_mem other hb) y stored
    | some z =>
      have present : (presentAxes x).get c = true := by simp [presentAxes, position]
      obtain ⟨free, rests, empty⟩ := idle c List.mem_cons_self (by rw [position]; rfl)
      set q := memberRequest x comp g p c z
      have placed : placeMember x comp g p c s = queued q s := by
        rw [placeMember, position]
        exact place_of_idle (n := q) free rests empty
      rw [if_pos present, placed]
      obtain ⟨frame, group, rest, each⟩ := ih (s := queued q s) nodup fun b hb stored => by
        have other : b ≠ c := fun same => fresh (same ▸ hb)
        obtain ⟨free, rests, empty⟩ := idle b (List.mem_cons_of_mem c hb) stored
        exact ⟨free, rests, (queued_pending_of_ne q other s).trans empty⟩
      refine ⟨(queued_frame q s).trans frame, group, fun b hb => ?_, fun b hb y stored => ?_⟩
      · obtain ⟨other, out⟩ := not_or.mp (mt List.mem_cons.mpr hb)
        exact (rest b out).trans (queued_pending_of_ne q other s)
      · by_cases same : b = c
        · subst same
          cases position.symm.trans stored
          exact ⟨_, (rest b fresh).trans (queued_pending q s)⟩
        · exact each b (List.mem_of_ne_of_mem same hb) y stored

theorem acceptRecall_of_full (n : Fin 10) (g : Byte) (p : Port) (full : slotCount s ≤ runningCount s)
    (ended : groupInProgress s = false)
    (idle : ∀ a, (x.positions.get a).isSome = true →
      running s a = false ∧ yielded s a = false ∧ s.msc.pending.get a = none)
    {a : Axis} {y : Int} (stored : x.positions.get a = some y) :
    (acceptRecall n g p x s).msc.group = some (groupFormed n g p x) ∧
      (groupFormed n g p x).members.get a = some .waiting ∧
      ∃ stamp, (acceptRecall n g p x s).msc.pending.get a =
        some (stamped (memberRequest x (compensationOf s x) g p a y) stamp) := by
  have first : supersedeGroup s = s := if_neg (by simp [ended])
  set u := recallFormed n g p x s with formed
  rw [recallFormed, first] at formed
  have beside : Unchanged [.msc, .geo, .nvs, .bkm] s u := by
    rw [formed]
    exact ((withMsc_frame s _).weaken (by simp)).trans ((withTrims_frame x _).weaken (by simp))
  have pending : u.msc.pending = s.msc.pending := by
    rw [formed]
    have trimmed : (withTrims x (formGroup n g p x s)).msc = (formGroup n g p x s).msc :=
      withTrims_frame x _ .msc (by simp)
    rw [trimmed]
    rfl
  have axes : ∀ {v : State}, v.ldu = s.ldu → ∀ b, v.axis b = s.axis b := fun h b => by
    rw [State.axis, State.axis, h]
  have ldu : u.ldu = s.ldu := beside .ldu (by simp)
  obtain ⟨frame, group, -, each⟩ := placeMembers (s := u) (x := x) (g := g) (p := p) (compensationOf s x)
    (l := allAxes) (by decide) fun b _ stored => by
      obtain ⟨free, rests, empty⟩ := idle b stored
      exact ⟨(running_of_axis (axes ldu b)).trans free, by rw [yielded, axes ldu b]; exact rests,
        by rw [pending]; exact empty⟩
  change Unchanged [.msc] u (membersPlaced (compensationOf s x) g p x u) at frame
  change (membersPlaced (compensationOf s x) g p x u).msc.group = _ at group
  set w := membersPlaced (compensationOf s x) g p x u
  rw [recallFormed_group] at group
  have member : (groupFormed n g p x).members.get a = some .waiting := by
    rw [groupFormed_member, stored, Option.map_some]
  have still : w.ldu = s.ldu ∧ w.afc = s.afc :=
    ⟨(frame .ldu (by simp) : w.ldu = u.ldu).trans ldu,
      (frame .afc (by simp) : w.afc = u.afc).trans (beside .afc (by simp))⟩
  have stays : slotCount w ≤ runningCount w := by
    rw [runningCount_congr fun b => running_of_axis (axes still.1 b), slotCount, still.2]
    exact full
  have row : acceptRecall n g p x s = w := by
    rw [acceptRecall_eq, settleGroup_of_waiting group member, grantOccasion_of_full stays]
  rw [row]
  exact ⟨group, member, each a (mem_allAxes a) y stored⟩

/-! ## The row -/

/-- Settles O49: the refusals in their order, and what an accepted recall leaves. -/
theorem presetRecallFormsTheGroup : Obligations.PresetRecallFormsTheGroup := by
  intro p b g n s awake port slot
  rw [exec_presetRecall awake port slot]
  set u := shiftOut p 4 s
  have refused : ∀ {r}, recallRefusal u n = some r →
      Answered p 0x2A [b, g] r [] s (respond p 0x2A (recallPreset p n g u).2 (recallPreset p n g u).1) ∧
        Unchanged [.ports] s (respond p 0x2A (recallPreset p n g u).2 (recallPreset p n g u).1) :=
    fun {r} h => by
      rw [recallPreset_of_refusal h]
      exact answered_only p 0x2A [b, g] (refuse r) s
  refine ⟨_, rfl, fun off => refused (if_pos off),
    fun power empty => refused (recallRefusal_of_empty (s := u) power empty), fun x power held => ?_⟩
  refine ⟨fun lost => refused (recallRefusal_of_lost (s := u) power held lost), fun known => ?_⟩
  have passes : recallRefusal u n = none := recallRefusal_of_known (s := u) power held
    fun ⟨a, stored, unknown⟩ => by cases unknown.symm.trans (known a stored)
  rw [recallPreset_of_accepted (s := u) passes held]
  have frame := acceptRecall_frame n g p x u
  refine ⟨respond_answered p 0x2A [b, g] (answerOk []) (frame .ports (by simp)),
    (frame.taken 0x2A (answerOk [])).weaken (by simp), ?_, fun none => acceptRecall_of_untrimmed none n g p u,
    fun z trims => acceptRecall_of_trimmed trims n g p u, fun none => acceptRecall_of_none none n g p u,
    fun full ended idle a y stored => ?_⟩
  · obtain ⟨y, group, same⟩ := Option.map_eq_some_iff.mp (acceptRecall_group n g p x u)
    cases same
    exact ⟨y, group, rfl, rfl, rfl⟩
  · obtain ⟨group, member, stamp, waits⟩ := acceptRecall_of_full (s := u) n g p full ended idle stored
    exact ⟨⟨_, group, member, rfl⟩, stamp, waits⟩

end Sys2Proof.Machine
end

section
/-! The tracker outside the sweep end: the DRIFT command, and the end of a focus move, which leaves a tracker
record whose state settles on what holds then. -/

namespace Sys2Proof.Machine

variable {s t u v : State} {x : Fdt} {e : MoveEnd}

/-! ## What the tracker asks (R109) -/

theorem trackingPossible_iff (s : State) : trackingPossible s = true ↔ s.lps.power = .lit ∧
    s.fdt.enable = true ∧ s.fdt.anchor ≠ none ∧ normalTemp s .lns ≠ none := by
  simp only [trackingPossible, Bool.and_eq_true, beq_iff_eq, Option.isSome_iff_ne_none, and_assoc]

theorem focusFree_iff (s : State) : focusFree s = true ↔ (s.axis .fc).state = .idle ∧
    s.msc.pending.get .fc = none ∧ ((s.axis .zm).state = .idle ∨ (s.axis .zm).state = .moving) := by
  simp only [focusFree, Bool.and_eq_true, beq_iff_eq, Option.isNone_iff_eq_none, positionKnown_iff, and_assoc]
  rfl

/-! ## DRIFT (R108) -/

theorem exec_drift {b : Byte} {on : Bool} (awake : s.inReset = false) (flag : flagOfByte b = some on) :
    exec (.drift .m [b]) s = .next (respond .m 0x34 (driftNow on (shiftOut .m 3 s)).2
      (driftNow on (shiftOut .m 3 s)).1) :=
  (exec_next _ s).trans (congrArg _
    (takeCommand_of_accepted (parse := parseOnOff) (d := [b]) awake rfl rfl flag))

theorem driftOn_of_unset {n : Int} (unset : s.fdt.anchor = none) (temp : normalTemp s .lns = some n) :
    driftOn s = s.withFdt { s.fdt with enable := true, anchor := some n, correction := 0 } := by
  rw [driftOn, unset, temp]

theorem driftOn_of_kept (kept : s.fdt.anchor ≠ none ∨ normalTemp s .lns = none) :
    driftOn s = s.withFdt { s.fdt with enable := true } := by
  unfold driftOn
  split
  · rename_i unset temp
    rcases kept with anchored | cold
    · exact absurd unset anchored
    · cases cold.symm.trans temp
  · rfl

theorem driftOn_eq (s : State) : ∃ x, driftOn s = s.withFdt x := by
  unfold driftOn
  split <;> exact ⟨_, rfl⟩

theorem driftNow_eq (on : Bool) (s : State) :
    ∃ x, driftNow on s = (s.withFdt x, answerOk (trackerBytes x)) := by
  cases on with
  | false => exact ⟨_, rfl⟩
  | true =>
    obtain ⟨x, row⟩ := driftOn_eq s
    have now : driftNow true s = (driftOn s, answerOk (trackerBytes (driftOn s).fdt)) := rfl
    rw [row] at now
    exact ⟨x, now⟩

/-- The answer shows the record as the command leaves it. -/
theorem driftNow_answered (on : Bool) {b : Byte} (s : State) :
    let t := respond .m 0x34 (driftNow on (shiftOut .m 3 s)).2 (driftNow on (shiftOut .m 3 s)).1
    Answered .m 0x34 [b] .ok (trackerBytes t.fdt) s t ∧ Unchanged [.ports, .fdt] s t := by
  obtain ⟨x, row⟩ := driftNow_eq on (shiftOut .m 3 s)
  rw [row]
  exact ⟨respond_answered .m 0x34 [b] (answerOk (trackerBytes x)) rfl,
    (withFdt_frame (shiftOut .m 3 s) x).taken 0x34 (answerOk (trackerBytes x))⟩

theorem flagOfByte_of_two_le {b : Byte} (h : 2 ≤ b.toNat) : flagOfByte b = none := by
  have zero : b ≠ 0 := by rintro rfl; exact absurd h (by decide)
  have one : b ≠ 1 := by rintro rfl; exact absurd h (by decide)
  rw [flagOfByte, if_neg zero, if_neg one]

theorem exec_drift_of_bad {b : Byte} (awake : s.inReset = false) (bad : flagOfByte b = none) :
    exec (.drift .m [b]) s = .next (respond .m 0x34 (refuse .badValue) (shiftOut .m 3 s)) := by
  have check : checkCommand .drift parseOnOff (runDrift .m) .m [b] (shiftOut .m 3 s) =
      (shiftOut .m 3 s, refuse .badValue) := by
    rw [checkCommand, if_neg (by decide), if_neg (by rw [List.length_singleton]; decide), parseOnOff, bad]
  refine (exec_next _ s).trans (congrArg _ ?_)
  change takeCommand .drift parseOnOff (runDrift .m) .m [b] s = _
  rw [takeCommand, awake]
  exact congrArg (fun r => respond .m 0x34 r.2 r.1) check

/-! ## The state that settles at the end of a focus request (R112) -/

/-- What the tracker needs to watch from the end of a focus request, with an anchor. -/
def Watches (s : State) (anchor : Option Int) : Prop :=
  s.lps.power = .lit ∧ s.fdt.enable = true ∧ anchor ≠ none ∧ normalTemp s .lns ≠ none ∧
    ((s.axis .zm).state = .idle ∨ (s.axis .zm).state = .moving)

/-- A tracker record whose state follows from what held. -/
def Settled (s : State) (x : Fdt) (t : State) : Prop :=
  (Watches s x.anchor → t.fdt = { x with state := .watching }) ∧
    (¬Watches s x.anchor → t.fdt = { x with state := .suspended })

/-- The focus rests with nothing pending; what else the tracker asks is as it was. -/
structure FocusRests (s v : State) : Prop where
  fdt : v.fdt = s.fdt
  lps : v.lps = s.lps
  scn : v.scn = s.scn
  zoom : v.axis .zm = s.axis .zm
  focus : (v.axis .fc).state = .idle
  pending : v.msc.pending.get .fc = none

theorem FocusRests.watching_iff (h : FocusRests s v) (enable : x.enable = s.fdt.enable) :
    (trackingPossible (v.withFdt x) && focusFree (v.withFdt x)) = true ↔ Watches s x.anchor := by
  have temp : normalTemp (v.withFdt x) .lns = normalTemp s .lns := normalTemp_of_scn h.scn .lns
  have empty : (v.withFdt x).msc.pending.get .fc = none := h.pending
  rw [Bool.and_eq_true, trackingPossible_iff, focusFree_iff, temp, State.withFdt_lps, State.withFdt_fdt,
    h.lps, enable, State.withFdt_axis, State.withFdt_axis, h.zoom, h.focus, Watches]
  simp only [empty, true_and, and_assoc]

theorem FocusRests.settled (h : FocusRests s v) (enable : x.enable = s.fdt.enable)
    (fdt : t.fdt = (settleTracker (v.withFdt x)).fdt) : Settled s x t := by
  have record : t.fdt = { x with state := settledTracker (v.withFdt x) } := fdt
  rw [settledTracker] at record
  refine ⟨fun watches => ?_, fun fails => ?_⟩
  · rw [if_pos ((h.watching_iff enable).mpr watches)] at record
    exact record
  · rw [if_neg (mt (h.watching_iff enable).mp fails)] at record
    exact record

/-! ## The ends of focus requests (R106, R107, R112) -/

theorem FocusRests.userEnd (h : FocusRests s v) (source : e.source = some .m) (done : e.outcome = .done)
    {n : Int} (target : e.target = some n) (fdt : t.fdt = (focusEnd e v).fdt) :
    Settled s { s.fdt with anchor := normalTemp s .lns, correction := 0 } t := by
  have row : focusEnd e v = userAnchor v := by rw [focusEnd, source, done, target]
  rw [row, userAnchor, normalTemp_of_scn h.scn, h.fdt] at fdt
  exact h.settled rfl fdt

theorem FocusRests.recallEnd (h : FocusRests s v) (source : e.source = some .recall)
    (done : e.outcome = .done) {c : Compensation} (comp : e.book.comp = some c)
    (fdt : t.fdt = (focusEnd e v).fdt) :
    Settled s { s.fdt with anchor := some c.saved, correction := c.steps } t := by
  have row : focusEnd e v = recallAnchor c v := by rw [focusEnd, source, done, comp]
  rw [row, recallAnchor, h.fdt] at fdt
  exact h.settled rfl fdt

/-- The steps of a drift move count unless they run against the delta. -/
theorem driftSteps_sub (delta n q : Int) : driftSteps delta (n - q) =
    if n = q ∨ (q < n ∧ 0 < delta) ∨ (n < q ∧ delta < 0) then n - q else 0 := by
  rw [driftSteps]
  exact if_congr (by omega) rfl rfl

theorem FocusRests.driftDone (h : FocusRests s v) (source : e.source = some .drift)
    (done : e.outcome = .done) {q n delta : Int} (start : e.start = some q) (target : e.target = some n)
    (outstanding : s.fdt.outstanding = some delta) (fdt : t.fdt = (focusEnd e v).fdt) :
    Settled s { s.fdt with
      outstanding := none, correction := s.fdt.correction + driftSteps delta (n - q) } t := by
  have row : focusEnd e v = driftEnd e v := by rw [focusEnd, source]
  rw [row, driftEnd, h.fdt, done, outstanding, start, target] at fdt
  exact h.settled rfl fdt

theorem FocusRests.driftCancelled (h : FocusRests s v) (source : e.source = some .drift)
    (cancelled : e.outcome = .cancelled) (fdt : t.fdt = (focusEnd e v).fdt) :
    Settled s { s.fdt with outstanding := none } t := by
  have row : focusEnd e v = driftEnd e v := by rw [focusEnd, source]
  rw [row, driftEnd, h.fdt, cancelled] at fdt
  simp only [add_zero] at fdt
  exact h.settled rfl fdt

theorem focusEnd_of_unfinished (source : e.source = some .m ∨ e.source = some .recall)
    (cancelled : e.outcome = .cancelled) : focusEnd e v = v := by
  rcases source with source | source <;> rw [focusEnd, source, cancelled]

/-- The end of the focus request in force, as MSC hands it to the tracker. -/
def focusEndOf (s : State) (o : MoveOutcome) (p : Int) : MoveEnd :=
  endOfForce (s.axis .fc) (bookOf s .fc) o (some p)

/-- The tracker takes the end of the request in force with the focus at rest. -/
theorem finishIdle_focus (empty : s.msc.pending.get .fc = none) (o : MoveOutcome) (p : Int) :
    ∃ v, FocusRests s v ∧ (finishIdle .fc o p s).fdt = (focusEnd (focusEndOf s o p) v).fdt := by
  set e := focusEndOf s o p
  set w := setInForce .fc none (s.setAxis .fc ((s.axis .fc).idleAt (axisMaximum s .fc) p))
  have step := tellGroup_step .fc e (raiseOnIssuer .move e.book.port (recordResult .fc e w))
  have told : Unchanged [.attention, .msc] w (endTold .fc e w) :=
    ((withMsc_frame w _).weaken (by simp)).trans
      (((raiseOnIssuer_frame _ _ _).weaken (by simp)).trans step.frame)
  have ldu : (endTold .fc e w).ldu = w.ldu := told .ldu (by simp)
  have focus : ((endTold .fc e w).axis .fc).state = .idle := by
    rw [State.axis, ldu]
    exact congrArg AxisRecord.state (State.setAxis_axis_self s .fc _)
  have pending : ((endTold .fc e w).msc.pending.get .fc).isNone = true := by
    have msc : (raiseOnIssuer .move e.book.port (recordResult .fc e w)).msc = (recordResult .fc e w).msc :=
      raiseOnIssuer_frame _ _ _ .msc (by simp)
    refine (step.pending .fc).trans ?_
    rw [msc]
    exact Option.isNone_iff_eq_none.mpr empty
  refine ⟨endTold .fc e w, ⟨told .fdt (by simp), told .lps (by simp), told .scn (by simp), ?_, focus,
    Option.isNone_iff_eq_none.mp pending⟩, geoMoveEnd_frame .fc (homedBy e) e.final _ .fdt (by simp)⟩
  rw [State.axis, ldu]
  exact State.setAxis_axis_of_ne s _ (by decide)

/-! ## The step that ends a focus move (R68, R70) -/

theorem focusStep_done {p : Int} (on : OnItsLeg (s.axis .fc) p)
    (positive : (s.axis .fc).direction = .positive) (ended : p + 1 = (s.axis .fc).legEnd)
    (none : NonePending s) :
    axisStep .fc s = finishIdle .fc .done (p + 1) (stepTaken .fc p s) := by
  have here : p + stepBy (s.axis .fc).direction = p + 1 := congrArg (p + stepBy ·) positive
  have row := on.last (here.trans ended) ((lastLeg_iff _).mpr (.inl positive))
  rw [finishDone_eq (stepTaken_position .fc p s), here] at row
  exact axisStep_ended none (finishIdle_ended .fc .done (p + 1) (stepTaken .fc p s)).of_stepTaken row

theorem focusStep_cancelled {p : Int} (moving : (s.axis .fc).state = .moving)
    (slot : (s.axis .fc).slot.isSome = true) (known : (s.axis .fc).position = some p)
    (ramp : (s.axis .fc).phase = some .stopRamp) (cancels : (s.axis .fc).endAction = some .cancel)
    (short : (s.axis .fc).remaining ≤ 1) (none : NonePending s) : axisStep .fc s =
      finishIdle .fc .cancelled (p + stepBy (s.axis .fc).direction) (stepTaken .fc p s) := by
  have row := axisStep_of_ramp moving slot known ramp short
  rw [rampEnd_of_cancel (by rw [stepTaken_axis]; exact cancels) (stepTaken_position .fc p s)] at row
  exact axisStep_ended none (finishIdle_ended .fc .cancelled _ (stepTaken .fc p s)).of_stepTaken row

/-- What the tracker makes of the end of a focus move at a step: the end carries the record of the move. -/
theorem focusStep_told {p q : Int} {o : MoveOutcome} (none : NonePending s)
    (row : axisStep .fc s = finishIdle .fc o q (stepTaken .fc p s)) :
    ∃ e v, e.source = (s.axis .fc).source ∧ e.outcome = o ∧ e.start = (s.axis .fc).start ∧
      e.target = (s.axis .fc).target ∧ e.book = bookOf s .fc ∧ FocusRests (stepTaken .fc p s) v ∧
      (axisStep .fc s).fdt = (focusEnd e v).fdt := by
  obtain ⟨v, rests, fdt⟩ := finishIdle_focus (s := stepTaken .fc p s)
    (by rw [stepTaken_msc]; exact none .fc) o q
  refine ⟨focusEndOf (stepTaken .fc p s) o q, v, ?_, rfl, ?_, ?_, ?_, rests, by rw [row, fdt]⟩
  · exact (congrArg AxisRecord.source (stepTaken_axis .fc p s)).trans rfl
  · exact (congrArg AxisRecord.start (stepTaken_axis .fc p s)).trans rfl
  · exact (congrArg AxisRecord.target (stepTaken_axis .fc p s)).trans rfl
  · show bookOf (stepTaken .fc p s) .fc = bookOf s .fc
    unfold bookOf
    rw [stepTaken_msc]

theorem Settled.of_stepTaken {p : Int} (h : Settled (stepTaken .fc p s) x t) : Settled s x t := by
  rw [stepTaken_aside (.inr rfl)] at h
  exact h

end Sys2Proof.Machine
end

section
/-! The tracker at a sweep end. The evaluation reads what LPS leaves in LIT, so either order gives the same
tracker record and the same request. -/

namespace Sys2Proof.Machine

variable {s t u v w : State} {M : Msc} {F : Fdt} {z p x c : Int}

/-! ## The evaluation, row by row (R109) -/

theorem evaluateDrift_of_impossible (impossible : trackingPossible s = false) :
    evaluateDrift s = setTracker .suspended s := if_pos impossible

theorem evaluateDrift_of_outstanding (possible : trackingPossible s = true) (out : s.fdt.outstanding ≠ none) :
    evaluateDrift s = setTracker .correcting s := by
  rw [evaluateDrift, possible, if_neg (by decide), if_pos (Option.isSome_iff_ne_none.mpr out)]

theorem evaluateDrift_of_unfree (possible : trackingPossible s = true) (none : s.fdt.outstanding = none)
    (unfree : focusFree s = false) : evaluateDrift s = setTracker .suspended s := by
  rw [evaluateDrift, possible, none, unfree]
  rfl

theorem evaluateDrift_of_free (possible : trackingPossible s = true) (none : s.fdt.outstanding = none)
    (free : focusFree s = true) (zoom : (s.axis .zm).position = some z)
    (focus : (s.axis .fc).position = some p) (temp : normalTemp s .lns = some x)
    (anchor : s.fdt.anchor = some c) : evaluateDrift s = computeDrift z p x c s := by
  rw [evaluateDrift, possible, none, free, zoom, focus, temp, anchor]
  rfl

/-! ## The delta (R110) -/

/-- The delta that the correction lacks. -/
def driftDelta (s : State) (z x c : Int) : Int := desiredCorrection s z x c - s.fdt.correction

/-- The delta is large enough and the focus can follow it. -/
def DriftDue (s : State) (p delta : Int) : Prop :=
  let q := clamp 0 (axisMaximum s .fc) (p + delta)
  ¬(-2 < delta ∧ delta < 2) ∧ ¬(q = p ∨ (0 < delta ∧ q < p) ∨ (delta < 0 ∧ p < q))

theorem driftDue_iff (s : State) (p delta : Int) : DriftDue s p delta ↔
    ¬delta.natAbs < 2 ∧ ¬driftBlocked (axisMaximum s .fc) p delta = true := by
  have small : (-2 < delta ∧ delta < 2) ↔ delta.natAbs < 2 := by omega
  simp only [DriftDue, small, driftBlocked, Bool.or_eq_true, Bool.and_eq_true, beq_iff_eq, decide_eq_true_eq,
    or_assoc]

theorem computeDrift_of_due (due : DriftDue s p (driftDelta s z x c)) :
    computeDrift z p x c s = issueDrift (driftDelta s z x c) s := by
  obtain ⟨large, moves⟩ := (driftDue_iff s p _).mp due
  exact (if_neg large).trans (if_neg moves)

theorem computeDrift_of_not_due (undue : ¬DriftDue s p (driftDelta s z x c)) :
    computeDrift z p x c s = setTracker .watching s := by
  by_cases small : (driftDelta s z x c).natAbs < 2
  · exact if_pos small
  · have blocked : driftBlocked (axisMaximum s .fc) p (driftDelta s z x c) = true := by
      by_contra moves
      exact undue ((driftDue_iff s p _).mpr ⟨small, moves⟩)
    exact (if_neg small).trans (if_pos blocked)

/-! ## The evaluation as the statement reads it -/

/-- What another state holds of what the tracker reads. -/
structure DriftView (s v : State) : Prop where
  fdt : v.fdt = s.fdt
  msc : v.msc = s.msc
  ldu : v.ldu = s.ldu
  prf : v.prf = s.prf
  temp : normalTemp v .lns =
    if (s.channel .lns).condition = .normal then (s.channel .lns).temp else none
  power : v.lps.power = .lit → s.lps.power = .lit

/-- LNS is NORMAL with a temperature. -/
def Warm (s : State) (x : Int) : Prop :=
  (s.channel .lns).condition = .normal ∧ (s.channel .lns).temp = some x

/-- The first row of R109 passes. -/
def DriftPossible (s : State) : Prop :=
  s.lps.power = .lit ∧ s.fdt.enable = true ∧ s.fdt.anchor ≠ none ∧ ∃ x, Warm s x

/-- The focus rests with nothing pending and the zoom has a position. -/
def DriftFree (s : State) : Prop := (s.axis .fc).state = .idle ∧ s.msc.pending.get .fc = none ∧
  (s.axis .zm).state ≠ .lost ∧ (s.axis .zm).state ≠ .homing

/-- What a computation of the delta starts from. -/
structure DriftInputs (s : State) (z p x c : Int) : Prop where
  none : s.fdt.outstanding = none
  free : DriftFree s
  zoom : (s.axis .zm).position = some z
  focus : (s.axis .fc).position = some p
  warm : Warm s x
  anchor : s.fdt.anchor = some c

/-- A state that the tracker has left, with its record and the list. -/
def judged (M : Msc) (F : Fdt) (v : State) : State := (v.withMsc M).withFdt F

theorem DriftView.tracker (h : DriftView s v) {y : TrackerState} (row : evaluateDrift v = setTracker y v) :
    evaluateDrift v = judged s.msc { s.fdt with state := y } v := by
  rw [row, ← h.msc, ← h.fdt]
  rfl

theorem DriftView.temp_iff (h : DriftView s v) (x : Int) : normalTemp v .lns = some x ↔ Warm s x := by
  rw [h.temp, Warm]
  by_cases normal : (s.channel .lns).condition = .normal <;> simp [normal]

theorem DriftView.possible_iff (h : DriftView s v) :
    trackingPossible v = true ↔ v.lps.power = .lit ∧ DriftPossible s := by
  have warm : normalTemp v .lns ≠ none ↔ ∃ x, Warm s x := by
    rw [Option.ne_none_iff_exists']
    exact exists_congr h.temp_iff
  rw [trackingPossible_iff, h.fdt, warm, DriftPossible]
  exact ⟨fun ⟨lit, rest⟩ => ⟨lit, h.power lit, rest⟩, fun ⟨lit, _, rest⟩ => ⟨lit, rest⟩⟩

theorem DriftView.axis (h : DriftView s v) (a : Axis) : v.axis a = s.axis a := by
  rw [State.axis, State.axis, h.ldu]

theorem DriftView.free_iff (h : DriftView s v) : focusFree v = true ↔ DriftFree s := by
  have zoom : ∀ k : AxisState, k = .idle ∨ k = .moving ↔ k ≠ .lost ∧ k ≠ .homing := fun k => by
    cases k <;> decide
  rw [focusFree_iff, h.axis, h.axis, h.msc, zoom, DriftFree]

theorem DriftView.impossible (h : DriftView s v) (impossible : ¬DriftPossible s) :
    evaluateDrift v = judged s.msc { s.fdt with state := .suspended } v :=
  h.tracker (evaluateDrift_of_impossible
    (Bool.eq_false_iff.mpr fun possible => impossible (h.possible_iff.mp possible).2))

theorem queued_msc_congr (n : NewRequest) (h : v.msc = s.msc) : (queued n v).msc = (queued n s).msc := by
  simp only [queued, setRequest, nextStamp, State.withMsc_msc, h]

section
variable (h : DriftView s v) (lit : v.lps.power = .lit) (possible : DriftPossible s)
include h lit possible

theorem DriftView.outstanding (out : s.fdt.outstanding ≠ none) :
    evaluateDrift v = judged s.msc { s.fdt with state := .correcting } v :=
  h.tracker (evaluateDrift_of_outstanding (h.possible_iff.mpr ⟨lit, possible⟩) (by rw [h.fdt]; exact out))

theorem DriftView.unfree (none : s.fdt.outstanding = none) (unfree : ¬DriftFree s) :
    evaluateDrift v = judged s.msc { s.fdt with state := .suspended } v :=
  h.tracker (evaluateDrift_of_unfree (h.possible_iff.mpr ⟨lit, possible⟩) (by rw [h.fdt]; exact none)
    (Bool.eq_false_iff.mpr (mt h.free_iff.mp unfree)))

theorem DriftView.computes (inputs : DriftInputs s z p x c) :
    evaluateDrift v = computeDrift z p x c v :=
  evaluateDrift_of_free (h.possible_iff.mpr ⟨lit, possible⟩) (by rw [h.fdt]; exact inputs.none)
    (h.free_iff.mpr inputs.free) (by rw [h.axis]; exact inputs.zoom) (by rw [h.axis]; exact inputs.focus)
    ((h.temp_iff x).mpr inputs.warm) (by rw [h.fdt]; exact inputs.anchor)

omit lit possible in
theorem DriftView.delta (z x c : Int) : driftDelta v z x c = driftDelta s z x c := by
  have table : driftCoefficient v z = driftCoefficient s z := by
    unfold driftCoefficient driftTable
    rw [h.prf]
  rw [driftDelta, driftDelta, desiredCorrection, desiredCorrection, table, h.fdt]

omit lit possible in
theorem DriftView.due_iff (p delta : Int) : DriftDue v p delta ↔ DriftDue s p delta := by
  rw [DriftDue, DriftDue, axisMaximum_of_prf h.prf]

theorem DriftView.watching (inputs : DriftInputs s z p x c) (undue : ¬DriftDue s p (driftDelta s z x c)) :
    evaluateDrift v = judged s.msc { s.fdt with state := .watching } v :=
  h.tracker ((h.computes lit possible inputs).trans
    (computeDrift_of_not_due (by rw [h.delta, h.due_iff]; exact undue)))

/-- The request of a delta joins the list (R111). -/
theorem DriftView.issued (inputs : DriftInputs s z p x c) (due : DriftDue s p (driftDelta s z x c))
    (still : running s .fc = false) (rests : yielded s .fc = false) :
    evaluateDrift v = judged (queued (driftRequest (driftDelta s z x c)) s).msc
      { s.fdt with outstanding := some (driftDelta s z x c), state := .correcting } v := by
  obtain ⟨-, empty, -⟩ := inputs.free
  have row := (h.computes lit possible inputs).trans
    (computeDrift_of_due (by rw [h.delta, h.due_iff]; exact due))
  set n := driftRequest (driftDelta s z x c)
  have free : running v n.axis = false := (running_of_axis (h.axis .fc)).trans still
  have unyielded : yielded v n.axis = false := by
    rw [yielded, h.axis]
    exact rests
  have unasked : v.msc.pending.get n.axis = Option.none := by
    rw [h.msc]
    exact empty
  have issue : issueDrift (driftDelta s z x c) v = queued n (v.withFdt
      { v.fdt with outstanding := some (driftDelta s z x c), state := .correcting }) :=
    place_of_idle free unyielded unasked
  rw [row, h.delta, issue, ← h.fdt]
  show judged (queued n v).msc
    { v.fdt with outstanding := some (driftDelta s z x c), state := .correcting } v = _
  rw [queued_msc_congr n h.msc]

end

/-! ## LPS's part beside it (R47, R50, R53) -/

theorem lightSweep_frame (u : State) : Unchanged [.attention, .lps, .afc] u (lightSweep u) :=
  (tripIf_frame _ u).trans ((lightSweep_after u).frame.weaken (by simp))

theorem lightUpdate_power (u : State) : (recomputeLight (updateDerate u)).lps.power = u.lps.power := by
  have derated : (updateDerate u).lps.power = u.lps.power := by
    unfold updateDerate
    split <;> rfl
  unfold recomputeLight
  dsimp only
  split
  · split <;> exact derated
  · exact derated

theorem lightSweep_of_calm (calm : sweepTrip u = none) (lit : u.lps.power = .lit) :
    (lightSweep u).afc = u.afc ∧ (lightSweep u).lps.power = .lit := by
  rw [lightSweep_of_lit (.inl calm) lit, lightUpdate_power]
  exact ⟨(lightUpdate_after u).frame .afc (by simp), lit⟩

/-- No trip and no sweep end lights the projector. -/
theorem lit_of_lightSweep (lit : (lightSweep u).lps.power = .lit) : u.lps.power = .lit := by
  have tested : (tripIf (sweepTrip u) u).lps.power = .lit := by
    unfold lightSweep at lit
    dsimp only at lit
    split at lit
    · split at lit
      · cases lit
      · exact lit
    · rwa [lightUpdate_power] at lit
    · exact lit
  obtain same | ⟨y, -, -, trip⟩ := tripIf_cases (sweepTrip u) u
  · rwa [same] at tested
  · have dark : ∀ k, trippedState k ≠ .lit := fun k => by cases k <;> decide
    have power : (takeTrip y u).lps.power = trippedState u.lps.power := by
      rw [takeTrip_lps]
      split
      · exact Eq.symm ‹_›
      · rfl
    rw [trip, power] at tested
    exact absurd tested (dark _)

theorem DriftView.lightSweep (h : DriftView s u) : DriftView s (lightSweep u) where
  fdt := (lightSweep_frame u .fdt (by simp) : (Machine.lightSweep u).fdt = u.fdt).trans h.fdt
  msc := (lightSweep_frame u .msc (by simp) : (Machine.lightSweep u).msc = u.msc).trans h.msc
  ldu := (lightSweep_frame u .ldu (by simp) : (Machine.lightSweep u).ldu = u.ldu).trans h.ldu
  prf := (lightSweep_frame u .prf (by simp) : (Machine.lightSweep u).prf = u.prf).trans h.prf
  temp := (normalTemp_of_scn (lightSweep_frame u .scn (by simp)) .lns).trans h.temp
  power lit := h.power (lit_of_lightSweep lit)

/-! ## Either order (R2, R109) -/

/-- LPS's part and the evaluation, in either order. -/
def driftSweep (u : State) : State :=
  eitherOrder (fun t => evaluateDrift (lightSweep t)) (fun t => lightSweep (evaluateDrift t)) u

theorem powerAndDrift_eq (u : State) : powerAndDrift u =
    if driftJoined u (driftSweep u) then grantOccasion none (driftSweep u) else driftSweep u := rfl

/-- The tracker record and the list after both, in whichever order; in LIT without a trip the light and the
fans go on. -/
structure DriftSwept (u : State) (M : Msc) (F : Fdt) (w : State) : Prop where
  frame : Unchanged [.choices, .attention, .lps, .afc, .msc, .fdt] u w
  fdt : w.fdt = F
  msc : w.msc = M
  calm : sweepTrip u = none → u.lps.power = .lit → w.afc = u.afc ∧ w.lps.power = .lit

theorem judged_frame (M : Msc) (F : Fdt) (v : State) : Unchanged [.msc, .fdt] v (judged M F v) :=
  ((withMsc_frame v M).weaken (by simp)).trans ((withFdt_frame _ F).weaken (by simp))

theorem driftSweep_swept (before : evaluateDrift u = judged M F u)
    (after : evaluateDrift (lightSweep u) = judged M F (lightSweep u)) : DriftSwept u M F (driftSweep u) := by
  refine eitherOrder_of_both (P := DriftSwept u M F) (fun n t h => ⟨h.frame.trans
    ((withChoices_frame t n).weaken (by simp)), h.fdt, h.msc, h.calm⟩) ?_ ?_
  · rw [after]
    exact ⟨((lightSweep_frame u).weaken (by simp)).trans ((judged_frame M F _).weaken (by simp)), rfl, rfl,
      lightSweep_of_calm⟩
  · rw [before]
    have light := lightSweep_frame (judged M F u)
    exact ⟨((judged_frame M F u).weaken (by simp)).trans (light.weaken (by simp)), light .fdt (by simp),
      light .msc (by simp), lightSweep_of_calm (u := judged M F u)⟩

theorem DriftView.swept (h : DriftView s u) (row : ∀ v, DriftView s v → evaluateDrift v = judged M F v) :
    DriftSwept u M F (driftSweep u) := driftSweep_swept (row u h) (row _ h.lightSweep)

theorem DriftView.swept_of_calm (h : DriftView s u) (calm : sweepTrip u = none) (lit : u.lps.power = .lit)
    (row : ∀ v, DriftView s v → v.lps.power = .lit → evaluateDrift v = judged M F v) :
    DriftSwept u M F (driftSweep u) :=
  driftSweep_swept (row u h lit) (row _ h.lightSweep (lightSweep_of_calm calm lit).2)

/-! ## The state that the tracker sees (R2) -/

theorem geoSweep_frame (o : Orientation) (s : State) : Unchanged [.choices, .geo, .bkm] s (geoSweep o s) := by
  have build : ∀ (d : Prop) [Decidable d] (u : State), Unchanged [.choices, .geo, .bkm] u
      (if d then requestBuild u else u) := fun d _ u => by
    split
    · exact (requestBuild_frame u).weaken (by simp)
    · exact .refl _ _
  unfold geoSweep
  dsimp only
  exact eitherOrder_of_both (P := Unchanged [.choices, .geo, .bkm] s)
    (fun n t h => h.trans ((withChoices_frame t n).weaken (by simp)))
    ((build _ s).trans (build _ _)) ((build _ s).trans (build _ _))

/-- The end of a full sweep before LPS and the tracker act. -/
def sweepShown (s : State) (code : Int) : State :=
  geoSweep (effectiveOrientation (afterAcz s code)) (presentAll (rearmMotion (joinPair (afterAcz s code))))

theorem sweepEnd_eq (sweeps : s.scn.conversion = .sweep .acz) (code : Int) :
    completeConversion .acz code s = powerAndDrift (sweepShown s code) :=
  completeConversion_of_last sweeps code

theorem sweepShown_seen (s : State) (code : Int) : SeenBy s (sweepShown s code) :=
  (presentAll_seen s code).beside (geoSweep_beside _ _)

theorem sweepShown_frame (s : State) (code : Int) :
    Unchanged [.choices, .scn, .attention, .geo, .bkm] s (sweepShown s code) := by
  have unpresented : Unchanged [.scn] s (rearmMotion (joinPair (afterAcz s code))) :=
    (((applyConversion_frame .acz code s).trans (setConversion_frame .idle _)).trans
      (joinPair_frame _)).trans (withScn_frame _ _)
  exact ((unpresented.weaken (by simp)).trans ((presentAll_frame _).weaken (by simp))).trans
    ((geoSweep_frame _ _).weaken (by simp))

theorem sweepShown_view (s : State) (code : Int) : DriftView s (sweepShown s code) where
  fdt := sweepShown_frame s code .fdt (by simp)
  msc := sweepShown_frame s code .msc (by simp)
  ldu := sweepShown_frame s code .ldu (by simp)
  prf := sweepShown_frame s code .prf (by simp)
  temp := (sweepShown_seen s code).normalTemp (by decide)
  power lit := ((sweepShown_seen s code).lps ▸ lit :)

end Sys2Proof.Machine
end

section
/-! The tracker at a sweep end: the drift request that joins and its grant; and the row. -/

namespace Sys2Proof.Machine

variable {s t u w : State} {F : Fdt} {z p x c code delta : Int}

/-! ## A sweep end without a request (R2, R109) -/

theorem driftJoined_of_kept (kept : w.msc = u.msc) : driftJoined u w = false := by
  rw [driftJoined, kept]
  cases u.msc.pending.fc <;> rfl

theorem powerAndDrift_kept (view : DriftView s u) (swept : DriftSwept u s.msc F (driftSweep u)) :
    (powerAndDrift u).fdt = F ∧ (powerAndDrift u).msc = s.msc ∧ (powerAndDrift u).ldu = s.ldu := by
  have unjoined := driftJoined_of_kept (swept.msc.trans view.msc.symm)
  have ldu : (driftSweep u).ldu = u.ldu := swept.frame .ldu (by simp)
  rw [powerAndDrift_eq, unjoined]
  exact ⟨swept.fdt, swept.msc, ldu.trans view.ldu⟩

/-! ## A sweep end with a request (R110, R111) -/

/-- A drift request has joined the list, and its delta is outstanding. -/
structure DriftIssued (s : State) (delta : Int) (w : State) : Prop where
  fdt : w.fdt = { s.fdt with outstanding := some delta, state := .correcting }
  msc : w.msc = (queued (driftRequest delta) s).msc
  ldu : w.ldu = s.ldu
  afc : w.afc = s.afc
  prf : w.prf = s.prf
  lit : w.lps.power = .lit

theorem powerAndDrift_issued (view : DriftView s u) (calm : sweepTrip u = none) (lit : u.lps.power = .lit)
    (afc : u.afc = s.afc) (possible : DriftPossible s) (inputs : DriftInputs s z p x c)
    (due : DriftDue s p (driftDelta s z x c)) (still : running s .fc = false)
    (rests : yielded s .fc = false) :
    ∃ w, DriftIssued s (driftDelta s z x c) w ∧ powerAndDrift u = grantOccasion none w := by
  have swept := view.swept_of_calm calm lit fun v hv lit => hv.issued lit possible inputs due still rests
  obtain ⟨fans, stays⟩ := swept.calm calm lit
  have ldu : (driftSweep u).ldu = u.ldu := swept.frame .ldu (by simp)
  have prf : (driftSweep u).prf = u.prf := swept.frame .prf (by simp)
  obtain ⟨-, empty, -⟩ := inputs.free
  change s.msc.pending.fc = none at empty
  have joined : driftJoined u (driftSweep u) = true := by
    rw [driftJoined, swept.msc, view.msc, empty]
    rfl
  refine ⟨driftSweep u,
    ⟨swept.fdt, swept.msc, ldu.trans view.ldu, fans.trans afc, prf.trans view.prf, stays⟩, ?_⟩
  rw [powerAndDrift_eq, joined]
  rfl

theorem DriftIssued.axis (h : DriftIssued s delta w) (a : Axis) : w.axis a = s.axis a := by
  rw [State.axis, State.axis, h.ldu]

theorem DriftIssued.waits (h : DriftIssued s delta w) (full : slotCount s ≤ runningCount s) :
    grantOccasion none w = w := by
  refine grantOccasion_of_full ?_ none
  rw [runningCount_congr fun a => running_of_axis (h.axis a), slotCount, h.afc]
  exact full

/-- The drift request alone in the list, with nothing running, starts the focus (R66, R91). -/
theorem DriftIssued.starts (h : DriftIssued s delta w) (still : ∀ a, running s a = false)
    (quiet : NonePending s) (focus : (s.axis .fc).position = some p)
    (unwatched : ¬((s.axis .fc).switch = true ∧ 200 < p)) (due : DriftDue s p delta) :
    let q := stamped (driftRequest delta) s.msc.nextStamp
    ∃ v r, Started v .fc q .slot0 r ∧ v.ldu = w.ldu ∧ v.prf = w.prf ∧ v.fdt = w.fdt ∧
      grantOccasion none w = grantOne .fc .slot0 w ∧
      grantOccasion none w = markMotion (v.setAxis .fc r) ∧ NonePending (grantOccasion none w) := by
  intro q
  have waits : w.msc.pending.get .fc = some q := by
    rw [h.msc]
    exact queued_pending (driftRequest delta) s
  have alone : ∀ b, b ≠ .fc → w.msc.pending.get b = none := fun b other => by
    rw [h.msc, queued_pending_of_ne (driftRequest delta) other]
    exact quiet b
  have rests : ∀ b, running w b = false := fun b => (running_of_axis (h.axis b)).trans (still b)
  have eligible : Eligible w q := by
    refine ⟨rests .fc, fun f follows => ?_, fun _ => h.lit⟩
    cases follows
  have granted := grantOccasion_of_alone rests waits alone eligible
  have away : goalFrom s .fc p q.kind ≠ p := fun reached => due.2 (.inl reached)
  have begins : StartsWhenGranted s .fc q := .inr ⟨p, focus, unwatched, away⟩
  obtain ⟨r, row, started⟩ := lduGrant_started (s := handedTo .fc q w)
    (begins.congr (t := handedTo .fc q w) (h.axis .fc) h.prf) .slot0
  refine ⟨handedTo .fc q w, r, started, rfl, rfl, rfl, granted, ?_, ?_⟩
  · exact granted.trans ((grantOne_of_plain waits rfl .slot0).trans row)
  · rw [granted]
    exact grantOne_nonePending waits alone .slot0

/-- What the grant of a drift request leaves. -/
structure DriftStarted (s : State) (p delta : Int) (t : State) : Prop where
  fdt : t.fdt = { s.fdt with outstanding := some delta, state := .correcting }
  none : NonePending t
  only : OnlyAxes [.fc] s t
  state : (t.axis .fc).state = .moving
  slot : (t.axis .fc).slot = some .slot0
  target : (t.axis .fc).target = some (clamp 0 (axisMaximum s .fc) (p + delta))
  start : (t.axis .fc).start = some p
  tag : (t.axis .fc).tag = some 0
  source : (t.axis .fc).source = some .drift
  mode : (t.axis .fc).mode = some .held

theorem DriftIssued.started (h : DriftIssued s delta w) (still : ∀ a, running s a = false)
    (quiet : NonePending s) (focus : (s.axis .fc).position = some p)
    (unwatched : ¬((s.axis .fc).switch = true ∧ 200 < p)) (due : DriftDue s p delta) :
    DriftStarted s p delta (grantOccasion none w) := by
  obtain ⟨v, r, started, ldu, prf, fdt, one, row, alone⟩ := h.starts still quiet focus unwatched due
  have known : (v.axis .fc).position = some p := by
    rw [State.axis, ldu, h.ldu]
    exact focus
  have axis : (grantOccasion none w).axis .fc = r := by
    rw [row]
    exact State.setAxis_axis_self v .fc r
  have only : OnlyAxes [.fc] w (grantOccasion none w) := by
    rw [one]
    exact grantOne_axes .fc .slot0 w
  obtain ⟨moving, mode, target, start, -⟩ := started.move p (fun home => by cases home) known
  have record : (grantOccasion none w).fdt = v.fdt := by
    rw [row]
    rfl
  refine ⟨record.trans (fdt.trans h.fdt), alone, (OnlyAxes.of_ldu h.ldu).trans only, ?_, ?_, ?_, ?_, ?_, ?_,
    ?_⟩ <;> rw [axis]
  · exact moving
  · exact started.slot
  · rw [← axisMaximum_of_prf (prf.trans h.prf)]
    exact target
  · exact start
  · exact started.tag
  · exact started.source
  · exact mode

/-! ## The row -/

/-- Settles O50: the command, the evaluation by its rows at a sweep end, and the ends of focus moves at a
step. -/
theorem driftCommandSetsTheTracker : Obligations.DriftCommandSetsTheTracker := by
  refine ⟨fun s awake => ⟨?_, ?_, fun b two => ?_⟩, fun k s awake sweeps => ?_, fun s awake => ?_⟩
  · set u := shiftOut .m 3 s
    obtain ⟨answered, frame⟩ := driftNow_answered true (b := 1) s
    refine ⟨_, exec_drift awake (b := 1) rfl, answered, frame, fun x unset temp => ?_, fun kept => ?_⟩
    · exact congrArg State.fdt (driftOn_of_unset (s := u) unset temp)
    · exact congrArg State.fdt (driftOn_of_kept (s := u) kept)
  · obtain ⟨answered, frame⟩ := driftNow_answered false (b := 0) s
    exact ⟨_, exec_drift awake (b := 0) rfl, answered, frame, rfl⟩
  · exact ⟨_, exec_drift_of_bad awake (flagOfByte_of_two_le two),
      answered_only .m 0x34 [b] (refuse .badValue) s⟩
  · intro r warm possible free
    have row := exec_event (i := .conversionComplete .acz k) rfl awake
    rw [sweepEnd_eq sweeps] at row
    have view := sweepShown_view s k.toNat
    have seen := sweepShown_seen s k.toNat
    generalize sweepShown s k.toNat = u at row view seen
    refine ⟨_, row, fun impossible => ?_, fun passes cool => ?_⟩
    · exact (powerAndDrift_kept view (view.swept fun v hv => hv.impossible impossible)).1
    have calm := sweepTrip_of_cool seen cool
    have lit : u.lps.power = .lit := by
      rw [seen.lps]
      exact passes.1
    refine ⟨fun out => ?_, fun none unfree => ?_,
      fun z p x c none isFree still rests zoom focus hot anchor => ?_⟩
    · exact (powerAndDrift_kept view
        (view.swept_of_calm calm lit fun v hv lit => hv.outstanding lit passes out)).1
    · exact (powerAndDrift_kept view
        (view.swept_of_calm calm lit fun v hv lit => hv.unfree lit passes none unfree)).1
    intro desired delta q blocked issued
    have inputs : DriftInputs s z p x c := ⟨none, isFree, zoom, focus, hot, anchor⟩
    have joined := fun due => powerAndDrift_issued view calm lit seen.afc passes inputs due still rests
    refine ⟨fun undue => ?_, fun due full => ?_, fun due unmoved quiet unwatched => ?_⟩
    · exact powerAndDrift_kept view
        (view.swept_of_calm calm lit fun v hv lit => hv.watching lit passes inputs undue)
    · obtain ⟨w, joins, row⟩ := joined due
      rw [row, joins.waits full]
      exact ⟨joins.fdt, joins.ldu, congrArg Msc.pending joins.msc⟩
    · obtain ⟨w, joins, row⟩ := joined due
      obtain ⟨fdt, alone, only, state, slot, target, start, tag, source, mode⟩ :=
        joins.started unmoved quiet focus unwatched due
      rw [row]
      exact ⟨fdt, alone, only, state, slot, target, start, tag, source, mode⟩
  · intro r watches settled
    refine ⟨_, exec_step .fc awake, fun p moving slot known leg positive ended none => ?_,
      fun p moving slot known ramp cancels short none => ?_⟩
    · obtain ⟨e, v, source, outcome, start, target, book, rests, fdt⟩ := focusStep_told none
        (focusStep_done ⟨moving, slot, known, leg⟩ positive ended none)
      refine ⟨fun user aimed => ?_, fun b c recalled inForce comp => ?_,
        fun q n delta drift begun aimed outstanding => ?_⟩
      · obtain ⟨n, aim⟩ := Option.ne_none_iff_exists'.mp aimed
        exact (rests.userEnd (source.trans user) outcome (target.trans aim) fdt).of_stepTaken
      · have held : e.book.comp = some c := by rw [book, bookOf_of_inForce inForce, comp]
        exact (rests.recallEnd (source.trans recalled) outcome held fdt).of_stepTaken
      · intro added
        have done := (rests.driftDone (source.trans drift) outcome (start.trans begun) (target.trans aimed)
          outstanding fdt).of_stepTaken
        rw [driftSteps_sub] at done
        exact done
    · obtain ⟨e, v, source, outcome, -, -, -, rests, fdt⟩ := focusStep_told none
        (focusStep_cancelled moving slot known ramp cancels short none)
      refine ⟨fun drift => ?_, fun other => ?_⟩
      · exact (rests.driftCancelled (source.trans drift) outcome fdt).of_stepTaken
      · have unfinished : focusEnd e v = v := focusEnd_of_unfinished
          (other.imp source.trans source.trans) outcome
        rw [fdt, unfinished, rests.fdt]
        rfl

end Sys2Proof.Machine
end

section
/-! SUPPORT. The table images: what a role change, a build and a publish make of one bank, and what each
operation of the Bank Manager makes of all of them. A loan is of a LOANED bank, whose image therefore may be
offered again when the loan ends. -/

namespace Sys2Proof.Machine

variable {b : Bank} {x : Bkm}

/-! ## A store of the whole image (R139) -/

/-- A store from offset 0 on that covers every listed offset leaves its own bytes alone. -/
theorem Memory.writeBytes_whole {m : Memory} {bytes : List Byte} (covered : ∀ c ∈ m, c.1 < bytes.length) :
    m.writeBytes 0 bytes = Memory.ofBytes 0 bytes := by
  have before : m.filter (fun c => decide (c.1 < 0)) = [] := by simp
  have after : m.filter (fun c => decide (0 + bytes.length ≤ c.1)) = [] := by simpa using covered
  rw [Memory.writeBytes, before, after, List.nil_append, List.append_nil]

theorem Memory.ofBytes_within {bytes : List Byte} (length : bytes.length = imageLength) :
    Memory.wf (Memory.ofBytes 0 bytes) = true ∧ ∀ c ∈ Memory.ofBytes 0 bytes, c.1 < imageLength := by
  refine ⟨Memory.wfFrom_ofBytes 0 bytes, fun c listed => ?_⟩
  have bound := (Memory.ofBytes_bound 0 bytes c listed).2
  rwa [length, Nat.zero_add] at bound

/-! ## One bank (R135, R139) -/

/-- What `ImageLaw` says of one bank. -/
def Bank.Imaged (b : Bank) : Prop :=
  (Memory.wf b.image = true ∧ ∀ c ∈ b.image, c.1 < imageLength) ∧
  (offered b.role = true → ∃ x, buildVerdict x = .none ∧
    b.image = Memory.ofBytes 0 (imageBytes b.gen x))

theorem imageLaw_iff (s : State) : ImageLaw s ↔ ∀ i, (s.bkm.banks.get i).Imaged := forall_and.symm

/-- A bank that is offered no longer keeps whatever bytes it held. -/
theorem Bank.Imaged.emptied (h : b.Imaged) {r : Role} (withheld : offered r = false) :
    (b.emptied r).Imaged :=
  ⟨h.1, fun shown => by cases withheld.symm.trans shown⟩

/-- An offered table may be offered in another role. -/
theorem Bank.Imaged.reoffered (h : b.Imaged) (shown : offered b.role = true) (r : Role) :
    Bank.Imaged { b with role := r } :=
  ⟨h.1, fun _ => h.2 shown⟩

/-- The published bank holds the whole image of its build, whatever it held before (R137). -/
theorem Bank.Imaged.published (h : b.Imaged) {snap : Snapshot} (passes : buildVerdict snap = .none)
    (gen : Nat) : Bank.Imaged ⟨.ready, gen, b.image.writeBytes 0 (imageBytes gen snap)⟩ := by
  have length := imageBytes_length gen snap
  have whole : b.image.writeBytes 0 (imageBytes gen snap) = Memory.ofBytes 0 (imageBytes gen snap) :=
    Memory.writeBytes_whole fun c listed => length ▸ h.1.2 c listed
  rw [whole]
  exact ⟨Memory.ofBytes_within length, fun _ => ⟨snap, passes, rfl⟩⟩

/-! ## All banks -/

/-- The images are as `ImageLaw` says, and a loan is of a LOANED bank. -/
structure Bkm.Imaged (x : Bkm) : Prop where
  lent : ∀ l, x.loan = some l → (x.banks.get l.bank).role = .loaned
  images : ∀ i, (x.banks.get i).Imaged

theorem imaged_set {banks : PerBank Bank} (h : ∀ i, (banks.get i).Imaged) (i : BankId) (imaged : b.Imaged)
    (j : BankId) : ((banks.set i b).get j).Imaged := by
  rw [PerBank.get_set]
  split
  · exact imaged
  · exact h j

/-- Any bank but the LOANED one may be replaced. -/
theorem Bkm.Imaged.set (h : x.Imaged) {i : BankId} (other : (x.banks.get i).role ≠ .loaned)
    (imaged : b.Imaged) : (x.withBanks (x.banks.set i b)).Imaged where
  lent l loan := by
    have role := h.lent l loan
    have apart : l.bank ≠ i := fun same => other (same ▸ role)
    simpa only [Bkm.withBanks, PerBank.get_set, if_neg apart] using role
  images := imaged_set h.images i imaged

theorem bankIn_ne {banks : PerBank Bank} {r q : Role} {i : BankId} (h : bankIn banks r = some i)
    (apart : r ≠ q) : (banks.get i).role ≠ q := by
  rwa [role_of_bankIn h]

theorem Bkm.Imaged.idle (h : x.Imaged) {i : BankId} (other : (x.banks.get i).role ≠ .loaned) :
    (x.idle i).Imaged :=
  h.set other ((h.images i).emptied rfl)

theorem takeForBuild_of_idle {i : BankId} (idle : bankIn x.banks .idle = some i) :
    x.takeForBuild = x.withBanks (x.banks.set i ((x.banks.get i).emptied .build)) := by
  unfold Bkm.takeForBuild
  rw [idle]

theorem takeForBuild_of_ready {i : BankId} (busy : bankIn x.banks .idle = none)
    (ready : bankIn x.banks .ready = some i) :
    x.takeForBuild = x.withBanks (x.banks.set i ((x.banks.get i).emptied .build)) := by
  unfold Bkm.takeForBuild
  rw [busy, ready]

theorem takeForBuild_of_none (busy : bankIn x.banks .idle = none) (withdrawn : bankIn x.banks .ready = none) :
    x.takeForBuild = x := by
  unfold Bkm.takeForBuild
  rw [busy, withdrawn]

theorem Bkm.Imaged.takeForBuild (h : x.Imaged) : x.takeForBuild.Imaged := by
  cases idle : bankIn x.banks .idle with
  | some i =>
    rw [takeForBuild_of_idle idle]
    exact h.set (bankIn_ne idle (by decide)) ((h.images i).emptied rfl)
  | none =>
    cases ready : bankIn x.banks .ready with
    | some i =>
      rw [takeForBuild_of_ready idle ready]
      exact h.set (bankIn_ne ready (by decide)) ((h.images i).emptied rfl)
    | none => rwa [takeForBuild_of_none idle ready]

/-! ## The end of a build (R137, R138) -/

theorem Bkm.Imaged.reject (h : x.Imaged) : x.reject.Imaged := by
  unfold Bkm.reject
  split
  · exact h
  · exact h.idle (bankIn_ne ‹_› (by decide))

/-- The older READY table handed back before a new one is offered (R137). -/
def Bkm.retired (x : Bkm) : Bkm :=
  match bankIn x.banks .ready with
  | none => x
  | some j => x.idle j

theorem retired_bank (x : Bkm) (j : BankId) : x.retired.banks.get j =
    if bankIn x.banks .ready = some j then (x.banks.get j).emptied .idle else x.banks.get j := by
  unfold Bkm.retired
  cases bankIn x.banks .ready with
  | none => rfl
  | some k =>
    show (x.banks.set k _).get j = _
    rw [PerBank.get_set]
    by_cases same : j = k
    · rw [if_pos same, if_pos (congrArg some same.symm), same]
    · rw [if_neg same, if_neg fun found => same (Option.some.inj found).symm]

theorem retired_of_role {i : BankId} (other : (x.banks.get i).role ≠ .ready) :
    x.retired.banks.get i = x.banks.get i := by
  rw [retired_bank, if_neg fun ready => other (role_of_bankIn ready)]

/-- The table that a publish puts into a bank. -/
def Bkm.table (x : Bkm) (i : BankId) (snap : Snapshot) : Bank :=
  ⟨.ready, nextGeneration x.counter,
    (x.banks.get i).image.writeBytes 0 (imageBytes (nextGeneration x.counter) snap)⟩

theorem publish_of_none (none : bankIn x.banks .build = none) (snap : Snapshot) :
    x.publish snap = { x with counter := nextGeneration x.counter } := by
  simp only [Bkm.publish, none]

theorem publish_of_build {i : BankId} (built : bankIn x.banks .build = some i) (snap : Snapshot) :
    x.publish snap = { x.retired.withBanks (x.retired.banks.set i (x.table i snap)) with
      counter := nextGeneration x.counter } := by
  have kept := retired_of_role (bankIn_ne built (by decide))
  unfold Bkm.table
  rw [← kept]
  simp only [Bkm.publish, built, Bkm.retired]
  cases bankIn x.banks .ready <;> rfl

theorem Bkm.Imaged.retired (h : x.Imaged) : x.retired.Imaged := by
  unfold Bkm.retired
  split
  · exact h
  · exact h.idle (bankIn_ne ‹_› (by decide))

theorem Bkm.Imaged.publish (h : x.Imaged) {snap : Snapshot} (passes : buildVerdict snap = .none) :
    (x.publish snap).Imaged := by
  cases built : bankIn x.banks .build with
  | none =>
    rw [publish_of_none built]
    exact ⟨h.lent, h.images⟩
  | some i =>
    have other : (x.retired.banks.get i).role ≠ .loaned := by
      rw [retired_of_role (bankIn_ne built (by decide))]
      exact bankIn_ne built (by decide)
    have offered := h.retired.set other ((h.images i).published passes (nextGeneration x.counter))
    rw [publish_of_build built]
    exact ⟨offered.lent, offered.images⟩

/-! ## Loans (R142, R143, R145, R146, R149) -/

/-- The end of a loan may leave its table offered in another role. -/
theorem Bkm.Imaged.handOn (h : x.Imaged) {l : Loan} (loan : x.loan = some l) (r : Role) :
    Bkm.Imaged { x.role l.bank r with loan := none } :=
  have shown : offered (x.banks.get l.bank).role = true := by rw [h.lent l loan]; rfl
  ⟨nofun, imaged_set h.images l.bank ((h.images l.bank).reoffered shown r)⟩

theorem Bkm.Imaged.release (h : x.Imaged) : x.release.Imaged := by
  unfold Bkm.release
  split
  · exact h
  · rename_i l loan
    dsimp only
    split
    · exact h.handOn loan .ready
    · exact ⟨nofun, imaged_set h.images l.bank ((h.images l.bank).emptied rfl)⟩

theorem Bkm.Imaged.openLoan (h : x.Imaged) : x.openLoan.Imaged := by
  have free := h.release
  unfold Bkm.openLoan
  dsimp only
  split
  · exact free
  · rename_i i ready
    have shown : offered (x.release.banks.get i).role = true := by rw [role_of_bankIn ready]; rfl
    refine ⟨fun l loan => ?_, imaged_set free.images i ((free.images i).reoffered shown .loaned)⟩
    cases loan
    simp [Bkm.role, Bkm.withBanks, PerBank.get_set]

theorem Bkm.Imaged.takeLive (h : x.Imaged) {l : Loan} (loan : x.loan = some l) : (x.takeLive l).Imaged := by
  unfold Bkm.takeLive
  dsimp only
  split
  · exact h.handOn loan .live
  · exact (h.idle (bankIn_ne ‹_› (by decide))).handOn loan .live

theorem loan_of_loanOf {g : Nat} {l : Loan} (h : x.loanOf g = some l) : x.loan = some l := by
  unfold Bkm.loanOf at h
  split at h
  · cases h
  · split at h
    · rwa [← h]
    · cases h

theorem Bkm.Imaged.expire (h : x.Imaged) : x.expire.Imaged := by
  unfold Bkm.expire
  split
  · exact h
  · exact ⟨h.release.lent, h.release.images⟩

theorem Bkm.Imaged.railLoss (h : x.Imaged) : x.railLoss.Imaged := by
  unfold Bkm.railLoss
  dsimp only
  split
  · exact h.release
  · exact h.release.idle (bankIn_ne ‹_› (by decide))

theorem Bkm.Imaged.tick (h : x.Imaged) : x.tick.Imaged where
  lent l loan := by
    obtain ⟨k, lent, rfl⟩ := Option.map_eq_some_iff.mp loan
    exact h.lent k lent
  images := h.images

end Sys2Proof.Machine
end

section
/-! STEP. No command makes another change of the banks than these, so every step keeps the images. -/

namespace Sys2Proof.Machine

variable {s : State}

/-- The verdict on a build, before GEO looks at the pending flag (R133, R137, R138). -/
def verdictGiven (x : Snapshot) (s : State) : State :=
  raiseOn .geometry .m
    ((s.withBkm (if buildVerdict x = .none then s.bkm.publish x else s.bkm.reject)).withGeo
      { s.geo with lastReject := buildVerdict x })

theorem verdictGiven_geo (x : Snapshot) (s : State) :
    (verdictGiven x s).geo = { s.geo with lastReject := buildVerdict x } := rfl

theorem verdictGiven_bkm (x : Snapshot) (s : State) :
    (verdictGiven x s).bkm = if buildVerdict x = .none then s.bkm.publish x else s.bkm.reject := rfl

theorem finishBuild_of_building {x : Snapshot} (building : s.geo.building = true)
    (snapshot : s.geo.snapshot = some x) : finishBuild s = afterBuild (verdictGiven x s) := by
  unfold finishBuild
  rw [building, snapshot]
  rfl

theorem finishBuild_cases (s : State) :
    finishBuild s = s ∨ ∃ x, finishBuild s = afterBuild (verdictGiven x s) := by
  cases building : s.geo.building with
  | false => exact .inl (by rw [finishBuild, building])
  | true =>
    cases snapshot : s.geo.snapshot with
    | none => exact .inl (by rw [finishBuild, building, snapshot])
    | some x => exact .inr ⟨x, finishBuild_of_building building snapshot⟩

theorem imaged_verdictGiven (h : s.bkm.Imaged) (x : Snapshot) : (verdictGiven x s).bkm.Imaged := by
  rw [verdictGiven_bkm]
  split
  · exact h.publish ‹_›
  · exact h.reject

theorem imaged_afterBuild (h : s.bkm.Imaged) : (afterBuild s).bkm.Imaged := by
  unfold afterBuild
  split
  · exact Bkm.Imaged.takeForBuild h
  · exact h

theorem imaged_finishBuild (h : s.bkm.Imaged) : (finishBuild s).bkm.Imaged := by
  rcases finishBuild_cases s with same | ⟨x, ends⟩
  · rwa [same]
  · rw [ends]
    exact imaged_afterBuild (imaged_verdictGiven h x)

theorem imaged_reset : State.reset.bkm.Imaged :=
  ⟨nofun, (imageLaw_iff State.reset).mp imageLaw_reset⟩

/-- Every primitive change of the machine keeps the images. -/
theorem imaged_closed : MachineClosed (fun s => s.bkm.Imaged) where
  toLensClosed := bkm_lens fun _ h => h.takeForBuild
  choices _ _ h := h
  scn _ _ h := h
  awake _ h := h
  afc _ _ h := h
  lps _ _ h := h
  ptb _ _ h := h
  nvs _ _ h := h
  prf _ _ h := h
  settings _ _ h := h
  port _ _ _ h := h
  clear _ _ h := h
  mask _ _ _ h := h
  announce _ h := h
  finish _ h := imaged_finishBuild h
  openLoan _ h := h.openLoan
  takeLive _ _ _ loan h := h.takeLive (loan_of_loanOf loan)
  release _ h := h.release
  expire _ h := h.expire
  railLoss _ h := h.railLoss
  bankTick _ h := h.tick
  reset _ _ := imaged_reset

/-- Lawful banks with lawful images: the bank of a loan is the LOANED one (R135). -/
theorem BankLaw.imaged (banks : BankLaw s) (images : ImageLaw s) : s.bkm.Imaged where
  lent l loan := by
    obtain ⟨-, -, -, -, lent, -⟩ := banks
    rw [loan] at lent
    exact role_of_bankIn lent.symm
  images := (imageLaw_iff s).mp images

/-- Settles O13: the loan's bank is LOANED, and beside that the images are kept by every primitive change. -/
theorem everyStepKeepsTheImageLaw : Obligations.EveryStepKeepsTheImageLaw := by
  intro s t banks images row
  have kept : t.bkm.Imaged := step_keeps imaged_closed (fun _ _ h => h) (banks.imaged images) row
  exact (imageLaw_iff t).mpr kept.images

end Sys2Proof.Machine
end

section
/-! The geometry commands and the builds. A command stores what differs from the settings held and asks for
a build; a build takes a bank; its end publishes that bank or hands it back. -/

namespace Sys2Proof.Machine

variable {s : State} {x : Bkm}

/-! ## Settings (R117 to R119) -/

theorem storeSettings_of_same {y : Settings} (same : y = s.geo.settings) : storeSettings y s = s :=
  if_pos same.symm

theorem storeSettings_of_changed {y : Settings} (changed : y ≠ s.geo.settings) :
    storeSettings y s = changeSettings y s :=
  if_neg changed.symm

theorem storeSettings_settings (y : Settings) (s : State) : (storeSettings y s).geo.settings = y := by
  unfold storeSettings
  split
  · assumption
  · exact changeSettings_settings y s

theorem storeSettings_frame (y : Settings) (s : State) :
    Unchanged [.geo, .nvs, .bkm] s (storeSettings y s) := by
  unfold storeSettings
  split
  · exact .refl _ _
  · exact changeSettings_frame y s

/-- The build that a change asks for is judged by the builds and the banks before the change. -/
theorem changeSettings_asked (y : Settings) (s : State) : BuildAsked s (changeSettings y s) := by
  have geo : (markDirty .geometry (s.withGeo { s.geo with settings := y })).geo =
      { s.geo with settings := y } := markDirty_frame .geometry _ .geo (by simp)
  have bkm : (markDirty .geometry (s.withGeo { s.geo with settings := y })).bkm = s.bkm :=
    markDirty_frame .geometry _ .bkm (by simp)
  have asked := requestBuild_asked (markDirty .geometry (s.withGeo { s.geo with settings := y }))
  unfold BuildAsked at asked ⊢
  rw [geo, bkm] at asked
  exact asked

/-- The mark changes no stored item. -/
theorem changeSettings_stored (y : Settings) (s : State) :
    (changeSettings y s).nvs.slots = s.nvs.slots ∧ (changeSettings y s).nvs.geometry = s.nvs.geometry := by
  have nvs : (changeSettings y s).nvs = (markDirty .geometry (s.withGeo { s.geo with settings := y })).nvs :=
    requestBuild_frame _ .nvs (by simp)
  rw [nvs]
  exact markDirty_stored .geometry _

/-! ## TRIMS, KEYSTONE, ORIENTATION and REBUILD (R117 to R119, R122) -/

/-- The response to a geometry command: the record as the command leaves it (R134). -/
def geometryAnswered (code : Byte) (u : State) : State := respond .m code (answerOk (geometryBytes u)) u

theorem geometryAnswered_answered {u : State} (code : Byte) (d : List Byte)
    (h : Unchanged [.geo, .nvs, .bkm] (shiftOut .m (d.length + 2) s) u) :
    Answered .m code d .ok (geometryBytes (geometryAnswered code u)) s (geometryAnswered code u) :=
  respond_answered .m code d (answerOk (geometryBytes u)) (h .ports (by simp))

theorem exec_trims {d : List Byte} {z : Trims} (awake : s.inReset = false) (parsed : parseTrims d = some z) :
    exec (.trims .m d) s = .next (geometryAnswered 0x30 (setTrims z (shiftOut .m (d.length + 2) s))) := by
  have fits : cmdLengthOk .trims d.length = true := by
    unfold parseTrims at parsed
    split at parsed
    · rfl
    · cases parsed
  exact (exec_next _ s).trans (congrArg _ (takeCommand_of_accepted awake rfl fits parsed))

theorem exec_keystone {b : Byte} {on : Bool} (awake : s.inReset = false) (flag : flagOfByte b = some on) :
    exec (.keystone .m [b]) s = .next (geometryAnswered 0x31 (setKeystone on (shiftOut .m 3 s))) :=
  (exec_next _ s).trans (congrArg _
    (takeCommand_of_accepted (parse := parseOnOff) (d := [b]) awake rfl rfl flag))

theorem exec_orientation {b : Byte} {m : OrientationMode} (awake : s.inReset = false)
    (mode : orientationModeOfByte b = some m) :
    exec (.orientation .m [b]) s = .next (geometryAnswered 0x32 (setOrientation m (shiftOut .m 3 s))) :=
  (exec_next _ s).trans (congrArg _
    (takeCommand_of_accepted (parse := parseOrientation) (d := [b]) awake rfl rfl mode))

theorem exec_rebuild (awake : s.inReset = false) :
    exec (.rebuild .m []) s = .next (geometryAnswered 0x33 (requestBuild (shiftOut .m 2 s))) :=
  (exec_next _ s).trans (congrArg _ (takeCommand_of_accepted awake rfl rfl rfl))

/-- What a geometry command leaves whose settings are `y`. -/
structure SettingsTaken (code : Byte) (d : List Byte) (y : Settings) (s t : State) : Prop where
  answered : Answered .m code d .ok (geometryBytes t) s t
  settings : t.geo.settings = y
  same : y = s.geo.settings → Unchanged [.ports] s t
  changed : y ≠ s.geo.settings → Unchanged [.ports, .geo, .bkm, .nvs] s t ∧ BuildAsked s t ∧
    Marked .geometry t ∧ t.nvs.slots = s.nvs.slots ∧ t.nvs.geometry = s.nvs.geometry

theorem storeSettings_taken (code : Byte) (d : List Byte) (y : Settings) (s : State) :
    SettingsTaken code d y s
      (geometryAnswered code (storeSettings y (shiftOut .m (d.length + 2) s))) where
  answered := geometryAnswered_answered code d (storeSettings_frame y _)
  settings := storeSettings_settings y _
  same held := by
    rw [storeSettings_of_same (s := shiftOut .m (d.length + 2) s) held]
    exact (answered_only .m code d _ s).2
  changed differs := by
    rw [storeSettings_of_changed (s := shiftOut .m (d.length + 2) s) differs]
    exact ⟨((changeSettings_frame y _).taken code _).weaken (by simp),
      ((changeSettings_asked y (shiftOut .m (d.length + 2) s)).of_eq rfl rfl).respond .m code _,
      (changeSettings_marked y _).geometry_congr rfl rfl, changeSettings_stored y (shiftOut .m _ s)⟩

/-- Settles O51: three commands store settings, the fourth asks for a build alone. -/
theorem geometryCommandsStoreSettingsAndAskForBuilds :
    Obligations.GeometryCommandsStoreSettingsAndAskForBuilds := by
  intro s awake stored fit
  have taken : ∀ code d y, stored code d y
      (geometryAnswered code (storeSettings y (shiftOut .m (d.length + 2) s))) := fun code d y =>
    let h := storeSettings_taken code d y s
    ⟨h.answered, h.settings, h.same, h.changed⟩
  have builds := requestBuild_frame (shiftOut .m 2 s)
  exact ⟨fun d z parsed => ⟨_, exec_trims awake parsed, taken 0x30 d _⟩,
    fun b on flag => ⟨_, exec_keystone awake flag, taken 0x31 [b] _⟩,
    fun b m mode => ⟨_, exec_orientation awake mode, taken 0x32 [b] _⟩,
    _, exec_rebuild awake, geometryAnswered_answered 0x33 [] (builds.weaken (by simp)),
    requestBuild_settings _, builds.taken 0x33 _,
    ((requestBuild_asked (shiftOut .m 2 s)).of_eq rfl rfl).respond .m 0x33 _⟩

/-! ## The bank for a build (R136) -/

/-- The lowest bank in a role stays while a bank of other roles is replaced. -/
theorem bankIn_set {banks : PerBank Bank} {r : Role} {i : BankId} {y : Bank}
    (was : (banks.get i).role ≠ r) (becomes : y.role ≠ r) :
    bankIn (banks.set i y) r = bankIn banks r := by
  have alike : (fun j => ((banks.set i y).get j).role == r) = fun j => (banks.get j).role == r := by
    funext j
    rw [PerBank.get_set]
    split
    · rename_i same
      simp [same, was, becomes]
    · rfl
  rw [bankIn, alike, bankIn]

theorem isSome_bankIn {banks : PerBank Bank} {r : Role} {i : BankId} (h : (banks.get i).role = r) :
    (bankIn banks r).isSome = true :=
  Option.isSome_iff_ne_none.mpr fun none => (bankIn_eq_none_iff banks r).mp none i h

/-- Outside a build, three banks without an IDLE one are not all LOANED or LIVE: one is READY. -/
theorem BankLaw.ready_of_busy (h : BankLaw s) (free : s.geo.building = false)
    (busy : ∀ i, (s.bkm.banks.get i).role ≠ .idle) : ∃ i, bankIn s.bkm.banks .ready = some i := by
  obtain ⟨-, unique, build, -⟩ := h
  refine Option.ne_none_iff_exists'.mp fun noReady => ?_
  have noBuild : bankIn s.bkm.banks .build = none := by simpa [free] using build
  have out : ∀ i, (s.bkm.banks.get i).role = .loaned ∨ (s.bkm.banks.get i).role = .live := fun i => by
    have notIdle := busy i
    have notReady := (bankIn_eq_none_iff _ _).mp noReady i
    have notBuild := (bankIn_eq_none_iff _ _).mp noBuild i
    cases role : (s.bkm.banks.get i).role with
    | loaned => exact .inl rfl
    | live => exact .inr rfl
    | idle => exact absurd role notIdle
    | ready => exact absurd role notReady
    | build => exact absurd role notBuild
  have apart : ∀ i j, i ≠ j → (s.bkm.banks.get i).role ≠ (s.bkm.banks.get j).role :=
    fun i j other same => other (unique _ (busy i) i j rfl same.symm)
  have first := apart .b0 .b1 (by decide)
  have outer := apart .b0 .b2 (by decide)
  have last := apart .b1 .b2 (by decide)
  grind [out .b0, out .b1, out .b2]

/-- Settles O52: by whether a bank is IDLE. -/
theorem buildTakesAnIdleBankOrTheReadyOne : Obligations.BuildTakesAnIdleBankOrTheReadyOne := by
  intro s awake banks free
  have ⟨line, unique, _⟩ := banks
  obtain ⟨-, -, -, starts⟩ := requestBuild_asked (shiftOut .m 2 s)
  have bkm : (geometryAnswered 0x33 (requestBuild (shiftOut .m 2 s))).bkm = s.bkm.takeForBuild :=
    (starts free).2.2
  refine ⟨_, exec_rebuild awake, ?_⟩
  rw [bkm]
  cases idle : bankIn s.bkm.banks .idle with
  | some i =>
    rw [takeForBuild_of_idle idle]
    refine ⟨i, rfl, rfl, rfl, fun _ => ⟨rfl, ?_⟩, fun none => absurd (role_of_bankIn idle) (none i)⟩
    rw [line, Bkm.withBanks, bankIn_set (bankIn_ne idle (by decide)) (by simp)]
  | none =>
    have busy := (bankIn_eq_none_iff _ _).mp idle
    obtain ⟨i, ready⟩ := banks.ready_of_busy free busy
    have role := role_of_bankIn ready
    rw [takeForBuild_of_ready idle ready]
    refine ⟨i, rfl, rfl, rfl, fun ⟨j, isIdle⟩ => absurd isIdle (busy j), fun _ => ⟨role, ?_⟩⟩
    have withdrawn : bankIn (s.bkm.banks.set i ((s.bkm.banks.get i).emptied .build)) .ready = none :=
      (bankIn_eq_none_iff _ _).mpr fun j still =>
        have ⟨other, was⟩ := role_of_set (by simp) still
        other (unique .ready (by decide) j i was role)
    rw [Bkm.withBanks, withdrawn]
    rfl

/-! ## The end of a build (R121, R133, R137, R138) -/

theorem reject_of_build {i : BankId} (built : bankIn x.banks .build = some i) : x.reject = x.idle i := by
  rw [Bkm.reject, built]

theorem publish_counts {i : BankId} (built : bankIn x.banks .build = some i) (snap : Snapshot) :
    (x.publish snap).Counts x.loan (nextGeneration x.counter) x.expiries := by
  have kept : x.retired.loan = x.loan ∧ x.retired.expiries = x.expiries := by
    unfold Bkm.retired
    split <;> exact ⟨rfl, rfl⟩
  rw [publish_of_build built]
  exact ⟨kept.1, rfl, kept.2⟩

/-- The banks after a publish: the new table, the older READY one retired, the third as it was. -/
theorem publish_bank {i : BankId} (built : bankIn x.banks .build = some i) (snap : Snapshot) (j : BankId) :
    (x.publish snap).banks.get j = if j = i then x.table i snap
      else if bankIn x.banks .ready = some j then (x.banks.get j).emptied .idle else x.banks.get j := by
  rw [publish_of_build built, ← retired_bank]
  exact PerBank.get_set _ i j _

theorem publish_tblRdy {i : BankId} (built : bankIn x.banks .build = some i) (snap : Snapshot) :
    (x.publish snap).tblRdy = true := by
  rw [publish_of_build built]
  refine isSome_bankIn (i := i) ?_
  rw [PerBank.get_set, if_pos rfl]
  rfl

/-- The published image is read back byte by byte (R139). -/
theorem table_read (x : Bkm) (i : BankId) (snap : Snapshot) {k : Nat} (within : k < 3776) :
    (x.table i snap).image.read k = (imageBytes (nextGeneration x.counter) snap).getD k 0 := by
  have read := Memory.read_writeBytes (m := (x.banks.get i).image) (base := 0) (k := k)
    (bytes := imageBytes (nextGeneration x.counter) snap) (by rwa [imageBytes_length])
  rwa [Nat.zero_add] at read

theorem nextGeneration_eq (g : Nat) : nextGeneration g = if g < 65535 then g + 1 else 1 := by
  unfold nextGeneration
  split <;> split <;> omega

theorem verdictGiven_frame (y : Snapshot) (s : State) :
    Unchanged [.geo, .bkm, .attention] s (verdictGiven y s) :=
  (((withBkm_frame s _).weaken (by simp)).trans ((withGeo_frame _ _).weaken (by simp))).trans
    ((raiseOn_frame .geometry .m _).weaken (by simp))

theorem verdictGiven_joined (y : Snapshot) (s : State) :
    JoinedM (causeBit .geometry) s (verdictGiven y s) := raiseOn_m_joined .geometry _

theorem verdictGiven_counts {i : BankId} (built : bankIn s.bkm.banks .build = some i) (y : Snapshot) :
    (verdictGiven y s).bkm.Counts s.bkm.loan
      (if buildVerdict y = .none then nextGeneration s.bkm.counter else s.bkm.counter) s.bkm.expiries := by
  rw [verdictGiven_bkm]
  split
  · exact publish_counts built y
  · rw [reject_of_build built]
    exact ⟨rfl, rfl, rfl⟩

/-- The snapshot of a build is of what the state still shows once the build runs (R120). -/
theorem startBuild_started (s : State) : (startBuild s).geo.building = true ∧
    (startBuild s).geo.snapshot = some (takeSnapshot (startBuild s)) := ⟨rfl, rfl⟩

theorem afterBuild_of_pending (pending : s.geo.pendingBuild = true) : afterBuild s = startBuild s :=
  if_pos pending

theorem afterBuild_of_none (none : s.geo.pendingBuild = false) :
    afterBuild s = s.withGeo { s.geo with building := false } :=
  if_neg (by simp [none])

theorem afterBuild_frame (s : State) : Unchanged [.geo, .bkm] s (afterBuild s) := by
  unfold afterBuild
  split
  · exact ((withGeo_frame s _).weaken (by simp)).trans ((withBkm_frame _ _).weaken (by simp))
  · exact (withGeo_frame s _).weaken (by simp)

theorem afterBuild_geo (s : State) : (afterBuild s).geo.settings = s.geo.settings ∧
    (afterBuild s).geo.lastReject = s.geo.lastReject ∧ (afterBuild s).geo.pendingBuild = false := by
  cases pending : s.geo.pendingBuild with
  | true =>
    rw [afterBuild_of_pending pending]
    exact ⟨rfl, rfl, rfl⟩
  | false =>
    rw [afterBuild_of_none pending]
    exact ⟨rfl, rfl, pending⟩

theorem afterBuild_counts {l : Option Loan} {c e : Nat} (h : s.bkm.Counts l c e) :
    (afterBuild s).bkm.Counts l c e := by
  unfold afterBuild
  split
  · exact Bkm.Counts.takeForBuild h
  · exact h

/-- Settles O53: the verdict first, then the pending flag. -/
theorem buildEndPublishesOrHandsBack : Obligations.BuildEndPublishesOrHandsBack := by
  intro y i s awake building snapshot built gen
  have next : nextGeneration s.bkm.counter = gen := nextGeneration_eq _
  have row : exec .buildEnd s = .next (afterBuild (verdictGiven y s)) :=
    (exec_event rfl awake).trans (congrArg _ (finishBuild_of_building building snapshot))
  have frame := afterBuild_frame (verdictGiven y s)
  have joined : JoinedM (causeBit .geometry) s (afterBuild (verdictGiven y s)) := by
    obtain ⟨onM, onS⟩ := frame .attention (by simp)
    unfold JoinedM
    rw [onM, onS]
    exact verdictGiven_joined y s
  obtain ⟨settings, verdict, taken⟩ := afterBuild_geo (verdictGiven y s)
  rw [verdictGiven_geo] at settings verdict
  obtain ⟨loan, counter, -⟩ := afterBuild_counts (verdictGiven_counts built y)
  rw [next] at counter
  refine ⟨_, row, (verdictGiven_frame y s).trans (frame.weaken (by simp)), joined, verdict, settings,
    taken, counter, loan, fun pending => ?_, fun none => ?_⟩
  · rw [afterBuild_of_pending (s := verdictGiven y s) pending]
    exact startBuild_started _
  · have bkm : (afterBuild (verdictGiven y s)).bkm = (verdictGiven y s).bkm := by
      rw [afterBuild_of_none (s := verdictGiven y s) none]
      rfl
    have geo : (afterBuild (verdictGiven y s)).geo = { (verdictGiven y s).geo with building := false } := by
      rw [afterBuild_of_none (s := verdictGiven y s) none]
      rfl
    rw [bkm, geo, verdictGiven_bkm]
    refine ⟨rfl, snapshot, fun passes => ?_, fun fails => ?_⟩
    · rw [if_pos passes]
      have table := (publish_bank built y i).trans (if_pos rfl)
      refine ⟨publish_tblRdy built y, congrArg Bank.role table, (congrArg Bank.gen table).trans next,
        fun k within => ?_, fun j ready => ?_, fun j other unready => ?_⟩
      · rw [table, table_read _ i y within, next]
      · have apart : j ≠ i := by
          rintro rfl
          exact bankIn_ne built (by decide) (role_of_bankIn ready)
        rw [publish_bank built, if_neg apart, if_pos ready]
        exact ⟨rfl, rfl⟩
      · rw [publish_bank built, if_neg other, if_neg unready]
    · rw [if_neg fails, reject_of_build built]
      rfl

end Sys2Proof.Machine
end

section
/-! SUPPORT. The law of the table banks, said of the bank record alone, and what each operation of the Bank
Manager makes of it. Every operation gives one bank another record at a time: a loan goes on beside such a
change, ends with it, or begins with it. -/

namespace Sys2Proof.Machine

variable {x : Bkm} {b : Bank} {i : BankId} {l : Loan} {building after : Bool}

/-! ## The lowest bank in a role (R135) -/

theorem isSome_bankIn_iff (banks : PerBank Bank) (r : Role) :
    (bankIn banks r).isSome = true ↔ ∃ i, (banks.get i).role = r :=
  ⟨fun found => have ⟨i, hi⟩ := Option.isSome_iff_exists.mp found
    ⟨i, role_of_bankIn hi⟩, fun ⟨_, role⟩ => isSome_bankIn role⟩

/-- Where no two banks share a role, the bank in that role is the lowest one. -/
theorem bankIn_eq_some_iff {banks : PerBank Bank} {r : Role}
    (single : ∀ i j, (banks.get i).role = r → (banks.get j).role = r → i = j) (i : BankId) :
    bankIn banks r = some i ↔ (banks.get i).role = r := by
  refine ⟨role_of_bankIn, fun role => ?_⟩
  obtain ⟨j, found⟩ := Option.isSome_iff_exists.mp (isSome_bankIn role)
  rw [found, single j i (role_of_bankIn found) role]

/-! ## The law of the bank record (R135, R136) -/

/-- The generation of one bank: 0 while it holds no table, and a 16-bit number. -/
def Bank.Numbered (b : Bank) : Prop :=
  (b.role = .idle ∨ b.role = .build → b.gen = 0) ∧ b.gen ≤ 65535

theorem Bank.numbered_emptied (b : Bank) (r : Role) : (b.emptied r).Numbered :=
  ⟨fun _ => rfl, Nat.zero_le _⟩

/-- A bank that offers its table in a role keeps its generation. -/
theorem Bank.Numbered.offer (h : b.Numbered) {r : Role} (shown : offered r = true) :
    Bank.Numbered { b with role := r } := by
  refine ⟨fun hidden => ?_, h.2⟩
  rcases hidden with rfl | rfl <;> cases shown

/-- What `BankLaw` says of the bank record, beside a build that runs or not. -/
structure Bkm.Lawful (building : Bool) (x : Bkm) : Prop where
  line : x.tblRdy = (bankIn x.banks .ready).isSome
  single : ∀ r, r ≠ .idle → ∀ i j, (x.banks.get i).role = r → (x.banks.get j).role = r → i = j
  build : building = true ↔ ∃ i, (x.banks.get i).role = .build
  lent : ∀ i, x.loan.map Loan.bank = some i ↔ (x.banks.get i).role = .loaned
  lentGen : ∀ l, x.loan = some l → (x.banks.get l.bank).gen = l.gen
  numbered : ∀ i, (x.banks.get i).Numbered
  counter : x.counter ≤ 65535
  expiries : x.expiries ≤ 65535

theorem bankLaw_iff (s : State) : BankLaw s ↔
    s.bkm.Lawful s.geo.building ∧ (s.geo.building = true → s.geo.snapshot.isSome = true) := by
  constructor
  · rintro ⟨line, single, build, snapshot, lent, lentGen, empty, bound, counter, expiries⟩
    refine ⟨⟨line, single, ?_, fun i => ?_, lentGen, fun i => ⟨empty i, bound i⟩, counter, expiries⟩,
      snapshot⟩
    · rw [build, isSome_bankIn_iff]
    · rw [lent, bankIn_eq_some_iff (single .loaned (by decide))]
  · rintro ⟨h, snapshot⟩
    refine ⟨h.line, h.single, ?_, snapshot, Option.ext fun i => ?_, h.lentGen,
      fun i => (h.numbered i).1, fun i => (h.numbered i).2, h.counter, h.expiries⟩
    · rw [Bool.eq_iff_iff, isSome_bankIn_iff, h.build]
    · rw [h.lent, bankIn_eq_some_iff (h.single .loaned (by decide))]

theorem BankLaw.lawful {s : State} (h : BankLaw s) : s.bkm.Lawful s.geo.building := ((bankLaw_iff s).mp h).1

theorem Bkm.Lawful.bankIn_iff (h : x.Lawful building) {r : Role} (busy : r ≠ .idle) (i : BankId) :
    bankIn x.banks r = some i ↔ (x.banks.get i).role = r :=
  bankIn_eq_some_iff (h.single r busy) i

theorem Bkm.Lawful.role_of_loan (h : x.Lawful building) (loan : x.loan = some l) :
    (x.banks.get l.bank).role = .loaned := (h.lent l.bank).mp (by rw [loan]; rfl)

/-! ## One bank replaced -/

/-- The bank record with another bank in the place of one, and the loan given. -/
def Bkm.replace (x : Bkm) (i : BankId) (b : Bank) (loan : Option Loan) : Bkm :=
  { x.withBanks (x.banks.set i b) with loan := loan }

@[simp] theorem replace_get (x : Bkm) (i j : BankId) (y : Bank) (loan : Option Loan) :
    (x.replace i y loan).banks.get j = if j = i then y else x.banks.get j := PerBank.get_set x.banks i j y

/-- Another bank in the place of one keeps the law if its role is free, with a build and a loan that
follow the two roles. -/
theorem Bkm.Lawful.replace (h : x.Lawful building) {loan : Option Loan} (numbered : b.Numbered)
    (free : b.role ≠ .idle → ∀ j, (x.banks.get j).role = b.role → j = i)
    (builds : after = true ↔ b.role = .build ∨ building = true ∧ (x.banks.get i).role ≠ .build)
    (lent : ∀ j, loan.map Loan.bank = some j ↔ ((x.banks.set i b).get j).role = .loaned)
    (lentGen : ∀ l, loan = some l → ((x.banks.set i b).get l.bank).gen = l.gen) :
    (x.replace i b loan).Lawful after where
  line := rfl
  single r busy j k hj hk := by
    simp only [replace_get] at hj hk
    have old := h.single r busy j k
    grind
  build := by
    have old := h.build
    have single := h.single .build (by decide)
    simp only [replace_get]
    grind
  lent := lent
  lentGen := lentGen
  numbered j := by
    rw [replace_get]
    split
    · exact numbered
    · exact h.numbered j
  counter := h.counter
  expiries := h.expiries

/-- A loan goes on beside a change of another bank. -/
theorem Bkm.Lawful.beside (h : x.Lawful building) (numbered : b.Numbered)
    (free : b.role ≠ .idle → ∀ j, (x.banks.get j).role = b.role → j = i)
    (builds : after = true ↔ b.role = .build ∨ building = true ∧ (x.banks.get i).role ≠ .build)
    (was : (x.banks.get i).role ≠ .loaned) (becomes : b.role ≠ .loaned) :
    (x.withBanks (x.banks.set i b)).Lawful after := by
  refine h.replace (loan := x.loan) numbered free builds (fun j => ?_) (fun l loan => ?_)
  · rw [PerBank.get_set, h.lent]
    split
    · rename_i same
      simp [same, was, becomes]
    · rfl
  · have apart : l.bank ≠ i := fun same => was (same ▸ h.role_of_loan loan)
    rw [PerBank.get_set, if_neg apart, h.lentGen l loan]

/-- A loan ends with the new role of its bank. -/
theorem Bkm.Lawful.endLoan (h : x.Lawful building) (loan : x.loan = some l) (numbered : b.Numbered)
    (free : b.role ≠ .idle → ∀ j, (x.banks.get j).role ≠ b.role)
    (becomes : b.role ≠ .loaned) (unbuilt : b.role ≠ .build) :
    (x.replace l.bank b none).Lawful building := by
  have was := h.role_of_loan loan
  refine h.replace numbered (fun busy j same => absurd same (free busy j)) (by simp [was, unbuilt])
    (fun j => ?_) nofun
  have only := h.single .loaned (by decide) j l.bank
  rw [PerBank.get_set]
  grind

/-- A loan begins with the new role of its bank. -/
theorem Bkm.Lawful.beginLoan (h : x.Lawful building) (free : x.loan = none)
    (ready : (x.banks.get i).role = .ready) (n : Nat) :
    (x.replace i { x.banks.get i with role := .loaned }
      (some ⟨i, (x.banks.get i).gen, n⟩)).Lawful building := by
  have unlent : ∀ j, (x.banks.get j).role ≠ .loaned := fun j role => by
    have lent := (h.lent j).mpr role
    rw [free] at lent
    cases lent
  refine h.replace ((h.numbered i).offer rfl) (fun _ j same => absurd same (unlent j))
    (by simp [ready]) (fun j => ?_) (fun l loan => ?_)
  · rw [PerBank.get_set]
    have old := unlent j
    grind
  · cases loan
    rw [PerBank.get_set, if_pos rfl]

/-- A bank that is not LOANED may be put back; a build whose bank it is has ended. -/
theorem Bkm.Lawful.idle (h : x.Lawful building) (was : (x.banks.get i).role ≠ .loaned)
    (builds : after = true ↔ building = true ∧ (x.banks.get i).role ≠ .build) : (x.idle i).Lawful after :=
  h.beside (Bank.numbered_emptied _ _) (fun busy => absurd rfl busy) (by simpa using builds) was (by simp)

/-- A bank that is offered and not LOANED may be put back at any time. -/
theorem Bkm.Lawful.idle_of_bankIn (h : x.Lawful building) {r : Role} (found : bankIn x.banks r = some i)
    (unlent : r ≠ .loaned) (unbuilt : r ≠ .build) : (x.idle i).Lawful building :=
  h.idle (bankIn_ne found unlent) (by simp [bankIn_ne found unbuilt])

/-! ## Builds (R136, R137, R138) -/

theorem Bkm.Lawful.bankIn_build (h : x.Lawful true) : ∃ i, bankIn x.banks .build = some i := by
  obtain ⟨i, role⟩ := h.build.mp rfl
  exact ⟨i, (h.bankIn_iff (by decide) i).mpr role⟩

/-- Outside a build, the bank taken for one was IDLE or READY and becomes its BUILD bank. -/
theorem Bkm.Lawful.takeForBuild (h : x.Lawful false)
    (ready : (∀ i, (x.banks.get i).role ≠ .idle) → ∃ i, bankIn x.banks .ready = some i) :
    x.takeForBuild.Lawful true := by
  have unbuilt : ∀ j, (x.banks.get j).role ≠ .build := fun j role => by cases h.build.mpr ⟨j, role⟩
  have taken : ∀ {r i}, bankIn x.banks r = some i → r ≠ .loaned →
      (x.withBanks (x.banks.set i ((x.banks.get i).emptied .build))).Lawful true := fun found unlent =>
    h.beside (Bank.numbered_emptied _ _) (fun _ j built => absurd built (unbuilt j)) (by simp)
      (bankIn_ne found unlent) (by simp)
  cases idle : bankIn x.banks .idle with
  | some i =>
    rw [takeForBuild_of_idle idle]
    exact taken idle (by decide)
  | none =>
    obtain ⟨i, found⟩ := ready ((bankIn_eq_none_iff _ _).mp idle)
    rw [takeForBuild_of_ready idle found]
    exact taken found (by decide)

theorem Bkm.Lawful.reject (h : x.Lawful true) : x.reject.Lawful false := by
  obtain ⟨i, built⟩ := h.bankIn_build
  rw [reject_of_build built]
  exact h.idle (bankIn_ne built (by decide)) (by simp [role_of_bankIn built])

theorem Bkm.Lawful.retired (h : x.Lawful building) : x.retired.Lawful building := by
  unfold Bkm.retired
  split
  · exact h
  · exact h.idle_of_bankIn ‹_› (by decide) (by decide)

/-- No READY bank is left once the older READY table is handed back. -/
theorem Bkm.Lawful.retired_unready (h : x.Lawful building) (j : BankId) :
    (x.retired.banks.get j).role ≠ .ready := by
  rw [retired_bank]
  split
  · simp
  · rename_i other
    exact fun role => other ((h.bankIn_iff (by decide) j).mpr role)

theorem nextGeneration_le (g : Nat) : nextGeneration g ≤ 65535 := by
  unfold nextGeneration
  split <;> omega

theorem Bkm.Lawful.publish (h : x.Lawful true) (snap : Snapshot) : (x.publish snap).Lawful false := by
  obtain ⟨i, built⟩ := h.bankIn_build
  have same := retired_of_role (bankIn_ne built (q := .ready) (by decide))
  have offered : (x.retired.withBanks (x.retired.banks.set i (x.table i snap))).Lawful false := by
    refine h.retired.beside ⟨fun hidden => ?_, nextGeneration_le _⟩
      (fun _ j role => absurd role (h.retired_unready j)) ?_ ?_ (by simp [Bkm.table])
    · simp [Bkm.table] at hidden
    · simp [Bkm.table, same, role_of_bankIn built]
    · rw [same]
      exact bankIn_ne built (by decide)
  rw [publish_of_build built]
  exact { offered with counter := nextGeneration_le _ }

/-! ## Loans (R142, R143, R145, R146, R149) -/

theorem release_of_none (none : x.loan = none) : x.release = x := by
  rw [Bkm.release, none]

/-- A released table is READY again where no newer one is (R146). -/
theorem release_of_unready (loan : x.loan = some l) (none : bankIn x.banks .ready = none) :
    x.release = x.replace l.bank { x.banks.get l.bank with role := .ready } .none := by
  simp only [Bkm.release, loan, none]
  rfl

/-- A released table is gone where a newer one is READY (R146). -/
theorem release_of_ready (loan : x.loan = some l) (newer : bankIn x.banks .ready = some i) :
    x.release = x.replace l.bank ((x.banks.get l.bank).emptied .idle) none := by
  simp only [Bkm.release, loan, newer]
  rfl

theorem Bkm.Lawful.release (h : x.Lawful building) : x.release.Lawful building := by
  cases loan : x.loan with
  | none => rwa [release_of_none loan]
  | some l =>
    cases ready : bankIn x.banks .ready with
    | none =>
      rw [release_of_unready loan ready]
      exact h.endLoan loan ((h.numbered l.bank).offer rfl)
        (fun _ => (bankIn_eq_none_iff _ _).mp ready) (by simp) (by simp)
    | some i =>
      rw [release_of_ready loan ready]
      exact h.endLoan loan (Bank.numbered_emptied _ _) (fun busy => absurd rfl busy) (by simp) (by simp)

theorem openLoan_of_none (none : bankIn x.release.banks .ready = none) : x.openLoan = x.release := by
  simp only [Bkm.openLoan, none]

theorem openLoan_of_ready (ready : bankIn x.release.banks .ready = some i) :
    x.openLoan = x.release.replace i { x.release.banks.get i with role := .loaned }
      (some ⟨i, (x.release.banks.get i).gen, 200⟩) := by
  simp only [Bkm.openLoan, ready]
  rfl

theorem Bkm.Lawful.openLoan (h : x.Lawful building) : x.openLoan.Lawful building := by
  cases ready : bankIn x.release.banks .ready with
  | none =>
    rw [openLoan_of_none ready]
    exact h.release
  | some i =>
    rw [openLoan_of_ready ready]
    exact h.release.beginLoan (release_counts x).1 (role_of_bankIn ready) 200

/-- The LIVE bank, if any, put back to IDLE (R145, R149). -/
def Bkm.unlive (x : Bkm) : Bkm :=
  match bankIn x.banks .live with
  | none => x
  | some i => x.idle i

theorem takeLive_eq (x : Bkm) (l : Loan) :
    x.takeLive l = x.unlive.replace l.bank { x.unlive.banks.get l.bank with role := .live } none := rfl

theorem railLoss_eq_unlive (x : Bkm) : x.railLoss = x.release.unlive := rfl

theorem Bkm.Lawful.unlive (h : x.Lawful building) : x.unlive.Lawful building := by
  unfold Bkm.unlive
  split
  · exact h
  · exact h.idle_of_bankIn ‹_› (by decide) (by decide)

theorem Bkm.Lawful.unlive_bank (h : x.Lawful building) (j : BankId) : x.unlive.banks.get j =
    if (x.banks.get j).role = .live then (x.banks.get j).emptied .idle else x.banks.get j := by
  split
  · rename_i role
    rw [Bkm.unlive, (h.bankIn_iff (by decide) j).mpr role]
    exact (PerBank.get_set _ j j _).trans (if_pos rfl)
  · rename_i other
    unfold Bkm.unlive
    split
    · rfl
    · rename_i k live
      have apart : j ≠ k := fun same => other (same ▸ role_of_bankIn live)
      exact (PerBank.get_set _ k j _).trans (if_neg apart)

theorem unlive_counts (x : Bkm) : x.unlive.Counts x.loan x.counter x.expiries := by
  unfold Bkm.unlive
  split <;> exact ⟨rfl, rfl, rfl⟩

theorem Bkm.Lawful.takeLive (h : x.Lawful building) (loan : x.loan = some l) :
    (x.takeLive l).Lawful building := by
  have lent : x.unlive.loan = some l := (unlive_counts x).1.trans loan
  rw [takeLive_eq]
  refine h.unlive.endLoan lent ((h.unlive.numbered l.bank).offer rfl) (fun _ j => ?_) (by simp) (by simp)
  rw [h.unlive_bank]
  split
  · simp
  · assumption

theorem Bkm.Lawful.expire (h : x.Lawful building) : x.expire.Lawful building := by
  unfold Bkm.expire
  split
  · exact h
  · exact { h.release with expiries := Nat.min_le_left _ _ }

theorem Bkm.Lawful.railLoss (h : x.Lawful building) : x.railLoss.Lawful building := by
  rw [railLoss_eq_unlive]
  exact h.release.unlive

/-- The loan timer runs; the loan is of the same bank and generation. -/
theorem Bkm.Lawful.tick (h : x.Lawful building) : x.tick.Lawful building where
  line := h.line
  single := h.single
  build := h.build
  lent i := by
    have same : x.tick.loan.map Loan.bank = x.loan.map Loan.bank := Option.map_map _ _ _
    rw [same]
    exact h.lent i
  lentGen l loan := by
    obtain ⟨k, lent, rfl⟩ := Option.map_eq_some_iff.mp loan
    exact h.lentGen k lent
  numbered := h.numbered
  counter := h.counter
  expiries := h.expiries

end Sys2Proof.Machine
end

section
/-! STEP. A build takes its bank when it starts and gives it up when it ends; every other command makes one of
the changes above, or leaves banks and builds alone. So every step keeps the law of the banks. -/

namespace Sys2Proof.Machine

variable {s : State}

theorem BankLaw.withBkm (h : BankLaw s) {x : Bkm} (lawful : x.Lawful s.geo.building) : BankLaw (s.withBkm x) :=
  (bankLaw_iff _).mpr ⟨lawful, ((bankLaw_iff s).mp h).2⟩

/-- A build starts outside a build (R121, R136). -/
theorem BankLaw.startBuild (h : BankLaw s) (free : s.geo.building = false) : BankLaw (startBuild s) := by
  have lawful := h.lawful
  rw [free] at lawful
  exact (bankLaw_iff _).mpr ⟨lawful.takeForBuild (h.ready_of_busy free), fun _ => rfl⟩

theorem BankLaw.requestBuild (h : BankLaw s) : BankLaw (requestBuild s) := by
  unfold Machine.requestBuild
  split
  · exact h
  · exact h.startBuild (Bool.eq_false_iff.mpr ‹_›)

/-- After a result the build has ended, and the next one may start (R121). -/
theorem bankLaw_afterBuild (lawful : s.bkm.Lawful false) : BankLaw (afterBuild s) := by
  have ended : BankLaw (s.withGeo { s.geo with building := false }) := (bankLaw_iff _).mpr ⟨lawful, nofun⟩
  cases pending : s.geo.pendingBuild with
  | true =>
    rw [afterBuild_of_pending pending]
    exact ended.startBuild rfl
  | false =>
    rw [afterBuild_of_none pending]
    exact ended

theorem lawful_verdictGiven (h : s.bkm.Lawful true) (x : Snapshot) : (verdictGiven x s).bkm.Lawful false := by
  rw [verdictGiven_bkm]
  split
  · exact h.publish x
  · exact h.reject

theorem BankLaw.finishBuild (h : BankLaw s) : BankLaw (finishBuild s) := by
  obtain ⟨lawful, snapshot⟩ := (bankLaw_iff s).mp h
  cases building : s.geo.building with
  | false => rwa [Machine.finishBuild, building]
  | true =>
    obtain ⟨x, taken⟩ := Option.isSome_iff_exists.mp (snapshot building)
    rw [building] at lawful
    rw [finishBuild_of_building building taken]
    exact bankLaw_afterBuild (lawful_verdictGiven lawful x)

/-- Every primitive change of the machine keeps the law of the banks. -/
theorem bankLaw_closed : MachineClosed BankLaw where
  msc _ _ _ h := h
  fdt _ _ h := h
  raise _ _ _ h := h
  build _ h := h.requestBuild
  axis _ _ _ _ h := h
  take _ _ _ _ _ _ _ _ h := h
  mark _ h := h
  choices _ _ h := h
  scn _ _ h := h
  awake _ h := h
  afc _ _ h := h
  lps _ _ h := h
  ptb _ _ h := h
  nvs _ _ h := h
  prf _ _ h := h
  settings _ _ h := h
  port _ _ _ h := h
  clear _ _ h := h
  mask _ _ _ h := h
  announce _ h := h
  finish _ h := h.finishBuild
  openLoan _ h := h.withBkm h.lawful.openLoan
  takeLive _ _ _ loan h := h.withBkm (h.lawful.takeLive (loan_of_loanOf loan))
  release _ h := h.withBkm h.lawful.release
  expire _ h := h.withBkm h.lawful.expire
  railLoss _ h := h.withBkm h.lawful.railLoss
  bankTick _ h := h.withBkm h.lawful.tick
  reset _ _ := bankLaw_reset

/-- Settles O12: by the primitive changes of the machine, of which each operation of the Bank Manager is one. -/
theorem everyStepKeepsTheBankLaw : Obligations.EveryStepKeepsTheBankLaw :=
  fun _ _ banks row => step_keeps bankLaw_closed (fun _ _ h => h) banks row

end Sys2Proof.Machine
end

section
/-! The commands of Port V and the loan's expiry. Each answers from the loan and makes one of the changes of
the bank record; in lawful banks the LOANED bank is the loan's and the READY one is the lowest, so the change
is said bank by bank. -/

namespace Sys2Proof.Machine

variable {s : State} {x : Bkm} {i : BankId} {l : Loan} {building : Bool} {a b c d : Byte}
  {offset count : Nat}

/-! ## The rows (R155) -/

theorem exec_openTable (awake : s.inReset = false) : exec (.openTable .v []) s =
    .next (respond .v 0x40 (openAnswer s.bkm.openLoan) ((shiftOut .v 2 s).withBkm s.bkm.openLoan)) :=
  (exec_next _ s).trans (congrArg _ (takeCommand_of_accepted awake rfl rfl rfl))

theorem exec_readTable (awake : s.inReset = false) : exec (.readTable .v [a, b, c, d]) s =
    .next (respond .v 0x41 (readAnswer s.bkm (word2 a b) (word2 c d)) (shiftOut .v 6 s)) :=
  (exec_next _ s).trans (congrArg _
    (takeCommand_of_accepted (parse := parsePair) (d := [a, b, c, d]) awake rfl rfl rfl))

theorem exec_takeTable {u : State} {r : Answer} (awake : s.inReset = false)
    (taken : takeNow (word2 a b) (word2 c d) (shiftOut .v 6 s) = (u, r)) :
    exec (.takeTable .v [a, b, c, d]) s = .next (respond .v 0x42 r u) := by
  refine (exec_next _ s).trans (congrArg _ ((takeCommand_of_accepted (parse := parsePair)
    (run := runTakeTable .v) (d := [a, b, c, d]) awake rfl rfl rfl).trans ?_))
  show respond .v 0x42 (takeNow (word2 a b) (word2 c d) (shiftOut .v 6 s)).2
    (takeNow (word2 a b) (word2 c d) (shiftOut .v 6 s)).1 = _
  rw [taken]

theorem exec_dropTable {u : State} {r : Answer} (awake : s.inReset = false)
    (dropped : dropNow (word2 a b) (shiftOut .v 4 s) = (u, r)) :
    exec (.dropTable .v [a, b]) s = .next (respond .v 0x43 r u) := by
  refine (exec_next _ s).trans (congrArg _ ((takeCommand_of_accepted (parse := parseGeneration)
    (run := runDropTable .v) (d := [a, b]) awake rfl rfl rfl).trans ?_))
  show respond .v 0x43 (dropNow (word2 a b) (shiftOut .v 4 s)).2
    (dropNow (word2 a b) (shiftOut .v 4 s)).1 = _
  rw [dropped]

/-! ## OPEN (R142) -/

theorem PerBank.set_get {α : Type} (banks : PerBank α) (i : BankId) : banks.set i (banks.get i) = banks := by
  cases i <;> rfl

theorem PerBank.set_set {α : Type} (banks : PerBank α) (i : BankId) (y z : α) :
    (banks.set i y).set i z = banks.set i z := by cases i <;> rfl

theorem Bkm.Lawful.bankIn_loaned (h : x.Lawful building) (loan : x.loan = some l) :
    bankIn x.banks .loaned = some l.bank := (h.bankIn_iff (by decide) l.bank).mpr (h.role_of_loan loan)

/-- After OPEN no table is READY: the READY one was lent, or there was none. -/
theorem Bkm.Lawful.openLoan_line (h : x.Lawful building) : x.openLoan.tblRdy = false := by
  have unready : bankIn x.openLoan.banks .ready = none := by
    cases ready : bankIn x.release.banks .ready with
    | none => rwa [openLoan_of_none ready]
    | some i =>
      rw [openLoan_of_ready ready, bankIn_eq_none_iff]
      intro j
      rw [replace_get]
      split
      · simp
      · rename_i other
        exact fun role => other (h.release.single .ready (by decide) j i role (role_of_bankIn ready))
  rw [h.openLoan.line, unready]
  rfl

theorem openLoan_counts (x : Bkm) :
    x.openLoan.counter = x.counter ∧ x.openLoan.expiries = x.expiries := by
  obtain ⟨-, counter, expiries⟩ := release_counts x
  cases ready : bankIn x.release.banks .ready with
  | none => rw [openLoan_of_none ready]; exact ⟨counter, expiries⟩
  | some i => rw [openLoan_of_ready ready]; exact ⟨counter, expiries⟩

theorem openLoan_of_nothing (free : x.loan = none) (unready : bankIn x.banks .ready = none) :
    x.openLoan = x := by
  have same := release_of_none free
  rw [openLoan_of_none (by rwa [same]), same]

/-- A release beside a READY table leaves it READY, as it was. -/
theorem Bkm.Lawful.release_ready (h : x.Lawful building) (ready : bankIn x.banks .ready = some i) :
    bankIn x.release.banks .ready = some i ∧ x.release.banks.get i = x.banks.get i := by
  cases loan : x.loan with
  | none =>
    rw [release_of_none loan]
    exact ⟨ready, rfl⟩
  | some l =>
    have lent := h.bankIn_loaned loan
    have apart : i ≠ l.bank := fun same => bankIn_ne ready (by decide) (same ▸ role_of_bankIn lent)
    rw [release_of_ready loan ready]
    exact ⟨(bankIn_set (bankIn_ne lent (by decide)) (by simp)).trans ready,
      (replace_get _ _ _ _ _).trans (if_neg apart)⟩

/-- The READY table is lent, whatever was on loan before. -/
theorem Bkm.Lawful.openLoan_of_ready (h : x.Lawful building) (ready : bankIn x.banks .ready = some i) :
    x.openLoan = x.release.replace i { x.banks.get i with role := .loaned }
      (some ⟨i, (x.banks.get i).gen, 200⟩) := by
  obtain ⟨still, same⟩ := h.release_ready ready
  rw [Machine.openLoan_of_ready still, same]

/-- An older loan is over: its table makes way for the READY one. -/
theorem Bkm.Lawful.openLoan_retires (h : x.Lawful building) (ready : bankIn x.banks .ready = some i)
    (loan : x.loan = some l) : x.openLoan.banks.get l.bank = (x.banks.get l.bank).emptied .idle := by
  have apart : l.bank ≠ i := fun same =>
    bankIn_ne ready (by decide) (same ▸ role_of_bankIn (h.bankIn_loaned loan))
  rw [h.openLoan_of_ready ready, replace_get, if_neg apart, release_of_ready loan ready, replace_get,
    if_pos rfl]

/-- With no newer table, the one on loan is lent afresh. -/
theorem Bkm.Lawful.openLoan_renews (h : x.Lawful building) (loan : x.loan = some l)
    (unready : bankIn x.banks .ready = none) :
    x.openLoan.banks = x.banks ∧ x.openLoan.loan = some ⟨l.bank, l.gen, 200⟩ := by
  have released := release_of_unready loan unready
  have bank : x.release.banks.get l.bank = { x.banks.get l.bank with role := .ready } := by
    rw [released, replace_get, if_pos rfl]
  have ready : bankIn x.release.banks .ready = some l.bank :=
    (h.release.bankIn_iff (by decide) l.bank).mpr (by rw [bank])
  rw [Machine.openLoan_of_ready ready, bank]
  refine ⟨?_, by rw [← h.lentGen l loan]; rfl⟩
  have back : { x.banks.get l.bank with role := .loaned } = x.banks.get l.bank := by
    rw [← h.role_of_loan loan]
  rw [released]
  exact (PerBank.set_set _ _ _ _).trans ((congrArg _ back).trans (PerBank.set_get _ _))

theorem openAnswer_of_none (free : x.loan = none) : openAnswer x = refuse .noTable := by
  rw [openAnswer, free]

theorem openAnswer_of_loan (loan : x.loan = some l) : openAnswer x =
    answerOk (bytes2 l.gen ++ bytes2 3776 ++ bytes2 (imageCheck (x.banks.get l.bank).image)) := by
  rw [openAnswer, loan]
  rfl

/-- Settles O54: by the loan and the READY bank before OPEN. -/
theorem openLendsTheReadyTable : Obligations.OpenLendsTheReadyTable := by
  intro s awake banks
  have h := banks.lawful
  obtain ⟨counter, expiries⟩ := openLoan_counts s.bkm
  have answered := respond_answered .v 0x40 [] (openAnswer s.bkm.openLoan) (s := s)
    (u := (shiftOut .v 2 s).withBkm s.bkm.openLoan) rfl
  refine ⟨_, exec_openTable awake, (withBkm_frame (shiftOut .v 2 s) _).taken 0x40 _, counter, expiries,
    h.openLoan_line, fun free unready => ?_, fun i ready => ?_, fun l loan unready => ?_⟩
  · have same := openLoan_of_nothing free unready
    rw [openAnswer_of_none (by rwa [same])] at answered ⊢
    exact ⟨answered, (congrArg Bkm.loan same).trans free, congrArg Bkm.banks same⟩
  · have lends := h.openLoan_of_ready ready
    have loan : s.bkm.openLoan.loan = some ⟨i, (s.bkm.banks.get i).gen, 200⟩ := by rw [lends]; rfl
    have bank : s.bkm.openLoan.banks.get i = { s.bkm.banks.get i with role := .loaned } := by
      rw [lends, replace_get, if_pos rfl]
    rw [openAnswer_of_loan loan, bank] at answered ⊢
    exact ⟨loan, bank, answered, fun l older => h.openLoan_retires ready older⟩
  · obtain ⟨same, loan⟩ := h.openLoan_renews loan unready
    rw [openAnswer_of_loan loan, same] at answered ⊢
    exact ⟨loan, same, answered⟩

/-! ## READ (R144) -/

theorem Memory.slice_eq (m : Memory) (base count : Nat) :
    m.slice base count = (List.range count).map fun k => m.read (base + k) := by
  rw [Memory.slice, List.range'_eq_map_range, List.map_map]
  rfl

theorem readAnswer_of_outside (outside : count < 1 ∨ 256 < count ∨ 3776 < offset + count) :
    readAnswer x offset count = refuse .badValue := if_pos outside

theorem readAnswer_of_none (inside : ¬(count < 1 ∨ 256 < count ∨ 3776 < offset + count))
    (free : x.loan = none) : readAnswer x offset count = refuse .noLoan := by
  rw [readAnswer, free]
  exact if_neg inside

theorem readAnswer_of_loan (inside : ¬(count < 1 ∨ 256 < count ∨ 3776 < offset + count))
    (loan : x.loan = some l) : readAnswer x offset count =
      answerOk ((List.range count).map fun k => (x.banks.get l.bank).image.read (offset + k)) := by
  rw [readAnswer, loan, ← Memory.slice_eq]
  exact if_neg inside

/-- Settles O55: READ answers alone; its answer by the range, then the loan. -/
theorem readAnswersTheBytesOfTheLoanedImage : Obligations.ReadAnswersTheBytesOfTheLoanedImage := by
  intro a b c d s awake offset count outside
  have only := fun r => answered_only .v 0x41 [a, b, c, d] r s
  have answers : ∀ r, readAnswer s.bkm offset count = r → Answered .v 0x41 [a, b, c, d] r.result r.payload s
      (respond .v 0x41 (readAnswer s.bkm offset count) (shiftOut .v 6 s)) := fun r same => same ▸ (only _).1
  exact ⟨_, exec_readTable awake, (only _).2, fun beyond => answers _ (readAnswer_of_outside beyond),
    fun inside free => answers _ (readAnswer_of_none inside free),
    fun l inside loan => answers _ (readAnswer_of_loan inside loan)⟩

/-! ## TAKE (R145) -/

theorem loanOf_eq_some_iff {g : Nat} : x.loanOf g = some l ↔ x.loan = some l ∧ l.gen = g := by
  unfold Bkm.loanOf
  cases x.loan with
  | none => simp
  | some k => grind

theorem takeNow_of_stale {g k : Nat} (stale : s.bkm.loanOf g = none) :
    takeNow g k s = (s, refuse .stale) := by
  rw [takeNow, stale]

theorem takeNow_of_mismatch {g k : Nat} (loan : s.bkm.loanOf g = some l)
    (differs : imageCheck (s.bkm.banks.get l.bank).image ≠ k) : takeNow g k s = (s, refuse .checkFail) := by
  rw [takeNow, loan]
  exact if_neg differs

theorem takeNow_of_match {g k : Nat} (loan : s.bkm.loanOf g = some l)
    (fits : imageCheck (s.bkm.banks.get l.bank).image = k) : takeNow g k s =
      (raiseOn .live .m (s.withBkm (s.bkm.takeLive l)), answerOk (bytes2 g)) := by
  rw [takeNow, loan]
  exact if_pos fits

/-- The loaned bank goes LIVE and the old LIVE bank goes back; the third bank stays (R145). -/
theorem Bkm.Lawful.takeLive_bank (h : x.Lawful building) (loan : x.loan = some l) (j : BankId) :
    (x.takeLive l).banks.get j = if j = l.bank then { x.banks.get l.bank with role := .live }
      else if (x.banks.get j).role = .live then (x.banks.get j).emptied .idle else x.banks.get j := by
  have lent : (x.banks.get l.bank).role ≠ .live := bankIn_ne (h.bankIn_loaned loan) (by decide)
  rw [takeLive_eq, replace_get, h.unlive_bank, h.unlive_bank, if_neg lent]

/-- TAKE touches no READY bank. -/
theorem Bkm.Lawful.takeLive_line (h : x.Lawful building) (loan : x.loan = some l) :
    (x.takeLive l).tblRdy = x.tblRdy := by
  have lent := bankIn_ne (h.bankIn_loaned loan) (q := .ready) (by decide)
  rw [(h.takeLive loan).line, h.line, Bool.eq_iff_iff, isSome_bankIn_iff, isSome_bankIn_iff]
  refine exists_congr fun j => ?_
  rw [h.takeLive_bank loan]
  by_cases same : j = l.bank
  · simp [same, lent]
  · by_cases live : (x.banks.get j).role = .live <;> simp [same, live]

theorem takeLive_counter (x : Bkm) (l : Loan) : (x.takeLive l).counter = x.counter := (unlive_counts x).2.1

/-- Settles O56: by the loan of the generation, then the check value. -/
theorem takePutsTheLoanedTableLive : Obligations.TakePutsTheLoanedTableLive := by
  intro a b c d s awake banks gen
  have h := banks.lawful
  have refused := fun r => answered_only .v 0x42 [a, b, c, d] (refuse r) s
  cases lent : s.bkm.loanOf gen with
  | none =>
    have stale := takeNow_of_stale (s := shiftOut .v 6 s) (k := word2 c d) lent
    refine ⟨_, exec_takeTable awake stale, fun _ => refused .stale, fun l loan same => ?_⟩
    cases lent.symm.trans (loanOf_eq_some_iff.mpr ⟨loan, same⟩)
  | some k =>
    obtain ⟨loan, same⟩ := loanOf_eq_some_iff.mp lent
    by_cases check : imageCheck (s.bkm.banks.get k.bank).image = word2 c d
    · have taken := takeNow_of_match (s := shiftOut .v 6 s) lent check
      refine ⟨_, exec_takeTable awake taken, fun stale => absurd same (stale k loan), fun l its _ => ?_⟩
      cases loan.symm.trans its
      have frame : Unchanged [.attention, .bkm] (shiftOut .v 6 s)
          (raiseOn .live .m ((shiftOut .v 6 s).withBkm (s.bkm.takeLive k))) :=
        ((withBkm_frame _ _).weaken (by simp)).trans ((raiseOn_frame .live .m _).weaken (by simp))
      refine ⟨fun differs => absurd check differs, fun _ => ⟨respond_answered .v 0x42 [a, b, c, d] _ rfl,
        frame.taken _ _, raiseOn_m_joined .live _, rfl, takeLive_counter _ _, h.takeLive_line loan,
        (h.takeLive_bank loan k.bank).trans (if_pos rfl), fun j other => ?_⟩⟩
      have bank := (h.takeLive_bank loan j).trans (if_neg other)
      exact ⟨fun live => bank.trans (if_pos live), fun dark => bank.trans (if_neg dark)⟩
    · have failed := takeNow_of_mismatch (s := shiftOut .v 6 s) lent check
      refine ⟨_, exec_takeTable awake failed, fun stale => absurd same (stale k loan), fun l its _ => ?_⟩
      cases loan.symm.trans its
      exact ⟨fun _ => refused .checkFail, fun fits => absurd fits check⟩

/-! ## DROP and the expiry (R143, R146) -/

theorem dropNow_of_stale {g : Nat} (stale : s.bkm.loanOf g = none) : dropNow g s = (s, refuse .stale) := by
  rw [dropNow, stale]

theorem dropNow_of_loan {g : Nat} (loan : s.bkm.loanOf g = some l) :
    dropNow g s = (s.withBkm s.bkm.release, answerOk []) := by
  rw [dropNow, loan]

theorem loanExpires_of_none (free : s.bkm.loan = none) : loanExpires s = s := by
  rw [loanExpires, Bkm.expire, free]
  exact State.withBkm_self s

theorem loanExpires_of_loan (loan : s.bkm.loan = some l) : (loanExpires s).bkm =
    { s.bkm.release with expiries := min 65535 (s.bkm.expiries + 1) } := by
  rw [loanExpires, Bkm.expire, loan]
  rfl

/-- Once a loan is released a table is READY: the loaned one or a newer one. -/
theorem Bkm.Lawful.release_line (h : x.Lawful building) (loan : x.loan = some l) : x.release.tblRdy = true := by
  rw [h.release.line]
  cases ready : bankIn x.banks .ready with
  | none =>
    refine isSome_bankIn (i := l.bank) ?_
    rw [release_of_unready loan ready, replace_get, if_pos rfl]
  | some i => rw [(h.release_ready ready).1, Option.isSome_some]

/-- The bank record after the release of a loan (R146). -/
theorem Bkm.Lawful.released (h : x.Lawful building) (loan : x.loan = some l) :
    x.release.loan = none ∧ x.release.counter = x.counter ∧ x.release.tblRdy = true ∧
    (bankIn x.banks .ready = none →
      x.release.banks = x.banks.set l.bank { x.banks.get l.bank with role := .ready }) ∧
    (bankIn x.banks .ready ≠ none →
      x.release.banks = x.banks.set l.bank ⟨.idle, 0, (x.banks.get l.bank).image⟩) := by
  obtain ⟨free, counter, -⟩ := release_counts x
  refine ⟨free, counter, h.release_line loan, fun unready => ?_, fun newer => ?_⟩
  · rw [release_of_unready loan unready]
    rfl
  · obtain ⟨i, ready⟩ := Option.ne_none_iff_exists'.mp newer
    rw [release_of_ready loan ready]
    rfl

/-- Settles O57: DROP by the loan of the generation, the expiry by any loan; both release it. -/
theorem dropAndExpiryReleaseTheLoan : Obligations.DropAndExpiryReleaseTheLoan := by
  intro s awake banks released
  have h := banks.lawful
  refine ⟨fun a b => ?_, _, exec_event rfl awake, withBkm_frame s _, loanExpires_of_none, fun l loan => ?_⟩
  · cases lent : s.bkm.loanOf (word2 a b) with
    | none =>
      have stale := dropNow_of_stale (s := shiftOut .v 4 s) lent
      refine ⟨_, exec_dropTable awake stale, fun _ => answered_only .v 0x43 [a, b] (refuse .stale) s,
        fun l loan same => ?_⟩
      cases lent.symm.trans (loanOf_eq_some_iff.mpr ⟨loan, same⟩)
    | some k =>
      obtain ⟨loan, same⟩ := loanOf_eq_some_iff.mp lent
      have dropped := dropNow_of_loan (s := shiftOut .v 4 s) lent
      refine ⟨_, exec_dropTable awake dropped, fun stale => absurd same (stale k loan), fun l its _ => ?_⟩
      cases loan.symm.trans its
      exact ⟨respond_answered .v 0x43 [a, b] (answerOk []) rfl, (withBkm_frame (shiftOut .v 4 s) _).taken _ _,
        (release_counts s.bkm).2.2, h.released loan⟩
  · dsimp only [released]
    rw [loanExpires_of_loan loan]
    exact ⟨rfl, h.released loan⟩

end Sys2Proof.Machine
end

section
/-! The queue of commands and the part reset. No primitive change of the machine reaches the queue. A part
reset is `State.reset` with the queue, the free orders and the store kept, and what the store holds loaded. -/

namespace Sys2Proof.Machine

variable {s : State} {n : Nvs} {i : Fin 10}

/-! ## The queue -/

theorem finishBuild_pending (s : State) : (finishBuild s).pending = s.pending := by
  rcases finishBuild_cases s with same | ⟨x, ends⟩
  · rw [same]
  · rw [ends]
    exact afterBuild_frame (verdictGiven x s) .queue (by simp)

/-- Every primitive change of the lens keeps the queue. -/
theorem pending_lens (q : List Instr) : LensClosed (fun s => s.pending = q) where
  msc _ _ _ h := h
  fdt _ _ h := h
  raise _ _ _ h := h
  build s h := (requestBuild_frame s .queue (by simp)).trans h
  axis _ _ _ _ h := h
  take _ _ _ _ _ _ _ _ h := h
  mark _ h := h

/-- Every primitive change of the machine keeps the queue. -/
theorem pending_closed (q : List Instr) : MachineClosed (fun s => s.pending = q) where
  toLensClosed := pending_lens q
  choices _ _ h := h
  scn _ _ h := h
  awake _ h := h
  afc _ _ h := h
  lps _ _ h := h
  ptb _ _ h := h
  nvs _ _ h := h
  prf _ _ h := h
  settings _ _ h := h
  port _ _ _ h := h
  clear _ _ h := h
  mask _ _ _ h := h
  announce _ h := h
  finish s h := (finishBuild_pending s).trans h
  openLoan _ h := h
  takeLive _ _ _ _ h := h
  release _ h := h
  expire _ h := h
  railLoss _ h := h
  bankTick _ h := h
  reset _ h := h

/-- Settles O3: `exec` is total, and every command keeps what the primitive changes keep. -/
theorem everyCommandAnswersAndLeavesTheQueue : Obligations.EveryCommandAnswersAndLeavesTheQueue :=
  fun i s => ⟨afterCommand i s, exec_next i s, exec_keeps (pending_closed s.pending) i rfl⟩

/-! ## While a part reset runs (R162, R173) -/

/-- The rows other than PART_RESET and RESET_END begin with the test for a running part reset. -/
theorem afterCommand_of_inReset {i : Instr} (running : s.inReset = true) (start : ∀ x, i ≠ .partReset x)
    (finish : ∀ x, i ≠ .resetEnd x) : afterCommand i s = s := by
  cases i
  case partReset x => exact absurd rfl (start x)
  case resetEnd x => exact absurd rfl (finish x)
  all_goals exact if_pos running

/-- Settles O7: row by row. -/
theorem duringAPartResetNothingElseActs : Obligations.DuringAPartResetNothingElseActs :=
  fun i s running start finish =>
    (exec_next i s).trans (congrArg _ (afterCommand_of_inReset running start finish))

/-! ## The store at a part reset (R172) -/

theorem storeReset_slot_of_flight {c : Option Preset} (flight : n.inFlight = some (.preset i c)) :
    (storeReset n).slots.get i = .damaged := by
  have slots : (storeReset n).slots = n.slots.set i .damaged := by
    rw [storeReset, cutOff, flight]
  rw [slots, Vector.get_eq_getElem, Vector.getElem_set_self]

theorem storeReset_slot_of_other (other : ¬∃ c, n.inFlight = some (.preset i c)) :
    (storeReset n).slots.get i = n.slots.get i := by
  change (cutOff n).slots.get i = n.slots.get i
  unfold cutOff
  split
  · rfl
  · rename_i j c flight
    have ne : j.val ≠ i.val := fun same => other ⟨c, Fin.ext same ▸ flight⟩
    exact Vector.getElem_set_ne j.isLt i.isLt ne
  · rfl

theorem storeReset_geometry_of_flight {c : Settings} (flight : n.inFlight = some (.geometry c)) :
    (storeReset n).geometry = .damaged := by
  rw [storeReset, cutOff, flight]

theorem storeReset_geometry_of_other (other : ¬∃ c, n.inFlight = some (.geometry c)) :
    (storeReset n).geometry = n.geometry := by
  change (cutOff n).geometry = n.geometry
  unfold cutOff
  split
  · rfl
  · rfl
  · exact absurd ⟨_, ‹_›⟩ other

/-! ## The start of a part reset (R163, R171 to R173) -/

/-- Each preset slot is loaded from its item. -/
theorem partReset_slot (s : State) (i : Fin 10) :
    (partReset s).ptb.slots.get i = loadSlot ((partReset s).nvs.slots.get i) :=
  Vector.getElem_map loadSlot i.isLt

/-- PART_RESET, and RESET_PART on Port S outside a reset, start a part reset. -/
theorem exec_partReset {c : Instr}
    (source : (∃ x, c = .partReset x) ∨ (c = .resetPart .s [] ∧ s.inReset = false)) :
    exec c s = .next (partReset s) := by
  rcases source with ⟨x, rfl⟩ | ⟨rfl, awake⟩
  · rfl
  · have taken : takeResetPart .s [] s = partReset s := by
      rw [takeResetPart, awake]
      rfl
    exact congrArg _ taken

/-- Settles O5: the blocks are those of `State.reset`, the store is cut off, and its items are loaded. -/
theorem partResetTakesResetValuesAndLoadsTheStore :
    Obligations.PartResetTakesResetValuesAndLoadsTheStore := by
  intro c s source
  refine ⟨partReset s, exec_partReset source, rfl, rfl, rfl, rfl, rfl, rfl, rfl, rfl, rfl, rfl, rfl, rfl, rfl,
    rfl, fun i ⟨_, flight⟩ => storeReset_slot_of_flight flight, fun i other => storeReset_slot_of_other other,
    fun ⟨_, flight⟩ => storeReset_geometry_of_flight flight, storeReset_geometry_of_other,
    partReset_slot s, rfl⟩

end Sys2Proof.Machine
end

section
/-! The frames of the ports. A command that one of the checks of R155 stops is answered with the refusal and
changes nothing else; a parser of operands reads nothing outside the encoding of its kinds. -/

namespace Sys2Proof.Machine

variable {α : Type} {s : State} {c : Cmd} {p : Port} {d : List Byte} {b : Byte}
  {parse : List Byte → Option α} {run : α → State → State × Answer}

/-! ## Bytes outside their encoding (R159) -/

theorem axisOfByte_of_four_le (h : 4 ≤ b.toNat) : axisOfByte b = none := by
  obtain ⟨k, value⟩ := Nat.exists_eq_add_of_le' h
  rw [axisOfByte, value]
  rfl

theorem acousticOfByte_of_three_le (h : 3 ≤ b.toNat) : acousticOfByte b = none := by
  obtain ⟨k, value⟩ := Nat.exists_eq_add_of_le' h
  rw [acousticOfByte, value]
  rfl

theorem orientationModeOfByte_of_three_le (h : 3 ≤ b.toNat) : orientationModeOfByte b = none := by
  obtain ⟨k, value⟩ := Nat.exists_eq_add_of_le' h
  rw [orientationModeOfByte, value]
  rfl

theorem profileSectionOfByte_of_five_le (h : 5 ≤ b.toNat) : profileSectionOfByte b = none := by
  obtain ⟨k, value⟩ := Nat.exists_eq_add_of_le' h
  rw [profileSectionOfByte, value]
  rfl

theorem channelOfByte_of_ten_le (h : 10 ≤ b.toNat) : channelOfByte b = none := by
  obtain ⟨k, value⟩ := Nat.exists_eq_add_of_le' h
  rw [channelOfByte, value]
  rfl

theorem slotOfByte_of_ten_le (h : 10 ≤ b.toNat) : slotOfByte b = none := dif_neg (Nat.not_lt.mpr h)

theorem axisSetOfByte_of_le (h : 16 ≤ b.toNat) : axisSetOfByte b = none := if_neg (Nat.not_lt.mpr h)

theorem ne_zero_and_ne_one_of_two_le (h : 2 ≤ b.toNat) : b ≠ 0 ∧ b ≠ 1 :=
  ⟨by rintro rfl; exact absurd h (by decide), by rintro rfl; exact absurd h (by decide)⟩

theorem moveKindOf_of_two_le (h : 2 ≤ b.toNat) (v : Int) : moveKindOf b v = none := by
  obtain ⟨zero, one⟩ := ne_zero_and_ne_one_of_two_le h
  rw [moveKindOf, if_neg zero, if_neg one]

theorem grantModeOf_of_two_le (h : 2 ≤ b.toNat) : grantModeOf b = none := by
  obtain ⟨zero, one⟩ := ne_zero_and_ne_one_of_two_le h
  rw [grantModeOf, if_neg zero, if_neg one]

theorem axisOptOfByte_of_four_le (h : 4 ≤ b.toNat) (present : b ≠ 0xFF) : axisOptOfByte b = none := by
  rw [axisOptOfByte, if_neg present, axisOfByte_of_four_le h, Option.map_none]

/-! ## Parsers and the encodings of operands (R160) -/

/-- A parser reads no payload of the command's length that holds an operand outside its encoding. -/
def RefusesOutside (c : Cmd) (parse : List Byte → Option α) : Prop :=
  ∀ d, cmdLengthOk c d.length = true → outsideEncoding c d = true → parse d = none

/-- Of a command with one payload byte only that byte is to be looked at. -/
theorem RefusesOutside.of_byte (one : ∀ n, cmdLengthOk c n = true → n = 1)
    (byte : ∀ b, outsideEncoding c [b] = true → parse [b] = none) : RefusesOutside c parse := by
  intro d length outside
  obtain ⟨b, rfl⟩ := List.length_eq_one_iff.mp (one _ length)
  exact byte b outside

/-- A command whose operands have no value outside their encoding. -/
theorem RefusesOutside.of_none (inside : ∀ d, outsideEncoding c d = false) : RefusesOutside c parse :=
  fun d _ outside => nomatch (inside d).symm.trans outside

theorem parseMask_refuses : RefusesOutside .mask parseMask := by
  intro d _ outside
  unfold parseMask
  split
  · exact if_neg (Nat.not_lt.mpr (of_decide_eq_true outside))
  · rfl

theorem parseHome_refuses : RefusesOutside .home parseHome := by
  intro d _ outside
  unfold parseHome
  split
  · rw [axisSetOfByte_of_le (of_decide_eq_true outside), Option.map_none]
  · rfl

theorem parseRecall_refuses : RefusesOutside .presetRecall parseRecall := by
  intro d _ outside
  unfold parseRecall
  split
  · rw [slotOfByte_of_ten_le (of_decide_eq_true outside), Option.map_none]
  · rfl

theorem parseProfileWrite_refuses : RefusesOutside .profileWrite parseProfileWrite := by
  intro d _ outside
  unfold parseProfileWrite
  split
  · rw [profileSectionOfByte_of_five_le (of_decide_eq_true outside), Option.map_none]
  · rfl

theorem parseProfileRead_refuses : RefusesOutside .profileRead parseProfileRead := by
  intro d _ outside
  unfold parseProfileRead
  split
  · rename_i k _ _ n _
    have violated : 5 ≤ k.toNat ∨ n = 0 ∨ 252 < n.toNat := by
      simpa [outsideEncoding, or_assoc] using outside
    rcases violated with high | rfl | large
    · rw [profileSectionOfByte_of_five_le high, Option.map_none, ite_self]
    · rfl
    · exact if_neg fun count => absurd count.2 (Nat.not_le.mpr large)
  · rfl

theorem parseMove_refuses : RefusesOutside .move parseMove := by
  intro d _ outside
  unfold parseMove
  split
  · rename_i a k _ _ m f _ _
    have violated : 4 ≤ a.toNat ∨ 2 ≤ k.toNat ∨ 2 ≤ m.toNat ∨ (4 ≤ f.toNat ∧ f ≠ 0xFF) := by
      simpa [outsideEncoding, or_assoc] using outside
    rcases violated with axis | kind | mode | ⟨follow, present⟩
    · simp [axisOfByte_of_four_le axis]
    · simp [moveKindOf_of_two_le kind]
    · simp [grantModeOf_of_two_le mode]
    · simp [axisOptOfByte_of_four_le follow present]
  · rfl

theorem printable_eq_false_iff : printable b = false ↔ b.toNat < 32 ∨ 126 < b.toNat := by
  simp [printable, imp_iff_not_or]

theorem parseSave_refuses : RefusesOutside .presetSave parseSave := by
  intro d _ outside
  unfold parseSave
  split
  · rename_i n x y label _
    have violated : 10 ≤ n.toNat ∨ 16 ≤ x.toNat ∨ 2 ≤ y.toNat ∨
        ∃ b ∈ label, b.toNat < 32 ∨ 126 < b.toNat := by
      simpa [outsideEncoding, or_assoc] using outside
    rcases violated with slot | axes | trims | ⟨b, mem, unprintable⟩
    · simp [slotOfByte_of_ten_le slot]
    · simp [axisSetOfByte_of_le axes]
    · simp [flagOfByte_of_two_le trims]
    · have rejected : label.all printable = false :=
        List.all_eq_false.mpr ⟨b, mem, by simp [printable_eq_false_iff.mpr unprintable]⟩
      rw [rejected]
      split <;> rfl
  · rfl

/-! ## The checks of a command (R155) -/

theorem checkCommand_of_port (port : cmdPermitted c p = false) :
    checkCommand c parse run p d s = (s, refuse .notPermitted) := if_pos port

theorem checkCommand_of_length (port : cmdPermitted c p = true) (length : cmdLengthOk c d.length = false) :
    checkCommand c parse run p d s = (s, refuse .badLength) := by
  rw [checkCommand, port, length]
  rfl

theorem checkCommand_of_operands (port : cmdPermitted c p = true) (length : cmdLengthOk c d.length = true)
    (operands : parse d = none) : checkCommand c parse run p d s = (s, refuse .badValue) := by
  rw [checkCommand, port, length, operands]
  rfl

/-- Every row of R160 takes its command by the checks of R155, with a parser that keeps to the encodings; only
RESET_PART does so no more once its port and length are right (R163). -/
theorem takeKnown_checks (c : Cmd) (p : Port) (d : List Byte) (s : State)
    (unstarted : c = .resetPart → (cmdPermitted c p && cmdLengthOk c d.length) = false) :
    ∃ (α : Type) (parse : List Byte → Option α) (run : α → State → State × Answer),
      takeKnown c p d s = takeCommand c parse run p d s ∧ RefusesOutside c parse := by
  cases c
  case resetPart =>
    refine ⟨_, parseNone, fun _ t => (t, answerOk []), ?_, .of_none fun _ => rfl⟩
    change takeResetPart p d s = _
    rw [takeResetPart, unstarted rfl, takeCommand]
    split <;> rfl
  case mask => exact ⟨_, _, _, rfl, parseMask_refuses⟩
  case home => exact ⟨_, _, _, rfl, parseHome_refuses⟩
  case presetRecall => exact ⟨_, _, _, rfl, parseRecall_refuses⟩
  case profileWrite => exact ⟨_, _, _, rfl, parseProfileWrite_refuses⟩
  case profileRead => exact ⟨_, _, _, rfl, parseProfileRead_refuses⟩
  case move => exact ⟨_, _, _, rfl, parseMove_refuses⟩
  case presetSave => exact ⟨_, _, _, rfl, parseSave_refuses⟩
  case sensor =>
    exact ⟨_, _, _, rfl, .of_byte (fun _ => eq_of_beq)
      fun _ outside => channelOfByte_of_ten_le (of_decide_eq_true outside)⟩
  case axis =>
    exact ⟨_, _, _, rfl, .of_byte (fun _ => eq_of_beq)
      fun _ outside => axisOfByte_of_four_le (of_decide_eq_true outside)⟩
  case presetRead | presetErase =>
    exact ⟨_, _, _, rfl, .of_byte (fun _ => eq_of_beq)
      fun _ outside => slotOfByte_of_ten_le (of_decide_eq_true outside)⟩
  case acoustic =>
    exact ⟨_, _, _, rfl, .of_byte (fun _ => eq_of_beq)
      fun _ outside => acousticOfByte_of_three_le (of_decide_eq_true outside)⟩
  case orientation =>
    exact ⟨_, _, _, rfl, .of_byte (fun _ => eq_of_beq)
      fun _ outside => orientationModeOfByte_of_three_le (of_decide_eq_true outside)⟩
  case keystone | drift =>
    exact ⟨_, _, _, rfl, .of_byte (fun _ => eq_of_beq)
      fun _ outside => flagOfByte_of_two_le (of_decide_eq_true outside)⟩
  case stop =>
    exact ⟨_, _, _, rfl, .of_byte (fun _ => eq_of_beq)
      fun _ outside => axisSetOfByte_of_le (of_decide_eq_true outside)⟩
  all_goals exact ⟨_, _, _, rfl, .of_none fun _ => rfl⟩

/-! ## Refusals (R155) -/

/-- The row of a command takes that command. -/
theorem exec_commandRow (c : Cmd) (p : Port) (d : List Byte) (s : State) :
    exec (commandRow c p d) s = .next (takeKnown c p d s) := by
  cases c <;> rfl

/-- A command that a check stops is answered with the refusal and changes nothing but the port's slot. -/
theorem commandRow_refused {r : Result} (awake : s.inReset = false)
    (unstarted : c = .resetPart → (cmdPermitted c p && cmdLengthOk c d.length) = false)
    (stopped : ∀ {α : Type} {parse : List Byte → Option α} {run : α → State → State × Answer} {u : State},
      RefusesOutside c parse → checkCommand c parse run p d u = (u, refuse r)) :
    ∃ t, exec (commandRow c p d) s = .next t ∧
      Answered p (cmdCode c) d r [] s t ∧ Unchanged [.ports] s t := by
  obtain ⟨α, parse, run, taken, encoded⟩ := takeKnown_checks c p d s unstarted
  refine ⟨_, exec_commandRow c p d s, ?_⟩
  rw [taken, takeCommand, awake, stopped encoded]
  exact answered_only p (cmdCode c) d (refuse r) s

theorem cmdOfCode_of_unlisted {code : Byte} (unlisted : ∀ c, cmdCode c ≠ code) : cmdOfCode code = none :=
  List.find?_eq_none.mpr fun c _ => by simpa using unlisted c

/-- The bytes of a frame are classed as that frame, unless they begin a response read (R151, R153). -/
theorem classifyExchange_frameBytes {code : Byte} (write : p = .s ∨ code ≠ 0xFF) (fits : d.length ≤ 255) :
    classifyExchange p (frameBytes code d) 0 = .frame code d := by
  have count : d.length = (BitVec.ofNat 8 d.length).toNat := by
    rw [BitVec.toNat_ofNat, Nat.mod_eq_of_lt (by omega)]
  have whole : classifyFrame (frameBytes code d) = .frame code d := if_pos count
  cases p
  case s => exact whole
  all_goals
    have other : code ≠ 0xFF := write.resolve_left (by decide)
    exact (if_neg other).trans whole

/-- A frame whose code is in no row of R160 is answered UNKNOWN. -/
theorem exec_unknownCommand {code : Byte} (awake : s.inReset = false) (unlisted : ∀ c, cmdCode c ≠ code)
    (write : p = .s ∨ code ≠ 0xFF) (fits : d.length ≤ 255) : exec (.unknownCommand p code d) s =
      .next (respond p code (refuse .unknown) (shiftOut p (d.length + 2) s)) := by
  refine (exec_next _ s).trans (congrArg _ ?_)
  change exchange p (frameBytes code d) 0 s = _
  rw [exchange, awake, classifyExchange_frameBytes write fits]
  change takeFrame p code d s = _
  rw [takeFrame, cmdOfCode_of_unlisted unlisted]

/-- Settles O16: the code first, then the port, then the length. -/
theorem pifChecksCodePortAndLengthInOrder : Obligations.PifChecksCodePortAndLengthInOrder := by
  intro s awake
  refine ⟨fun p code d unlisted write fits => ?_, fun c p d port => ?_, fun c p d port length => ?_⟩
  · exact ⟨_, exec_unknownCommand awake unlisted write fits, answered_only p code d (refuse .unknown) s⟩
  · exact commandRow_refused awake (fun _ => by rw [port, Bool.false_and])
      fun _ => checkCommand_of_port port
  · exact commandRow_refused awake (fun _ => by rw [length, Bool.and_false])
      fun _ => checkCommand_of_length port length

/-- Settles O17: no parser reads an operand outside its encoding, and RESET_PART has none. -/
theorem pifRefusesOperandsOutsideTheirEncoding : Obligations.PifRefusesOperandsOutsideTheirEncoding := by
  intro c p d s awake port length outside
  refine commandRow_refused awake (fun row => ?_) fun encoded =>
    checkCommand_of_operands port length (encoded d length outside)
  subst row
  cases outside

/-! ## Broken frames (R154) -/

theorem classifyFrame_of_brokenBytes (broken : brokenBytes d) : classifyFrame d = .broken := by
  match d, broken with
  | [_], _ => rfl
  | _ :: _ :: _, wrong => exact if_neg wrong

theorem classifyExchange_of_broken {bits : Nat} (broken : brokenExchange p d bits) :
    classifyExchange p d bits = .broken := by
  cases p
  case s =>
    cases d with
    | nil => exact broken.elim
    | cons b rest => exact classifyFrame_of_brokenBytes broken
  all_goals
    obtain ⟨write, broken⟩ := broken
    cases d with
    | nil => exact if_neg (broken.resolve_right id)
    | cons b rest =>
      have other : b ≠ 0xFF := fun read => write (congrArg some read)
      refine (if_neg other).trans ?_
      by_cases whole : bits = 0
      · exact (if_pos whole).trans (classifyFrame_of_brokenBytes (broken.resolve_left (not_not_intro whole)))
      · exact if_neg whole

/-- A broken exchange loses its frame. -/
theorem exec_brokenFrame {bits : Nat} (awake : s.inReset = false) (broken : brokenExchange p d bits) :
    exec (.brokenFrame p d bits) s = .next (loseFrame p (bytesBegun p d bits) s) := by
  refine (exec_next _ s).trans (congrArg _ ?_)
  change exchange p d bits s = _
  rw [exchange, awake, classifyExchange_of_broken broken]
  rfl

/-- What a lost frame leaves in the record of its port. -/
theorem loseFrame_ports (p : Port) (count : Nat) (s : State) : (loseFrame p count s).pif.ports =
    s.pif.ports.set p
      { slot := (s.port p).slot, frameLoss := min 255 ((s.port p).frameLoss + 1),
        sent := drivenInFrame p (s.port p).slot.isSome count, acked := acksOfFrame p count } := by
  cases p <;> cases count <;> rfl

/-- The loss is counted in the port's record, and FRAME is raised. -/
theorem loseFrame_frame (p : Port) (count : Nat) (s : State) :
    Unchanged [.ports, .attention] s (loseFrame p count s) :=
  (((shiftOut_frame p count s).trans (setPort_frame _ p _)).weaken (by simp)).trans
    ((raiseOn_frame .frame p _).weaken (by simp))

/-- Port V has no causes, so a frame lost there changes its record alone. -/
theorem loseFrame_frame_v (count : Nat) (s : State) : Unchanged [.ports] s (loseFrame .v count s) :=
  (shiftOut_frame .v count s).trans (setPort_frame _ .v _)

/-- Bytes driven: an unfinished byte counts, and Port S drives none. -/
theorem drivenInFrame_bytesBegun (p : Port) (full : Bool) (d : List Byte) (bits : Nat) :
    drivenInFrame p full (bytesBegun p d bits) =
      drivenInFrame p full (if bits = 0 then d.length else d.length + 1) := by
  cases p
  case s => rfl
  all_goals simp [bytesBegun]

/-- Acknowledges given: on Port S one for the address and one for each whole byte. -/
theorem acksOfFrame_bytesBegun (p : Port) (d : List Byte) (bits : Nat) :
    acksOfFrame p (bytesBegun p d bits) = if p = .s then d.length + 1 else 0 := by
  cases p
  case s => simp [acksOfFrame, bytesBegun]
  all_goals rfl

/-- Settles O18: the exchange is classed as broken, its frame is lost, and FRAME is raised port by port. -/
theorem brokenFrameIsCountedAndRaisesFrame : Obligations.BrokenFrameIsCountedAndRaisesFrame := by
  intro p d bits s awake broken
  refine ⟨_, exec_brokenFrame awake broken, loseFrame_frame p _ s, ?_, ?_, ?_, ?_⟩
  · rw [loseFrame_ports, drivenInFrame_bytesBegun, acksOfFrame_bytesBegun]
  · rintro rfl
    exact ⟨⟨rfl, rfl, rfl⟩, rfl⟩
  · rintro rfl
    exact ⟨⟨rfl, rfl, rfl⟩, rfl⟩
  · rintro rfl
    exact loseFrame_frame_v _ s

/-! ## Response reads (R156 to R158) -/

/-- A record clocked out is its bytes and then zeros, as many as are read. -/
theorem clockedOut_eq_take (record : List Byte) (count : Nat) :
    clockedOut record count = (record ++ List.replicate count 0).take count := by
  rw [clockedOut, List.take_append, List.take_replicate, Nat.min_eq_left (Nat.sub_le _ _)]

/-- What a response read leaves in the record of its port. -/
theorem readResponse_ports (p : Port) (count : Nat) (s : State) : (readResponse p count s).pif.ports =
    s.pif.ports.set p
      { slot := none, frameLoss := (s.port p).frameLoss,
        sent := if p = .s then clockedOut (heldRecord s p) count
          else slotByte s p :: clockedOut (heldRecord s p) count,
        acked := if p = .s then 1 else 0 } := by
  cases p <;> rfl

/-- Settles O19: `record` is the record that the read finds, `body` what is clocked out of it. -/
theorem responseReadClocksOutTheRecord : Obligations.ResponseReadClocksOutTheRecord := by
  intro p n s awake record body
  have found : heldRecord s p = record := rfl
  have clocked : clockedOut (heldRecord s p) n = body := by rw [found, clockedOut_eq_take]
  refine ⟨_, exec_event rfl awake, setPort_frame s p _, ?_⟩
  rw [readResponse_ports, clocked]
  rfl

end Sys2Proof.Machine
end

section
/-! The attention law. Each attention record is lawful by itself; a change of one sets its line with its set
and mask, so it stays lawful while its mask leaves TRIP out. -/

namespace Sys2Proof.Machine

variable {s t : State}

/-! ## One attention record (R165, R166) -/

/-- The line of an attention record follows its set and mask, and the mask leaves TRIP out. -/
structure Attention.Lawful (y : Attention) : Prop where
  line : y.attn = attnLevel y.pending y.mask
  unmasked : causeHeld y.mask .trip = false

theorem attentionWith_lawful (pending : CauseSet) {mask : CauseSet} (unmasked : causeHeld mask .trip = false) :
    (attentionWith pending mask).Lawful := ⟨rfl, unmasked⟩

theorem attentionReset_lawful : attentionReset.Lawful := ⟨by decide, by decide⟩

/-- The mask as MASK stores it leaves TRIP out, whatever the operand gave (R166). -/
theorem causeHeld_trip_removed (mask : CauseSet) : causeHeld (mask &&& ~~~(causeBit .trip)) .trip = false := by
  have removed : (causeBit .trip).getLsbD 2 = true := by decide
  rw [causeHeld_eq_getLsbD, BitVec.getLsbD_and, BitVec.getLsbD_not]
  change (mask.getLsbD 2 && (decide (2 < 12) && !(causeBit .trip).getLsbD 2)) = false
  rw [removed, Bool.not_true, Bool.and_false, Bool.and_false]

/-- With an empty set the line is released, whatever the mask (R165). -/
theorem attnLevel_of_empty (mask : CauseSet) : attnLevel 0 mask = false := by
  simp [attnLevel, causeHeld]

/-! ## Both records -/

theorem attentionLaw_iff (s : State) :
    AttentionLaw s ↔ s.pif.attnM.Lawful ∧ s.pif.attnS.Lawful :=
  ⟨fun ⟨lineM, lineS, maskM, maskS⟩ => ⟨⟨lineM, maskM⟩, ⟨lineS, maskS⟩⟩,
    fun ⟨onM, onS⟩ => ⟨onM.line, onS.line, onM.unmasked, onS.unmasked⟩⟩

theorem AttentionLaw.attention (h : AttentionLaw s) (p : Port) : (s.pif.attention p).Lawful := by
  obtain ⟨onM, onS⟩ := (attentionLaw_iff s).mp h
  cases p with
  | m => exact onM
  | s => exact onS
  | v => exact attentionReset_lawful

theorem AttentionLaw.setAttention (h : AttentionLaw s) (p : Port) {y : Attention} (lawful : y.Lawful) :
    AttentionLaw (s.withPif (s.pif.setAttention p y)) := by
  obtain ⟨onM, onS⟩ := (attentionLaw_iff s).mp h
  refine (attentionLaw_iff _).mpr ?_
  cases p with
  | m => exact ⟨lawful, onS⟩
  | s => exact ⟨onM, lawful⟩
  | v => exact ⟨onM, onS⟩

/-- A change of other parts keeps the attention law. -/
theorem AttentionLaw.of_unchanged {l : List Part} (h : AttentionLaw s) (frame : Unchanged l s t)
    (kept : Part.attention ∉ l) : AttentionLaw t := by
  obtain ⟨onM, onS⟩ := frame .attention kept
  unfold AttentionLaw
  rwa [onM, onS]

theorem AttentionLaw.raiseOn (h : AttentionLaw s) (c : Cause) (p : Port) : AttentionLaw (raiseOn c p s) :=
  h.setAttention p (attentionWith_lawful _ (h.attention p).unmasked)

theorem AttentionLaw.finishBuild (h : AttentionLaw s) : AttentionLaw (finishBuild s) := by
  rcases finishBuild_cases s with same | ⟨y, ends⟩
  · rwa [same]
  · have judged : AttentionLaw (verdictGiven y s) := AttentionLaw.raiseOn (s := (s.withBkm _).withGeo _) h _ _
    rw [ends]
    exact judged.of_unchanged (afterBuild_frame _) (by simp)

/-! ## STEP -/

/-- Every primitive change of the machine keeps the attention law. -/
theorem attentionLaw_closed : MachineClosed AttentionLaw where
  msc _ _ _ h := h
  fdt _ _ h := h
  raise _ c p h := h.raiseOn c p
  build s h := h.of_unchanged (requestBuild_frame s) (by simp)
  axis _ _ _ _ h := h
  take _ _ _ _ _ _ _ _ h := h
  mark _ h := h
  choices _ _ h := h
  scn _ _ h := h
  awake _ h := h
  afc _ _ h := h
  lps _ _ h := h
  ptb _ _ h := h
  nvs _ _ h := h
  prf _ _ h := h
  settings _ _ h := h
  port _ _ _ h := h
  clear _ p h := h.setAttention p (attentionWith_lawful 0 (h.attention p).unmasked)
  mask _ p m h := h.setAttention p (attentionWith_lawful _ (causeHeld_trip_removed m))
  announce _ _ := (attentionLaw_iff _).mpr
    ⟨attentionWith_lawful _ (by decide), attentionWith_lawful _ (by decide)⟩
  finish _ h := h.finishBuild
  openLoan _ h := h
  takeLive _ _ _ _ h := h
  release _ h := h
  expire _ h := h
  railLoss _ h := h
  bankTick _ h := h
  reset _ _ := attentionLaw_reset

/-- Settles O9: whatever changes an attention record sets its line anew and leaves TRIP out of its mask. -/
theorem everyStepKeepsTheAttentionLaw : Obligations.EveryStepKeepsTheAttentionLaw :=
  fun _ _ attention row => step_keeps attentionLaw_closed (fun _ _ h => h) attention row

end Sys2Proof.Machine
end

section
/-! EVENTS and MASK. Each sets the attention record of its own port and answers from it. -/

namespace Sys2Proof.Machine

variable {s : State} {p : Port} {hi lo : Byte}

theorem setAttention_frame (p : Port) (y : Attention) (s : State) :
    Unchanged [.attention] s (s.withPif (s.pif.setAttention p y)) := by
  intro x hx
  cases x <;> first | rfl | (cases p <;> rfl) | simp at hx

theorem clearCauses_frame (p : Port) (s : State) : Unchanged [.attention] s (clearCauses p s) :=
  setAttention_frame p _ s

theorem setMask_frame (p : Port) (m : CauseSet) (s : State) : Unchanged [.attention] s (setMask p m s) :=
  setAttention_frame p _ s

/-! ## EVENTS (R166) -/

/-- What EVENTS leaves: the set as it was is the answer. -/
def eventsTaken (p : Port) (s : State) : State :=
  respond p 0x02 (answerOk (causeBytes (attentionOf s p).pending)) (clearCauses p (shiftOut p 2 s))

theorem exec_events (awake : s.inReset = false) (port : p = .m ∨ p = .s) :
    exec (.events p []) s = .next (eventsTaken p s) := by
  have permitted : cmdPermitted .events p = true := by rcases port with rfl | rfl <;> rfl
  have same : attentionOf (shiftOut p 2 s) p = attentionOf s p := by cases p <;> rfl
  refine (exec_next _ s).trans (congrArg _ ((takeCommand_of_accepted (parse := parseNone)
    (run := runEvents p) (d := []) awake permitted rfl rfl).trans ?_))
  rw [eventsTaken, ← same]
  rfl

theorem eventsTaken_answered (p : Port) (s : State) :
    Answered p 0x02 [] .ok (causeBytes (attentionOf s p).pending) s (eventsTaken p s) :=
  respond_answered p 0x02 [] (answerOk _) (clearCauses_frame p (shiftOut p 2 s) .ports (by simp))

theorem eventsTaken_frame (p : Port) (s : State) :
    Unchanged [.ports, .attention] s (eventsTaken p s) :=
  (clearCauses_frame p (shiftOut p 2 s)).taken _ _

/-- The emptied record of a port: no cause, the mask kept, the line released. -/
theorem attentionWith_empty (mask : CauseSet) : attentionWith 0 mask = ⟨0, mask, false⟩ :=
  congrArg (Attention.mk 0 mask) (attnLevel_of_empty mask)

/-! ## MASK (R166) -/

/-- The mask as MASK stores it. -/
def maskStored (hi lo : Byte) : CauseSet := BitVec.ofNat 12 (word2 hi lo) &&& ~~~(causeBit .trip)

/-- What MASK leaves on a port that has an attention record: the mask in force is the answer. -/
def maskTaken (p : Port) (hi lo : Byte) (s : State) : State :=
  respond p 0x03 (answerOk (causeBytes (maskStored hi lo)))
    (setMask p (BitVec.ofNat 12 (word2 hi lo)) (shiftOut p 4 s))

theorem exec_mask (awake : s.inReset = false) (port : p = .m ∨ p = .s) (inside : word2 hi lo < 4096) :
    exec (.mask p [hi, lo]) s = .next (maskTaken p hi lo s) := by
  have permitted : cmdPermitted .mask p = true := by rcases port with rfl | rfl <;> rfl
  have parsed : parseMask [hi, lo] = some (BitVec.ofNat 12 (word2 hi lo)) := if_pos inside
  refine (exec_next _ s).trans (congrArg _ ((takeCommand_of_accepted (run := runMask p)
    awake permitted rfl parsed).trans ?_))
  rcases port with rfl | rfl <;> rfl

theorem maskTaken_answered (p : Port) (hi lo : Byte) (s : State) :
    Answered p 0x03 [hi, lo] .ok (causeBytes (maskStored hi lo)) s (maskTaken p hi lo s) :=
  respond_answered p 0x03 [hi, lo] (answerOk _) (setMask_frame p _ (shiftOut p 4 s) .ports (by simp))

theorem maskTaken_frame (p : Port) (hi lo : Byte) (s : State) :
    Unchanged [.ports, .attention] s (maskTaken p hi lo s) :=
  (setMask_frame p _ (shiftOut p 4 s)).taken _ _

/-- A bit above 11 is outside the encoding of a cause set. -/
theorem exec_mask_outside (awake : s.inReset = false) (port : p = .m ∨ p = .s) (outside : 4096 ≤ word2 hi lo) :
    ∃ t, exec (.mask p [hi, lo]) s = .next t ∧
      Answered p 0x03 [hi, lo] .badValue [] s t ∧ Unchanged [.ports] s t := by
  have permitted : cmdPermitted .mask p = true := by rcases port with rfl | rfl <;> rfl
  exact pifRefusesOperandsOutsideTheirEncoding .mask p [hi, lo] s awake permitted rfl (decide_eq_true outside)

/-- Settles O21: port by port, the record of the port is set and that of the other port is not reached. -/
theorem eventsAndMaskActOnTheirPort : Obligations.EventsAndMaskActOnTheirPort := by
  intro s awake
  refine ⟨?_, ?_, fun hi lo inside => ⟨?_, ?_⟩, fun _ _ _ port outside =>
    exec_mask_outside awake port outside⟩
  · exact ⟨_, exec_events awake (.inl rfl), eventsTaken_answered .m s, eventsTaken_frame .m s, rfl,
      attentionWith_empty s.pif.attnM.mask⟩
  · exact ⟨_, exec_events awake (.inr rfl), eventsTaken_answered .s s, eventsTaken_frame .s s, rfl,
      attentionWith_empty s.pif.attnS.mask⟩
  · exact ⟨_, exec_mask awake (.inl rfl) inside, maskTaken_answered .m hi lo s, maskTaken_frame .m hi lo s,
      rfl, rfl⟩
  · exact ⟨_, exec_mask awake (.inr rfl) inside, maskTaken_answered .s hi lo s, maskTaken_frame .s hi lo s,
      rfl, rfl⟩

end Sys2Proof.Machine
end

section
/-! PROFILE_READ. The range is cut out of the bytes of the section, or runs beyond them. -/

namespace Sys2Proof.Machine

variable {s : State} {k : ProfileSection} {offset count : Nat}

/-- A range within a list, byte by byte. -/
theorem take_drop_eq_map_getD (bytes : List Byte) (within : offset + count ≤ bytes.length) :
    (bytes.drop offset).take count = (List.range count).map fun j => bytes.getD (offset + j) 0 := by
  refine List.ext_getElem (by simp; omega) fun j left right => ?_
  have below : j < count := by simpa using right
  rw [List.getElem_take, List.getElem_drop, List.getElem_map, List.getElem_range,
    List.getD_eq_getElem bytes 0 (show offset + j < bytes.length by omega)]

theorem readProfile_of_within (within : offset + count ≤ (sectionBytes s.prf k).length) :
    readProfile k offset count s = (s, answerOk ((List.range count).map fun j =>
      (sectionBytes s.prf k).getD (offset + j) 0)) := by
  rw [← take_drop_eq_map_getD _ within]
  exact if_neg (Nat.not_lt.mpr within)

theorem readProfile_of_beyond (beyond : (sectionBytes s.prf k).length < offset + count) :
    readProfile k offset count s = (s, refuse .badValue) := if_pos beyond

theorem exec_profileRead {b hi lo n : Byte} (awake : s.inReset = false)
    (named : profileSectionOfByte b = some k) (low : 1 ≤ n.toNat) (high : n.toNat ≤ 252) :
    exec (.profileRead .m [b, hi, lo, n]) s = .next (respond .m 0x39
      (readProfile k (word2 hi lo) n.toNat (shiftOut .m 6 s)).2
      (readProfile k (word2 hi lo) n.toNat (shiftOut .m 6 s)).1) := by
  have parsed : parseProfileRead [b, hi, lo, n] = some (k, word2 hi lo, n.toNat) := by
    rw [parseProfileRead, if_pos ⟨low, high⟩, named]
    rfl
  exact (exec_next _ s).trans (congrArg _
    (takeCommand_of_accepted (run := runProfileRead .m) awake rfl rfl parsed))

/-- Settles O59: the frame of the read leaves the profile, so the section is that of the state before. -/
theorem profileReadAnswersTheSectionBytes : Obligations.ProfileReadAnswersTheSectionBytes := by
  intro b hi lo n k s awake named low high bytes d
  rw [exec_profileRead awake named low high]
  rcases Nat.lt_or_ge bytes.length (word2 hi lo + n.toNat) with beyond | within
  · rw [readProfile_of_beyond (s := shiftOut .m 6 s) beyond]
    obtain ⟨answered, frame⟩ := answered_only .m 0x39 d (refuse .badValue) s
    exact ⟨_, rfl, frame, fun within => absurd beyond (Nat.not_lt.mpr within), fun _ => answered⟩
  · rw [readProfile_of_within (s := shiftOut .m 6 s) within]
    obtain ⟨answered, frame⟩ := answered_only .m 0x39 d
      (answerOk ((List.range n.toNat).map fun j => bytes.getD (word2 hi lo + j) 0)) s
    exact ⟨_, rfl, frame, fun _ => answered, fun beyond => absurd beyond (Nat.not_lt.mpr within)⟩

end Sys2Proof.Machine
end

section
/-! SUPPORT. The store: what an item joining the dirty set, the start of a write, its end and a part reset
make of the dirty set and the stored items (R171, R172). -/

namespace Sys2Proof.Machine

variable {s : State} {i j : Item} {d : List Item}

/-! ## The dirty set (R171) -/

theorem itemNumber_injective (same : itemNumber i = itemNumber j) : i = j := by
  cases i with
  | geometry =>
    cases j with
    | geometry => rfl
    | preset m => exact absurd same (Nat.ne_of_gt m.isLt)
  | preset k =>
    cases j with
    | geometry => exact absurd same (Nat.ne_of_lt k.isLt)
    | preset m => exact congrArg Item.preset (Fin.ext same)

/-- Every item of the dirty set has a lower number than those after it. -/
def Rising (d : List Item) : Prop := d.Pairwise fun i j => itemNumber i < itemNumber j

theorem mem_of_mem_insertItem (mem : j ∈ insertItem i d) : j = i ∨ j ∈ d := by
  induction d with
  | nil => exact .inl (List.mem_singleton.mp mem)
  | cons k rest ih =>
    unfold insertItem at mem
    split at mem
    · exact List.mem_cons.mp mem
    · split at mem
      · exact .inr mem
      · rcases List.mem_cons.mp mem with rfl | later
        · exact .inr List.mem_cons_self
        · exact (ih later).imp_right (List.mem_cons_of_mem _)

theorem Rising.insertItem (i : Item) (rising : Rising d) : Rising (insertItem i d) := by
  induction d with
  | nil => exact List.pairwise_singleton _ _
  | cons k rest ih =>
    obtain ⟨first, rest_rising⟩ := List.pairwise_cons.mp rising
    unfold Machine.insertItem
    split
    · rename_i lower
      refine List.pairwise_cons.mpr ⟨fun m mem => ?_, rising⟩
      rcases List.mem_cons.mp mem with rfl | later
      · exact lower
      · exact lower.trans (first m later)
    · split
      · exact rising
      · rename_i notLower other
        have higher : itemNumber k < itemNumber i :=
          Nat.lt_of_le_of_ne (Nat.not_lt.mp notLower) fun same => other (itemNumber_injective same.symm)
        refine List.pairwise_cons.mpr ⟨fun m mem => ?_, ih rest_rising⟩
        rcases mem_of_mem_insertItem mem with rfl | later
        · exact higher
        · exact first m later

/-! ## The start and the end of a write (R171, R172) -/

theorem startWrite_of_flight {f : Flight} (flight : s.nvs.inFlight = some f) : startWrite s = s := by
  unfold startWrite
  rw [flight]

theorem startWrite_of_clean (clean : s.nvs.dirty = []) : startWrite s = s := by
  unfold startWrite
  rw [clean]
  split
  · contradiction
  · rfl

theorem startWrite_of_waiting {rest : List Item} (free : s.nvs.inFlight = none)
    (waiting : s.nvs.dirty = i :: rest) :
    startWrite s = s.withNvs { s.nvs with dirty := rest, inFlight := some (copyItem s i) } := by
  unfold startWrite
  rw [free, waiting]

/-- The write in flight has ended and NV is raised; the next write has not begun. -/
def writeStored (f : Flight) (s : State) : State :=
  raiseBoth .nv (s.withNvs { storeCopy s.nvs f with inFlight := none })

theorem writeEnd_of_none (free : s.nvs.inFlight = none) : writeEnd s = s := by
  unfold writeEnd
  rw [free]

theorem writeEnd_of_flight {f : Flight} (flight : s.nvs.inFlight = some f) :
    writeEnd s = startWrite (writeStored f s) := by
  unfold writeEnd
  rw [flight]
  rfl

theorem storeCopy_dirty (n : Nvs) (f : Flight) : (storeCopy n f).dirty = n.dirty := by
  cases f <;> rfl

theorem startWrite_stored (s : State) :
    (startWrite s).nvs.slots = s.nvs.slots ∧ (startWrite s).nvs.geometry = s.nvs.geometry := by
  unfold startWrite
  split <;> exact ⟨rfl, rfl⟩

theorem storeCopy_slot_self (n : Nvs) (k : Fin 10) (c : Option Preset) :
    (storeCopy n (.preset k c)).slots.get k = .written c (presetCheck c) :=
  Vector.getElem_set_self k.isLt

theorem storeCopy_slot_of_ne {k m : Fin 10} (other : m ≠ k) (n : Nvs) (c : Option Preset) :
    (storeCopy n (.preset k c)).slots.get m = n.slots.get m :=
  Vector.getElem_set_ne k.isLt m.isLt fun same => other (Fin.ext same.symm)

/-! ## NV_WRITE_END -/

theorem writeEnd_frame (s : State) : Unchanged [.nvs, .attention] s (writeEnd s) := by
  cases flight : s.nvs.inFlight with
  | none => rw [writeEnd_of_none flight]; exact .refl _ _
  | some f =>
    rw [writeEnd_of_flight flight]
    exact (((withNvs_frame s _).weaken (by simp)).trans ((raiseBoth_frame .nv _).weaken (by simp))).trans
      ((startWrite_frame _).weaken (by simp))

/-- The write that begins next raises no cause of its own. -/
theorem writeEnd_joined {f : Flight} (flight : s.nvs.inFlight = some f) :
    JoinedBoth (causeBit .nv) s (writeEnd s) := by
  have joined : JoinedBoth (causeBit .nv) s (writeStored f s) := raiseBoth_joined .nv (s.withNvs _)
  obtain ⟨onM, onS⟩ := startWrite_frame (writeStored f s) .attention (by simp)
  rw [writeEnd_of_flight flight, JoinedBoth, onM, onS]
  exact joined

/-- The stored items after the end of a write are those with its copy. -/
theorem writeEnd_stored {f : Flight} (flight : s.nvs.inFlight = some f) :
    (writeEnd s).nvs.slots = (storeCopy s.nvs f).slots ∧
      (writeEnd s).nvs.geometry = (storeCopy s.nvs f).geometry := by
  rw [writeEnd_of_flight flight]
  exact startWrite_stored _

/-- Settles O60: the copy is stored, then the next write begins from the dirty set as it stands. -/
theorem storeWriteEndKeepsTheCopyAndStartsTheNext :
    Obligations.StoreWriteEndKeepsTheCopyAndStartsTheNext := by
  intro s awake
  refine ⟨writeEnd s, exec_event rfl awake, writeEnd_of_none, fun f flight => ?_⟩
  obtain ⟨slots, geometry⟩ := writeEnd_stored flight
  have dirty : (writeStored f s).nvs.dirty = s.nvs.dirty := storeCopy_dirty s.nvs f
  refine ⟨writeEnd_frame s, writeEnd_joined flight, ?_, ?_, fun clean => ?_, fun i rest waiting => ?_⟩
  · rintro k c rfl
    rw [slots]
    exact ⟨geometry, storeCopy_slot_self s.nvs k c, fun m other => storeCopy_slot_of_ne other s.nvs c⟩
  · rintro c rfl
    exact ⟨geometry, slots⟩
  · rw [writeEnd_of_flight flight, startWrite_of_clean (dirty.trans clean)]
    exact ⟨dirty.trans clean, rfl⟩
  · rw [writeEnd_of_flight flight, startWrite_of_waiting rfl (dirty.trans waiting)]
    exact ⟨rfl, congrArg some (by cases i <;> rfl)⟩

end Sys2Proof.Machine
end

section
/-! The store law. What the start of a write finds need not be waiting for one: the dirty set is rising and the
written items carry their check values. The start of a write makes that the law. -/

namespace Sys2Proof.Machine

variable {s t : State} {n : Nvs} {l : List Part} {P : State → Prop}

/-! ## The store before a write is started (R171, R172) -/

/-- The dirty set is rising, and every item that was written whole carries the check value of its bytes. -/
structure Nvs.Sound (n : Nvs) : Prop where
  rising : Rising n.dirty
  slots : ∀ k c v, n.slots.get k = .written c v → v = presetCheck c
  geometry : ∀ c v, n.geometry = .written c v → v = settingsCheck c

theorem storeLaw_iff (s : State) :
    StoreLaw s ↔ s.nvs.Sound ∧ (s.nvs.inFlight = none → s.nvs.dirty = []) :=
  ⟨fun ⟨rising, idle, slots, geometry⟩ => ⟨⟨rising, slots, geometry⟩, idle⟩,
    fun ⟨sound, idle⟩ => ⟨sound.rising, idle, sound.slots, sound.geometry⟩⟩

theorem StoreLaw.sound (h : StoreLaw s) : s.nvs.Sound := ((storeLaw_iff s).mp h).1

/-- The lowest dirty item is taken for a write, so none waits while no write is in flight. -/
theorem Nvs.Sound.startWrite (h : s.nvs.Sound) : StoreLaw (startWrite s) := by
  cases flight : s.nvs.inFlight with
  | some f =>
    rw [startWrite_of_flight flight]
    exact (storeLaw_iff s).mpr ⟨h, fun free => nomatch flight.symm.trans free⟩
  | none =>
    cases dirty : s.nvs.dirty with
    | nil =>
      rw [startWrite_of_clean dirty]
      exact (storeLaw_iff s).mpr ⟨h, fun _ => dirty⟩
    | cons i rest =>
      have later : Rising rest := (List.pairwise_cons.mp (dirty ▸ h.rising)).2
      rw [startWrite_of_waiting flight dirty]
      exact (storeLaw_iff _).mpr ⟨⟨later, h.slots, h.geometry⟩, nofun⟩

theorem Nvs.Sound.storeCopy (h : n.Sound) (f : Flight) : (storeCopy n f).Sound where
  rising := by
    rw [storeCopy_dirty]
    exact h.rising
  slots k c v written := by
    cases f with
    | geometry => exact h.slots k c v written
    | preset m copy =>
      by_cases same : k = m
      · subst same
        rw [storeCopy_slot_self] at written
        cases written
        rfl
      · rw [storeCopy_slot_of_ne same] at written
        exact h.slots k c v written
  geometry c v written := by
    cases f with
    | preset => exact h.geometry c v written
    | geometry copy =>
      cases written
      rfl

/-- A part reset empties the dirty set and damages the item in flight (R172). -/
theorem Nvs.Sound.storeReset (h : n.Sound) : (storeReset n).Sound where
  rising := .nil
  slots k c v written := by
    by_cases cut : ∃ copy, n.inFlight = some (.preset k copy)
    · obtain ⟨_, flight⟩ := cut
      cases (storeReset_slot_of_flight flight).symm.trans written
    · exact h.slots k c v ((storeReset_slot_of_other cut).symm.trans written)
  geometry c v written := by
    by_cases cut : ∃ copy, n.inFlight = some (.geometry copy)
    · obtain ⟨_, flight⟩ := cut
      cases (storeReset_geometry_of_flight flight).symm.trans written
    · exact h.geometry c v ((storeReset_geometry_of_other cut).symm.trans written)

/-! ## What reaches the store -/

theorem StoreLaw.markDirty (h : StoreLaw s) (i : Item) : StoreLaw (markDirty i s) :=
  Nvs.Sound.startWrite (s := s.withNvs { s.nvs with dirty := insertItem i s.nvs.dirty })
    ⟨h.sound.rising.insertItem i, h.sound.slots, h.sound.geometry⟩

theorem StoreLaw.writeEnd (h : StoreLaw s) : StoreLaw (writeEnd s) := by
  cases flight : s.nvs.inFlight with
  | none => rwa [writeEnd_of_none flight]
  | some f =>
    obtain ⟨rising, slots, geometry⟩ := h.sound.storeCopy f
    rw [writeEnd_of_flight flight]
    exact Nvs.Sound.startWrite (s := writeStored f s) ⟨rising, slots, geometry⟩

theorem StoreLaw.partReset (h : StoreLaw s) : StoreLaw (partReset s) :=
  (storeLaw_iff _).mpr ⟨h.sound.storeReset, fun _ => rfl⟩

/-- A change of other parts keeps the store law. -/
theorem StoreLaw.unchanged (h : StoreLaw s) (frame : Unchanged l s t) (kept : Part.nvs ∉ l := by decide) :
    StoreLaw t := by
  unfold StoreLaw
  rwa [frame .nvs kept]

theorem StoreLaw.requestBuild (h : StoreLaw s) : StoreLaw (requestBuild s) := h.unchanged (requestBuild_frame s)

/-- The operations of the lens do not reach the store. -/
theorem storeLaw_lens : LensClosed StoreLaw where
  msc _ _ _ h := h
  fdt _ _ h := h
  raise _ _ _ h := h
  build _ h := h.requestBuild
  axis _ _ _ _ h := h
  take _ _ _ _ _ _ _ _ h := h
  mark _ h := h

/-- Nothing that follows the presenting of a sweep end reaches the store. -/
theorem storeLaw_sweep : SweepClosed StoreLaw where
  choices _ _ h := h
  afc _ _ h := h
  lps _ _ _ h := h
  axis _ _ _ h := h
  mark _ h := h
  msc _ _ h := h
  fdt _ _ h := h
  build _ h := h.requestBuild
  raise _ _ _ _ h := h

/-! ## Settings, presets, profile and tables -/

theorem StoreLaw.changeSettings (h : StoreLaw s) (x : Settings) : StoreLaw (changeSettings x s) :=
  (StoreLaw.markDirty (s := s.withGeo { s.geo with settings := x }) h .geometry).requestBuild

theorem StoreLaw.storeSettings (h : StoreLaw s) (x : Settings) : StoreLaw (storeSettings x s) := by
  unfold Machine.storeSettings
  split
  · exact h
  · exact h.changeSettings x

theorem StoreLaw.changeSlot (h : StoreLaw s) (k : Fin 10) (x : Option Preset) : StoreLaw (changeSlot k x s) :=
  StoreLaw.markDirty (s := s.withPtb { s.ptb with slots := s.ptb.slots.set k x }) h (.preset k)

theorem StoreLaw.savePreset (h : StoreLaw s) (x : SaveOperands) : StoreLaw (savePreset x s).1 := by
  unfold Machine.savePreset
  split
  · exact h
  · exact h.changeSlot _ _

theorem StoreLaw.erasePreset (h : StoreLaw s) (k : Fin 10) : StoreLaw (erasePreset k s).1 := by
  unfold Machine.erasePreset
  split
  · exact h
  · exact h.changeSlot _ _

theorem StoreLaw.withTrims (h : StoreLaw s) (x : Preset) : StoreLaw (withTrims x s) := by
  unfold Machine.withTrims
  split
  · exact h
  · exact h.changeSettings _

theorem StoreLaw.recallPreset (h : StoreLaw s) (p : Port) (k : Fin 10) (g : Byte) :
    StoreLaw (recallPreset p k g s).1 := by
  unfold Machine.recallPreset
  split
  · exact h
  · exact acceptRecall_after_formed storeLaw_lens ((grouped_of_lens storeLaw_lens h).withTrims _)
  · exact h

theorem StoreLaw.writeProfile (h : StoreLaw s) (k : ProfileSection) (o : Nat) (d : List Byte) :
    StoreLaw (writeProfile k o d s).1 := by
  unfold Machine.writeProfile
  split
  · exact h
  · split
    · exact h
    · dsimp only
      split
      · exact h.unchanged (acceptedWrite_frame _ _ _ _ _)
      · exact h

theorem StoreLaw.takeNow (h : StoreLaw s) (g c : Nat) : StoreLaw (takeNow g c s).1 := by
  unfold Machine.takeNow
  split
  · exact h
  · split <;> exact h

theorem StoreLaw.dropNow (h : StoreLaw s) (g : Nat) : StoreLaw (dropNow g s).1 := by
  unfold Machine.dropNow
  split <;> exact h

/-! ## The ports -/

/-- The taking of a command keeps what its effect and a change of port records keep. -/
theorem takeCommand_keeps_of_port {α : Type} {c : Cmd} {parse : List Byte → Option α}
    {run : α → State → State × Answer} (port : ∀ s p x, P s → P (s.setPort p x))
    (effect : ∀ x t, P t → P (run x t).1) (p : Port) (d : List Byte) (hs : P s) :
    P (takeCommand c parse run p d s) := by
  unfold takeCommand
  split
  · exact hs
  · exact port _ _ _ (checkCommand_keeps effect p d (port _ _ _ hs))

/-- The taking of any command of R160. -/
theorem StoreLaw.takeKnown (h : StoreLaw s) (c : Cmd) (p : Port) (d : List Byte) :
    StoreLaw (takeKnown c p d s) := by
  have lens := storeLaw_lens
  have sweep := storeLaw_sweep
  have taken : ∀ {α : Type} {c : Cmd} {parse : List Byte → Option α} {run : α → State → State × Answer},
      (∀ x t, StoreLaw t → StoreLaw (run x t).1) → StoreLaw (takeCommand c parse run p d s) :=
    fun effect => takeCommand_keeps_of_port (fun _ _ _ ht => ht) effect p d h
  cases c
  case resetPart =>
    change StoreLaw (takeResetPart p d s)
    unfold takeResetPart
    split
    · exact h
    · split
      · exact h.partReset
      · exact taken fun _ _ ht => ht
  case presetSave => exact taken fun x _ ht => ht.savePreset x
  case presetErase => exact taken fun k _ ht => ht.erasePreset k
  case presetRecall => exact taken fun x _ ht => ht.recallPreset p x.1 x.2
  case trims | keystone | orientation => exact taken fun _ _ ht => ht.storeSettings _
  case rebuild => exact taken fun _ _ ht => ht.requestBuild
  case profileWrite => exact taken fun x _ ht => ht.writeProfile x.1 x.2.1 x.2.2
  case profileRead => exact taken fun x _ ht => readProfile_keeps x.1 x.2.1 x.2.2 ht
  case lightOn => exact taken fun x _ ht => sweep.lightOnNow x ht
  case lightOff => exact taken fun _ _ ht => sweep.lightOffNow ht
  case powerDown => exact taken fun _ _ ht => sweep.powerDownNow ht
  case powerUp => exact taken fun _ _ ht => sweep.powerUpNow ht
  case clearTrip => exact taken fun _ _ ht => sweep.clearTripNow ht
  case acoustic => exact taken fun m t ht => ht.unchanged (setAcoustic_frame m t)
  case move => exact taken fun x _ ht => moveNow_keeps lens p x ht
  case home => exact taken fun x _ ht => homeNow_keeps lens p x.1 x.2 ht
  case stop => exact taken fun x _ ht => stopNow_keeps lens x ht
  case drift => exact taken fun x _ ht => driftNow_keeps lens x ht
  case takeTable => exact taken fun x _ ht => ht.takeNow x.1 x.2
  case dropTable => exact taken fun g _ ht => ht.dropNow g
  all_goals exact taken fun _ _ ht => ht

theorem StoreLaw.exchange (h : StoreLaw s) (p : Port) (b : List Byte) (bits : Nat) :
    StoreLaw (exchange p b bits s) := by
  unfold Machine.exchange
  split
  · exact h
  · split
    · cases p <;> exact h
    · exact h.unchanged (loseFrame_frame p _ s)
    · exact h
    · unfold takeFrame
      split
      · exact h.takeKnown _ _ _
      · exact h

/-! ## Sweeps, rails and builds -/

theorem StoreLaw.presentAndAct (h : StoreLaw s) (o : Orientation) : StoreLaw (presentAndAct o s) := by
  have rearmed : StoreLaw (rearmMotion s) := h
  exact storeLaw_sweep.presentAndAct o (rearmed.unchanged (presentAll_frame _))

theorem StoreLaw.completeConversion (h : StoreLaw s) (c : Channel) (code : Int) :
    StoreLaw (completeConversion c code s) := by
  have next : ∀ x, StoreLaw (setConversion x (applyConversion c code s)) := fun _ => h
  unfold Machine.completeConversion
  dsimp only
  split
  · exact h
  · split
    · split
      · exact next _
      · exact ((next _).unchanged (joinPair_frame _)).presentAndAct _
    · exact h
  · split
    · exact (next _).presentAndAct _
    · exact h
  · split
    · exact next _
    · exact h

theorem StoreLaw.railRise (h : StoreLaw s) : StoreLaw (railRise s) := by
  have risen : StoreLaw (scanRise s) := h
  unfold Machine.railRise
  split
  · exact h
  · exact (risen.unchanged (enterStarting_frame _)).requestBuild

theorem StoreLaw.railLoss (h : StoreLaw s) : StoreLaw (railLoss s) := by
  by_cases up : s.lps.power ≠ .off
  · obtain ⟨x, y, k, loss, -⟩ := railLoss_eq up
    have dark : StoreLaw (darkened s) := h.unchanged (darkened_frame s)
    rw [loss]
    exact lensLoss_keeps storeLaw_lens (s := (darkened s).withBkm x) dark
  · rwa [Machine.railLoss, if_neg fun k => up ((mainRailUp_iff s).mp k)]

theorem StoreLaw.endReset (h : StoreLaw s) (x : InputLevels) : StoreLaw (endReset x s) := by
  have awake : StoreLaw (s.withInReset false) := h
  by_cases running : s.inReset = true
  · rw [endReset_eq running]
    exact (awake.unchanged (resetEnded_frame x s)).requestBuild
  · rwa [Machine.endReset, if_neg running]

theorem StoreLaw.finishBuild (h : StoreLaw s) : StoreLaw (finishBuild s) := by
  rcases finishBuild_cases s with same | ⟨x, ends⟩
  · rwa [same]
  · rw [ends]
    exact (h.unchanged (verdictGiven_frame x s)).unchanged (afterBuild_frame _)

/-! ## STEP -/

/-- Every command keeps the store law. -/
theorem StoreLaw.afterCommand (h : StoreLaw s) (i : Instr) : StoreLaw (afterCommand i s) := by
  have lens := storeLaw_lens
  cases i
  case unknownCommand => exact h.exchange _ _ _
  case brokenFrame => exact h.exchange _ _ _
  case responseRead => exact outsideReset_keeps h h
  case partReset => exact h.partReset
  case resetEnd levels => exact h.endReset levels
  case mainRailRise => exact outsideReset_keeps h.railRise h
  case mainRailLoss => exact outsideReset_keeps h.railLoss h
  case coverChange c => exact outsideReset_keeps (h.unchanged (coverTo_frame c s)) h
  case homeSwitchChange a b =>
    exact outsideReset_keeps (f := fun t => occasionAfter a t (switchChange a b t))
      (occasionAfter_keeps lens _ _ (switchChange_keeps lens _ _ h)) h
  case tachPulse f width => exact outsideReset_keeps (h.unchanged (countPulse_frame f width s)) h
  case sweepStart => exact outsideReset_keeps (h.unchanged (startSweep_frame s)) h
  case standbyBrdConversion => exact outsideReset_keeps (h.unchanged (startStandby_frame s)) h
  case conversionComplete c code => exact outsideReset_keeps (h.completeConversion c code.toNat) h
  case gateEnd => exact outsideReset_keeps (f := gateEnded) (h.unchanged (gateEnded_frame s)) h
  case provingDeadlineExpiry => exact outsideReset_keeps (storeLaw_sweep.provingExpiry h) h
  case step => exact outsideReset_keeps (axisStep_keeps lens _ h) h
  case dwellExpiry a =>
    exact outsideReset_keeps (f := fun t => occasionAfter a t (dwellEnd a t))
      (occasionAfter_keeps lens _ _ (dwellEnd_keeps lens _ h)) h
  case buildEnd => exact outsideReset_keeps h.finishBuild h
  case loanExpiry => exact outsideReset_keeps (f := loanExpires) h h
  case nvWriteEnd => exact outsideReset_keeps h.writeEnd h
  all_goals exact h.takeKnown _ _ _

/-- Settles O14: of the rows that reach the store each ends with a start of a write or empties the dirty set. -/
theorem everyStepKeepsTheStoreLaw : Obligations.EveryStepKeepsTheStoreLaw := by
  intro s t h hstep
  unfold step at hstep
  split at hstep
  · cases hstep
    exact h.unchanged (passMillisecond_frame s)
  · rw [exec_next] at hstep
    cases hstep
    rename_i rest _
    exact StoreLaw.afterCommand (s := s.withPending rest) h _

end Sys2Proof.Machine
end

section
/-! FRONT OF THE QUEUE. On a queue that is not empty a step is the front command on the queue's rest. -/

namespace Sys2Proof.Machine

variable {s : State} {c : Instr} {q : List Instr}

theorem step_of_front (h : s.pending = c :: q) : step s = exec c (s.withPending q) := by
  unfold step
  rw [h]

/-- Settles O1: the command put in front is the one the step reads, and the rest replaces the queue again. -/
theorem stepRunsFrontCommand : Obligations.StepRunsFrontCommand := by
  intro c q s
  have front : (s.withPending (c :: q)).pending = c :: q := State.withPending_pending s (c :: q)
  calc step (s.withPending (c :: q))
      _ = exec c ((s.withPending (c :: q)).withPending q) := step_of_front front
      _ = exec c (s.withPending q) := by rw [State.withPending_withPending]

end Sys2Proof.Machine
end
